-- ==== Sys2Proof/Word.lean ====
section
/-!
DEFINITION. The words of the lane: 32-bit register and memory words, bytes, and the plainest
operations on their bit fields. Byte order is little-endian throughout (00_scope.md).
-/

namespace Sys2Proof

/-- A 32-bit word. -/
abbrev Word := BitVec 32

/-- A byte. -/
abbrev Byte := BitVec 8

namespace Word

/-- The mask of `w` ones starting at bit `lo`. -/
def mask (lo w : Nat) : Word := BitVec.ofNat 32 ((2 ^ w - 1) * 2 ^ lo)

/-- The `w` bits of `x` from bit `lo` up, as a number. -/
def field (x : Word) (lo w : Nat) : Nat := x.toNat / 2 ^ lo % 2 ^ w

/-- `x` with its `w` bits from `lo` up replaced by the low bits of `v`. -/
def put (x : Word) (lo w : Nat) (v : Nat) : Word :=
  (x &&& ~~~(mask lo w)) ||| (BitVec.ofNat 32 (v % 2 ^ w * 2 ^ lo))

/-- Bit `i` of `x`. -/
def bit (x : Word) (i : Nat) : Bool := x.getLsbD i

/-- One bit as a number. -/
def ofBool (b : Bool) : Nat := if b then 1 else 0

end Word

end Sys2Proof
end

