-- ==== Sys2Proof/Syntax.lean ====
section
/-!
DEFINITION. The commands that the lane takes: one constructor of `Instr` for each row of
spec/opcode_table.json, with the row's operands. A command is an instruction of one of the nine
Mbarra engines, a register write of one of them, or an event at the lane's balls, in its analog
parts or on its links.
-/

namespace Sys2Proof

/-- The three lanes of the module (00_scope.md). -/
inductive Lane where
  | A | B | C
deriving DecidableEq, Repr

/-- The engines that run Mbarra (R13, R125): the two Millstone cores, S0 to S4, the Miller core
and the Flume engine. In lockstep `msp0` stands for the pair. -/
inductive Engine where
  | msp0 | msp1 | slu (n : Fin 5) | miller | flume
deriving DecidableEq, Repr

/-- The rails whose reset threshold makes a power-on reset (R68). -/
inductive Rail where
  | vio | vcore | vaon
deriving DecidableEq, Repr

/-- The rails with a dip warning (R67). -/
inductive DipRail where
  | vio | vcore
deriving DecidableEq, Repr

/-- What the outside gives the boot ROM (R94): the BOOT strap as read at step 1 (R46), the answer
to the VOUT_MODE read (none: the read failed three times, R57), the outcome of the injection test
(R225) and the answer to the READ_VOUT read of step 3 (none: failed under R60, R124). -/
structure BootEnv where
  bootStrap  : Bool
  voutMode   : Option Byte
  injectPass : Bool
  readVout   : Option (BitVec 16)
deriving DecidableEq, Repr

/-- How a PMBus transfer ended (R60): acknowledged, with the data read (0 for a write) and the
level of PMB_PGOOD then, a NACK, or a PEC that does not match. -/
inductive XferResult where
  | ok (data : BitVec 16) (pgood : Bool)
  | nack
  | pecBad
deriving DecidableEq, Repr

/-- Which check of R272 found the spillway faulty. -/
inductive SpillCheck where
  | currentLow | stillRising | overcurrent
deriving DecidableEq, Repr

/-- The sequence of the line-voltage crossings that the catch unit saw (R293). -/
inductive CatchSeq where
  | forward | backward | mixed
deriving DecidableEq, Repr

/-- What the catch unit observed during t_catch (R293). Speed is in 1/16 Hz. -/
structure CatchObs where
  beyond    : Bool
  crossings : Nat
  seq       : CatchSeq
  speed     : BitVec 15
  angle     : Word
deriving DecidableEq, Repr

/-- How the loopback of an own transmission read on one channel (R340, R348): whether it is valid, and whether it
differed from a bit sent. -/
structure TxEnd where
  loopOk : Bool
  differ : Bool
deriving DecidableEq, Repr

/-- A frame as a channel receives it (R328): RXD at every 1/256 µs, and when the first of these samples is taken, in
1/256 µs after the turn's start on the receiver's schedule. -/
structure FrameRx where
  line  : List Bool
  start : Int
deriving DecidableEq, Repr

/-- A STATUS token (R355). `qual`, `cand`, `clock`, `kk` and `ready` say what R29, R361, R20, R32 and R361 ask of
the sender itself: that it qualifies, may lead a formation, runs on the Knaor-corrected timebase, has lost both
Knaor channels, and holds FORM and the initial copy (DEDUCED, log entry 24). `turn` is the count of the sender's
latest turn mark (DEDUCED, log entry 24). -/
structure StatusTok where
  lane     : Lane
  rxOk0    : Bool
  rxOk1    : Bool
  mode     : BitVec 4
  role     : BitVec 2
  stopping : Bool
  scause   : BitVec 3
  unread   : BitVec 4
  elig     : Bool
  stage    : BitVec 3
  request  : Option (BitVec 4)
  held     : BitVec 5
  shorted  : BitVec 5
  turn     : BitVec 6
  qual     : Bool
  cand     : Bool
  clock    : Bool
  kk       : Bool
  ready    : Bool
deriving DecidableEq, Repr

/-- A VERSION token (R355, R100). -/
structure VersionTok where
  lane    : Lane
  version : Word
  hash    : BitVec 256
  trial   : Bool
deriving DecidableEq, Repr

/-- A FORM token (R361). -/
structure FormTok where
  tgt  : BitVec 6
  lead : Lane
deriving DecidableEq, Repr

/-- The kinds of RESIGN and LEAVE (R373). -/
inductive DepKind where
  | fault | yield | ena
deriving DecidableEq, Repr

/-- A RESIGN or LEAVE token (R355, R373): `states` gives the state of each bridge, three bits each as PSTAT.STATE
codes it (R274), and `held` which bridges a drive fault latch or a software demand holds. -/
structure DepartTok where
  lane   : Lane
  kind   : DepKind
  tgt    : BitVec 6
  states : BitVec 15
  held   : BitVec 5
deriving DecidableEq, Repr

/-- A VERDICT token (R369); the result is coded as LEAT_SHSTAT.RESULT. -/
structure VerdictTok where
  lane   : Lane
  turnno : Word
  result : BitVec 2
deriving DecidableEq, Repr

/-- A Race packet as received (R410): its words, CRC included, whether FR was high for exactly its
header word, and whether RCK ran throughout. -/
structure RacePkt where
  words : List Word
  frOk  : Bool
  rckOk : Bool
deriving DecidableEq, Repr

/-- A CAN frame: words 0 and 1 of its entry (R426) and its data bytes. -/
structure CanFrame where
  w0   : Word
  w1   : Word
  data : List Byte
deriving DecidableEq, Repr

/-- One Plumb measurement (R429): site, replica time and real-path time in one unit, Tj in quarter
degrees, and whether Tj changed by 2 °C or more, a dip was present, or the timebase was RC or a voltage change was
under way at some time during it. -/
structure PlumbMeas where
  site    : Fin 12
  replica : Nat
  real    : Nat
  tj      : Int
  tjMoved : Bool
  dip     : Bool
  unsteady : Bool
deriving DecidableEq, Repr

/-- One point of a baseline (R430): the VCORE code, Tj in quarter degrees, and the time of each
site. -/
structure BasePoint where
  code  : Nat
  tj    : Int
  times : List Nat
deriving DecidableEq, Repr

/-- How baselining ended (R431): with its points, or with a request that failed under R60. -/
inductive BaselineRes where
  | points (ps : List BasePoint)
  | requestFailed
deriving DecidableEq, Repr

/-- Format A (R130): the raw fields of the word. -/
structure FmtA where
  eng : Engine
  gd  : BitVec 5
  ga  : BitVec 5
  gb  : BitVec 5
deriving DecidableEq, Repr

/-- Format I (R130). -/
structure FmtI where
  eng : Engine
  gd  : BitVec 5
  ga  : BitVec 5
  imm : BitVec 17
deriving DecidableEq, Repr

/-- Format I of major 0x05: the shift amount imm[4:0] and imm[16:7], which must be 0 (R134). -/
structure FmtSh where
  eng : Engine
  gd  : BitVec 5
  ga  : BitVec 5
  amt : BitVec 5
  hi  : BitVec 10
deriving DecidableEq, Repr

/-- A long-immediate pair (R135): the prefix word's fields, its [11:0] and the second word. -/
structure FmtLI where
  eng : Engine
  gd  : BitVec 5
  ga  : BitVec 5
  low : BitVec 12
  imm : Word
deriving DecidableEq, Repr

/-- Format M (R130). -/
structure FmtM where
  eng : Engine
  gd  : BitVec 5
  ga  : BitVec 5
  off : BitVec 14
deriving DecidableEq, Repr

/-- Major 0x13, indexed (R137): size, scale and [11:6]. -/
structure FmtX where
  eng  : Engine
  gd   : BitVec 5
  ga   : BitVec 5
  gb   : BitVec 5
  size : BitVec 2
  sc   : BitVec 2
  hi   : BitVec 6
deriving DecidableEq, Repr

/-- Format B (R130). -/
structure FmtB where
  eng : Engine
  off : BitVec 24
deriving DecidableEq, Repr

/-- Format X (R130): gd, ga and [11:0]. -/
structure FmtS where
  eng : Engine
  gd  : BitVec 5
  ga  : BitVec 5
  num : BitVec 12
deriving DecidableEq, Repr

/-- Format C (R169). -/
structure FmtC where
  eng : Engine
  ld  : BitVec 4
  la  : BitVec 4
  lb  : BitVec 4
  t   : Bool
  arg : BitVec 12
deriving DecidableEq, Repr

/-- Format C of SATQ (R170): ARG split into [9:5] and SH; MODE is the command's. -/
structure FmtQ where
  eng : Engine
  ld  : BitVec 4
  la  : BitVec 4
  lb  : BitVec 4
  t   : Bool
  mid : BitVec 5
  sh  : BitVec 5
deriving DecidableEq, Repr

/-- Format C of LLD and LST (R170): ARG split into OFF and the base register. -/
structure FmtL where
  eng  : Engine
  ld   : BitVec 4
  la   : BitVec 4
  lb   : BitVec 4
  t    : Bool
  off  : BitVec 6
  base : BitVec 5
deriving DecidableEq, Repr

/-- What a wake attempt finds (R77, R94): the READ_VOUT that confirms the supply, and what the boot after it finds. -/
structure WakeEnv where
  vout : BitVec 16
  boot : BootEnv
deriving DecidableEq, Repr

/-- A frame's launch (R332, R345): its bucket, and by how many microticks a fault of the engine delays it, 0 for a healthy
engine. -/
structure Launch where
  bucket : BitVec 8
  late   : Int
deriving DecidableEq, Repr

/-- What the comparator sees of one core as it retires an instruction (R220): write-back data, destination (register file
and number) and enables; address, store data, size and direction, target class and atomic type of its access; next pc,
PSW and cw.fcsr; exception entry with CODE, INFO, and FROMTASK and vector offset; control-word write; the second result;
SEAL, SLEEP, the register-space strobe, and WAIT completion or EVENT point; the lag FIFO's key, kind, order and check
bits; and the retirement count. -/
structure CmpView where
  wb       : Word := 0
  dest     : BitVec 7 := 0
  wen      : BitVec 4 := 0
  addr     : Word := 0
  data     : Word := 0
  size     : BitVec 4 := 0
  target   : BitVec 4 := 0
  npc      : Word := 0
  psw      : BitVec 11 := 0
  fcsr     : BitVec 10 := 0
  taken    : Bool := false
  code     : Byte := 0
  info     : BitVec 12 := 0
  vector   : BitVec 2 := 0
  cwNum    : BitVec 12 := 0
  cwEn     : Bool := false
  dest2    : BitVec 7 := 0
  en2      : Bool := false
  sealing  : Bool := false
  sleeping : Bool := false
  strobe   : Bool := false
  point    : BitVec 2 := 0
  fifoKey  : Word := 0
  fifoKind : BitVec 3 := 0
  fifoPos  : BitVec 5 := 0
  fifoSum  : Byte := 0
  retired  : Word := 0
deriving DecidableEq, Repr

/-- The commands. -/
inductive Instr where
  /-- A rail falls below its reset threshold for 1 µs and the lane enters power-on reset (R68). -/
  | por (rail : Rail)
  /-- Power-on reset is released 1 ms after VAON, VIO and VCORE have all risen above their release levels (R52). -/
  | porRelease (split : Bool)
  /-- RST_N held low for 1 µs or longer resets the lane (R119). -/
  | rstN (widthNs : Nat)
  /-- A keyed write to SYS_RSTCTL by supervisor Millstone code requests a soft reset in the permitted modes (R106). -/
  | softReset (e : Engine) (v : Word)
  /-- A reset is released at the later of its own interval and the one already in progress, and the boot begins (R120). -/
  | resetRelease (env : BootEnv)
  /-- Phase 0 has not executed SEAL within 500 ms and the boot halts with SEAL_LATE (R95). -/
  | sealLate
  /-- A write to SYS_TBSEL.SEL requests one step along RC, crystal, Knaor-corrected, subject to lock, sync and mode conditions (R19). -/
  | timebaseSelect (e : Engine) (v : Word)
  /-- An accepted timebase step takes effect at the next 1 µs boundary of the target timebase (R19). -/
  | timebaseStep
  /-- Loss of DLL lock on the crystal or Knaor-corrected timebase sets LOCK_LOST and makes the lane resign and resign-reset (R18). -/
  | dllLockLost
  /-- A keyed SYS_MODEREQ write asks for TRIPLEX, reported in STATUS and evaluated at turn marks for up to 16 marks (R363). -/
  | modeRequestTriplex (e : Engine) (key : BitVec 16)
  /-- A keyed SYS_MODEREQ write asks for DUPLEX, reported in STATUS and evaluated at turn marks (R363). -/
  | modeRequestDuplex (e : Engine) (key : BitVec 16)
  /-- A keyed SYS_MODEREQ write asks for READY from a RUN mode, SAFE-HOLD, SERVICE or COMMISSION (R29). -/
  | modeRequestReady (e : Engine) (key : BitVec 16)
  /-- A keyed SYS_MODEREQ write asks for COMMISSION from READY (R29). -/
  | modeRequestCommission (e : Engine) (key : BitVec 16)
  /-- A keyed SYS_MODEREQ write asks for SERVICE, which needs zero Cog speed and the park input (R29). -/
  | modeRequestService (e : Engine) (key : BitVec 16)
  /-- A keyed SYS_MODEREQ write asks for SAFE-HOLD, starting the stop program from a RUN mode (R34). -/
  | modeRequestSafeHold (e : Engine) (key : BitVec 16)
  /-- A keyed SYS_MODEREQ write asks for STANDBY from READY (R73). -/
  | modeRequestStandby (e : Engine) (key : BitVec 16)
  /-- A keyed SYS_MODEREQ write asks for DORMANT from READY (R73). -/
  | modeRequestDormant (e : Engine) (key : BitVec 16)
  /-- A keyed SYS_MODEREQ write names a transition not in the table and ends with REQST = 0b100 (R29). -/
  | modeRequestOther (e : Engine) (target : BitVec 4) (key : BitVec 16)
  /-- The stop program ends and the lane enters SAFE-HOLD at the next turn mark with CAUSE from SCAUSE (R29). -/
  | stopProgramComplete
  /-- No turn mark comes within 1 ms of stop-program completion and the lane enters SAFE-HOLD then (R29). -/
  | stopCompletionTimeout
  /-- VANA below 4.60 V for 2 µs sets VANA_UV, counting as a fault of the lane in a RUN mode (R54). -/
  | vanaUv
  /-- VANA above 4.70 V for 50 µs clears VANA_UV (R54). -/
  | vanaUvClear
  /-- A write to PWR_VREQ starts a VCORE request when the governor is off and none is outstanding (R62). -/
  | voltageRequest (e : Engine) (v : Word)
  /-- The governor requests its target, in steps of at most 5 codes, whenever it differs from PENDING and nothing is outstanding (R63). -/
  | governorRequest
  /-- A PMBus transfer ends; a NACK or PEC mismatch repeats it, and the third failure sets PMBUS_ERR (R60). -/
  | pmbusTransferEnd (r : XferResult)
  /-- 100 µs after VOUT_COMMAND and every 200 µs after, the lane reads READ_VOUT to seek acknowledgement (R59). -/
  | readVoutPoll
  /-- A request unacknowledged 5 ms after its VOUT_COMMAND start is abandoned with PMBUS_TIMEOUT (R60). -/
  | pmbusTimeout
  /-- A falling edge on PMB_ALERT_N schedules a STATUS_WORD read after the transfer in progress (R61). -/
  | pmbAlert
  /-- The lane reads STATUS_WORD and sets REG_FAULT if a fault bit is set (R61). -/
  | statusWordRead (v : BitVec 16)
  /-- PMB_PGOOD falls with no request outstanding and PGOOD_LOST is set (R61). -/
  | pgoodLost
  /-- After 1,024 ms with no overrun signal, the governor lowers OVR by 1 (R64). -/
  | ovrDecay
  /-- VIO or VCORE below its warning threshold for 2 µs sets BOW, refuses Cistern writes and withholds Race credits (R69). -/
  | dipWarning (rail : DipRail)
  /-- The rail above warning + 30 mV for 50 µs clears its bit, sets BOW_CLEAR and ends the refusal and credit hold (R70). -/
  | dipClear (rail : DipRail)
  /-- Once the Cistern write in progress completes, the clamps are applied and the retention bank is switched (R73). -/
  | lowPowerClamp
  /-- The Wellhead's OPERATION = 0x40 write ends and the lane is in STANDBY or DORMANT (R73). -/
  | lowPowerEntered
  /-- A filtered low on KNR1_RXD or KNR2_RXD wakes a lane set for activity (R75). -/
  | knaorActivityWake (ch : Fin 2)
  /-- Three low-high cycles within the phase limits on RXD wake a lane set for pattern (R75). -/
  | knaorWakePattern (ch : Fin 2)
  /-- A filtered rising edge of ENA after a low wakes the lane (R75). -/
  | enaWake
  /-- A stable change of a safe-input line or SACK wakes the lane (R75). -/
  | safeWireWake
  /-- WHD_WTIMER elapses after low-power entry and wakes the lane (R75). -/
  | wakeTimer
  /-- PGOOD and READ_VOUT at 0.80 V are confirmed; the retention bank and clamps are released and warm boot starts (R77). -/
  | wakePowerConfirmed (w : WakeEnv)
  /-- VCORE is not confirmed within 5 ms; the Wellhead switches off and waits 20 ms, giving up after eight attempts (R78). -/
  | wakePowerTimeout
  /-- After the 20 ms wait the Wellhead repeats the wake power-up from VOUT_COMMAND (R78). -/
  | wakeRetry
  /-- A write to a WHD register is posted to the Wellhead (R117). -/
  | whdWrite (e : Engine) (addr v : Word)
  /-- The Wellhead takes a posted write at the first slow-clock edge at least 100 ns after it completed (R117). -/
  | whdWriteTaken
  /-- A write to a DRV register is posted to the drive die (R275). -/
  | drvWrite (e : Engine) (addr v : Word)
  /-- The drive die takes a posted DRV write at the next qualifying slow-clock edge (R275). -/
  | drvWriteTaken
  /-- A write to a register without behaviour of its own acts on each field by its access code (R103). -/
  | registerWrite (e : Engine) (addr v : Word)
  /-- A write to a shadowed field replaces its buffered value and sets PEND for its group (R110). -/
  | shWrite (e : Engine) (addr v : Word)
  /-- A write to SYS_UPD fires every selected group that OWNER admits and counts the denied bits (R111). -/
  | sysUpd (e : Engine) (v : Word)
  /-- A write to SYS_WDG sets the watchdog period and arming, ignored whole if EN with PERIOD below 4 (R107). -/
  | watchdogConfig (e : Engine) (v : Word)
  /-- The Miller core's keyed write to SYS_WDGKICK restarts the watchdog timeout (R107). -/
  | watchdogKick (e : Engine) (v : Word)
  /-- The Miller watchdog elapses and the lane takes a watchdog reset, deferred in SIMPLEX (R108). -/
  | watchdogTimeout
  /-- CIS_CMD VERIFY checks an EMPTY slot's image and floor and makes it STAGED or REJECTED (R89). -/
  | verify (e : Engine) (slot : Fin 4) (key : BitVec 16)
  /-- CIS_CMD ACTIVATE makes a STAGED slot TRIAL and shifts ACTIVE to PREVIOUS (R89). -/
  | activate (e : Engine) (slot : Fin 4) (key : BitVec 16)
  /-- CIS_CMD ROLLBACK makes PREVIOUS the TRIAL and ACTIVE the PREVIOUS (R89). -/
  | rollback (e : Engine) (slot : Fin 4) (key : BitVec 16)
  /-- CIS_CMD ERASE zeroes a slot's header sector and makes it EMPTY (R89). -/
  | erase (e : Engine) (slot : Fin 4) (key : BitVec 16)
  /-- CIS_CMD RAISE_FLOOR raises the security floor to CIS_ARG within the ACTIVE version (R86). -/
  | raiseFloor (e : Engine) (slot : Fin 4) (key : BitVec 16)
  /-- CIS_CMD FUSE_KEY programs the key hash, its CRC and the lock bit into the key well (R87). -/
  | fuseKey (e : Engine) (slot : Fin 4) (key : BitVec 16)
  /-- A running Cistern command ends, setting RESULT and DONE and raising source 15 (R89). -/
  | cisCommandDone
  /-- A keyed CIS_CONFIRM turns the running TRIAL slot into ACTIVE in READY or COMMISSION (R91). -/
  | cisConfirm (e : Engine) (v : Word)
  /-- A write to CIS_DATA writes a word at CIS_ADDR and advances it, or is held or refused (R90). -/
  | cisDataWrite (e : Engine) (v : Word)
  /-- A CIS_DATA write in progress completes and a held write may proceed (R90). -/
  | cisDataWriteDone (readBack : Bool)
  /-- A read of CIS_DATA returns the word at CIS_ADDR and advances the address (R104). -/
  | cisDataRead (e : Engine) (gd : BitVec 5)
  /-- A write to CAT_DONE reports completion of N occurrences of a source (R232). -/
  | catDone (e : Engine) (v : Word)
  /-- With IE = 1 and an enabled source pending, the engine takes the EVENT entry before the next instruction (R155). -/
  | eventEntry (e : Engine)
  /-- A chosen Wellhead watch entry sees its edge and raises its source or logs the firing (R240). -/
  | watchEntryFire (n : Fin 16) (rising : Bool)
  /-- gd := ga + gb, writing N Z C V (R132). -/
  | add (o : FmtA)
  /-- gd := ga - gb, writing N Z C V (R132). -/
  | sub (o : FmtA)
  /-- gd := ga + gb + C (R132). -/
  | addc (o : FmtA)
  /-- gd := ga - gb - (1 - C) (R132). -/
  | subc (o : FmtA)
  /-- Saturating signed addition that sets Q on saturation (R132). -/
  | adds (o : FmtA)
  /-- Saturating signed subtraction that sets Q on saturation (R132). -/
  | subs (o : FmtA)
  /-- Sets the flags of ga - gb (R132). -/
  | cmp (o : FmtA)
  /-- Bitwise AND of ga and gb (R132). -/
  | and (o : FmtA)
  /-- Bitwise OR of ga and gb (R132). -/
  | or (o : FmtA)
  /-- Bitwise XOR of ga and gb (R132). -/
  | xor (o : FmtA)
  /-- ga AND NOT gb (R132). -/
  | andn (o : FmtA)
  /-- Left shift by gb[4:0] (R132). -/
  | shl (o : FmtA)
  /-- Logical right shift by gb[4:0] (R132). -/
  | shr (o : FmtA)
  /-- Arithmetic right shift by gb[4:0] (R132). -/
  | sar (o : FmtA)
  /-- Rotate right by gb[4:0] (R132). -/
  | ror (o : FmtA)
  /-- Low 32 bits of ga × gb (R132). -/
  | mul (o : FmtA)
  /-- High 32 bits of the signed product (R132). -/
  | mulhs (o : FmtA)
  /-- High 32 bits of the unsigned product (R132). -/
  | mulhu (o : FmtA)
  /-- Signed quotient, with defined results and V for division by zero or overflow (R133). -/
  | div (o : FmtA)
  /-- Unsigned quotient, with a defined result for division by zero (R133). -/
  | divu (o : FmtA)
  /-- Signed remainder with the sign of ga (R133). -/
  | rem (o : FmtA)
  /-- Unsigned remainder (R133). -/
  | remu (o : FmtA)
  /-- Signed minimum (R132). -/
  | min (o : FmtA)
  /-- Signed maximum (R132). -/
  | max (o : FmtA)
  /-- Unsigned minimum (R132). -/
  | minu (o : FmtA)
  /-- Unsigned maximum (R132). -/
  | maxu (o : FmtA)
  /-- Count leading zeros of ga (R132). -/
  | clz (o : FmtA)
  /-- Count trailing zeros of ga (R132). -/
  | ctz (o : FmtA)
  /-- Count set bits of ga (R132). -/
  | popc (o : FmtA)
  /-- Sign-extend ga[7:0] (R132). -/
  | sextb (o : FmtA)
  /-- Sign-extend ga[15:0] (R132). -/
  | sexth (o : FmtA)
  /-- Zero-extend ga[15:0] (R132). -/
  | zexth (o : FmtA)
  /-- Reverse the byte order of ga (R132). -/
  | rev (o : FmtA)
  /-- gd := ga + sign-extended imm17 (R134). -/
  | addi (o : FmtI)
  /-- gd := ga AND imm (R134). -/
  | andi (o : FmtI)
  /-- gd := ga OR imm (R134). -/
  | ori (o : FmtI)
  /-- gd := ga XOR imm (R134). -/
  | xori (o : FmtI)
  /-- Left shift by an immediate amount (R134). -/
  | shli (o : FmtSh)
  /-- Logical right shift by an immediate amount (R134). -/
  | shri (o : FmtSh)
  /-- Arithmetic right shift by an immediate amount (R134). -/
  | sari (o : FmtSh)
  /-- Rotate right by an immediate amount (R134). -/
  | rori (o : FmtSh)
  /-- Flags of ga - signed imm (R134). -/
  | cmpi (o : FmtI)
  /-- gd := imm17 << 15 (R134). -/
  | lui (o : FmtI)
  /-- Low 32 bits of ga × imm (R134). -/
  | muli (o : FmtI)
  /-- Flags of ga - zero-extended imm (R134). -/
  | cmpui (o : FmtI)
  /-- Two-word instruction loading a 32-bit immediate (R135). -/
  | li (o : FmtLI)
  /-- gd := ga + imm32 (R135). -/
  | addli (o : FmtLI)
  /-- gd := ga AND imm32 (R135). -/
  | andli (o : FmtLI)
  /-- gd := ga OR imm32 (R135). -/
  | orli (o : FmtLI)
  /-- gd := ga XOR imm32 (R135). -/
  | xorli (o : FmtLI)
  /-- Flags of ga - imm32 (R135). -/
  | cmpli (o : FmtLI)
  /-- fd := imm32 taken as binary32 bits (R135). -/
  | fli (o : FmtLI)
  /-- Load a sign-extended byte (R137). -/
  | ldb (o : FmtM)
  /-- Load a zero-extended byte (R137). -/
  | ldbu (o : FmtM)
  /-- Load a sign-extended half-word (R137). -/
  | ldh (o : FmtM)
  /-- Load a zero-extended half-word (R137). -/
  | ldhu (o : FmtM)
  /-- Load a word (R137). -/
  | ldw (o : FmtM) (bit14 : Bool)
  /-- Store the low byte of gd (R137). -/
  | stb (o : FmtM) (bit14 : Bool)
  /-- Store the low half-word of gd (R137). -/
  | sth (o : FmtM) (bit14 : Bool)
  /-- Store the word gd (R137). -/
  | stw (o : FmtM) (bit14 : Bool)
  /-- Load a word into an f register (R137). -/
  | fld (o : FmtM) (size : BitVec 2)
  /-- Store an f register (R137). -/
  | fst (o : FmtM) (size : BitVec 2)
  /-- Indexed sign-extending load at ga + (gb << SC) (R137). -/
  | ldx (o : FmtX)
  /-- Indexed zero-extending load (R137). -/
  | ldxu (o : FmtX)
  /-- Indexed store (R137). -/
  | stx (o : FmtX) (u : Bool)
  /-- Branch always (R139). -/
  | bal (o : FmtB)
  /-- Branch when Z = 1 (R139). -/
  | beq (o : FmtB)
  /-- Branch when Z = 0 (R139). -/
  | bne (o : FmtB)
  /-- Branch when N ≠ V (R139). -/
  | blt (o : FmtB)
  /-- Branch when N = V (R139). -/
  | bge (o : FmtB)
  /-- Branch when C = 0 (R139). -/
  | bltu (o : FmtB)
  /-- Branch when C = 1 (R139). -/
  | bgeu (o : FmtB)
  /-- Branch and write pc + 4 to g31 (R139). -/
  | call (o : FmtB)
  /-- Jump to the address in ga (R140). -/
  | jr (o : FmtA)
  /-- Jump to ga and write pc + 4 to gd (R140). -/
  | jalr (o : FmtA)
  /-- Binary32 addition (R142). -/
  | fadd (o : FmtA)
  /-- Binary32 subtraction (R142). -/
  | fsub (o : FmtA)
  /-- Binary32 multiplication (R142). -/
  | fmul (o : FmtA)
  /-- Binary32 division (R142). -/
  | fdiv (o : FmtA)
  /-- Binary32 square root (R142). -/
  | fsqrt (o : FmtA)
  /-- fd := fd + fa × fb, rounded once (R142). -/
  | fma (o : FmtA)
  /-- Lesser of fa and fb (R142). -/
  | fmin (o : FmtA)
  /-- Greater of fa and fb (R142). -/
  | fmax (o : FmtA)
  /-- Clear the sign of fa (R142). -/
  | fabs (o : FmtA)
  /-- Invert the sign of fa (R142). -/
  | fneg (o : FmtA)
  /-- Copy fa to fd (R142). -/
  | fmov (o : FmtA)
  /-- Compare fa with fb and set PSW flags (R143). -/
  | fcmp (o : FmtA)
  /-- Signed integer to binary32 (R142). -/
  | fcvtsw (o : FmtA)
  /-- Binary32 to signed integer, rounded as RM, saturating (R142). -/
  | fcvtws (o : FmtA)
  /-- Binary32 to signed integer, rounded toward zero, saturating (R142). -/
  | fcvtwsz (o : FmtA)
  /-- Move the bits of fa to gd (R142). -/
  | fmvws (o : FmtA)
  /-- Move the bits of ga to fd (R142). -/
  | fmvsw (o : FmtA)
  /-- Load with acquire ordering (R159). -/
  | lda (o : FmtA)
  /-- Store with release ordering (R159). -/
  | str (o : FmtA)
  /-- Atomic exchange of a shared-memory word (R144). -/
  | swap (o : FmtA)
  /-- Atomic compare and swap of a shared-memory word (R144). -/
  | cas (o : FmtA)
  /-- Full memory barrier (R159). -/
  | fence (o : FmtA)
  /-- Instruction-fetch barrier (R160). -/
  | ifence (o : FmtA)
  /-- Read a control word into gd (R148). -/
  | cwr (o : FmtS)
  /-- Write ga to a control word (R148). -/
  | cww (o : FmtS)
  /-- Raise TRAP with a code (R145). -/
  | trap (o : FmtS)
  /-- Restore PSW from epsw and continue at epc (R157). -/
  | rett (o : FmtS)
  /-- Suspend issue until an enabled Catchment source is pending (R146). -/
  | wait (o : FmtS)
  /-- A suspended WAIT completes when an enabled source becomes pending (R146). -/
  | waitResume (e : Engine)
  /-- Suspend the Millstone pair while a low-power request is pending (R147). -/
  | sleep (o : FmtS)
  /-- Freeze the protection set-up, start checking and release the other engines (R96). -/
  | seal (o : FmtS)
  /-- Ld := Ld + La × Lb, rounded and saturated once (R174). -/
  | macq (o : FmtC)
  /-- Ld := sat(La × 2^s) (R174). -/
  | satqShls (o : FmtQ)
  /-- Ld := rnd(La × 2^-s) (R174). -/
  | satqShrr (o : FmtQ)
  /-- Convert Q1.31 times 2^s to binary32 (R174). -/
  | satqQtof (o : FmtQ)
  /-- Convert binary32 times 2^-s to saturated Q1.31 (R174). -/
  | satqFtoq (o : FmtQ)
  /-- Interpolate a gain from a LUT table (R176). -/
  | lutg (o : FmtC)
  /-- Copy a word between an L register and a g or f register (R173). -/
  | lmov (o : FmtC)
  /-- Integrate Ld := Ld + La × Lb unless SAT is set (R178). -/
  | inth (o : FmtC)
  /-- Clamp La between limits and set SAT (R179). -/
  | clmp (o : FmtC)
  /-- Scale a value by nominal over measured motor supply (R180). -/
  | ffv (o : FmtC)
  /-- Ld := La + Lb × Lc (R181). -/
  | ffa (o : FmtC)
  /-- Clarke transform of phase currents (R183). -/
  | clrk (o : FmtC)
  /-- Park transform by a binary angle (R183). -/
  | park (o : FmtC)
  /-- Inverse Park transform by a binary angle (R183). -/
  | iprk (o : FmtC)
  /-- Sine and cosine of a binary angle (R182). -/
  | sinc (o : FmtC)
  /-- Space-vector duties for legs U, V and W (R184). -/
  | svm (o : FmtC)
  /-- Write duties to selected legs of a bridge at once, with an optional stamp (R185). -/
  | emit (o : FmtC)
  /-- Suspend until a selected trigger input is pending (R187). -/
  | wtrg (o : FmtC)
  /-- WTRG accepts the lowest pending input, copies its buffer and set-points to the intake page and starts an evaluation (R197). -/
  | triggerAccept (n : Fin 5)
  /-- Advance the oscillation count by one error sample (R188). -/
  | osca (o : FmtC)
  /-- Drive and measure a relay auto-tune oscillation, only in SERVICE (R189). -/
  | rly (o : FmtC)
  /-- Load a word into an L register (R173). -/
  | lld (o : FmtL)
  /-- Store an L register (R173). -/
  | lst (o : FmtL)
  /-- Setting SLU[n].CTL.RUN resets the engine's registers and starts it at 0 (R192). -/
  | sluiceRunStart (e : Engine) (n : Fin 5)
  /-- Clearing RUN stops the engine after the instruction in progress, subject to mode restrictions (R192). -/
  | sluiceRunStop (e : Engine) (n : Fin 5)
  /-- A write to SLU[n].TRIG[k] takes effect only while the engine is STOPPED (R198). -/
  | triggerConfig (e : Engine) (n : Fin 5) (k : Fin 4) (v : Word)
  /-- A write to SLU[n].SWTRG triggers inputs whose source is software (R198). -/
  | swtrg (e : Engine) (n : Fin 5) (v : Word)
  /-- A trigger source event captures data into an input's back buffer, counting an overrun if busy (R196). -/
  | triggerInstant (n : Fin 5) (k : Fin 4) (vmot : BitVec 12)
  /-- An input's back buffer completes and the input becomes pending (R196). -/
  | triggerBufferComplete (n : Fin 5) (k : Fin 4)
  /-- An evaluation exceeds EVMAX, setting LONG and raising LOOP_OVERRUN once (R203). -/
  | evaluationTooLong (n : Fin 5)
  /-- Engine stores to TAIL become visible together at its next WTRG (R209). -/
  | tailWrite (e : Engine) (n : Fin 5) (k : Fin 16) (v : Word)
  /-- The engine sets FLAG bits by writing 1; other engines clear them by writing 0 (R210). -/
  | flagWrite (e : Engine) (n : Fin 5) (v : Word)
  /-- A comparator lane disagrees; issue stops, held actions are discarded and bridges go to their mismatch states (R222).
  `trees` and `monitors` are the comparator's own watch, lanes 60 and 61, and 62 and 63 (R220). -/
  | comparatorMismatch (core0 core1 : CmpView) (trees monitors : BitVec 2)
  /-- The Miller core's keyed MSP_MMACK write ends the record window and asserts the resign-reset (R224). -/
  | mspMmack (e : Engine) (v : Word)
  /-- 100 µs pass without acknowledgement and the resign-reset is asserted (R372). -/
  | recordWindowTimeout
  /-- A keyed MSP_INJCTL write in SERVICE stops core 0 and runs the injection test (R226). -/
  | injectionTestRequest (e : Engine) (v : Word)
  /-- The SERVICE injection test ends with PASS and resumption, or as a mismatch (R226). -/
  | injectionTestEnd (fail0 fail1 : Word)
  /-- A gate turns on once its dead time has passed and the opposite gate is below 1.5 V (R244). -/
  | deadTimeEnd (b : Fin 5) (k : Fin 3)
  /-- A gate above 1.5 V 2 µs after turn-off is a located switch fault (R246). -/
  | gateStuck (b : Fin 5) (k : Fin 3) (high : Bool)
  /-- Bootstrap below threshold for 100 ns with _GH on gives a refresh pulse and counts against the leg (R250). -/
  | bstUv (b : Fin 5) (k : Fin 3)
  /-- The charge-pump output stays below 8.5 V for 10 µs and B0 falls back to the duty limit (R252). -/
  | chargePumpFail
  /-- A switch voltage above VDSTH after blanking locates a fault and latches the bridge (R253). -/
  | vdsTrip (b : Fin 5) (k : Fin 3) (high : Bool)
  /-- A shunt beyond the fast threshold makes the bridge inert and starts a locate window or goes all-off (R255). -/
  | fastComparatorTrip (b : Fin 5) (withVds : Bool)
  /-- The locate window ends and its located faults choose the bridge state (R257). -/
  | locateWindowEnd (b : Fin 5) (loch locl untest : BitVec 3)
  /-- An unrefreshed upper short loses bootstrap and the bridge goes inert with ULOST (R260). -/
  | upperShortLost (b : Fin 5) (k : Fin 3)
  /-- ENA low makes every leg inert and takes a lane out of its RUN mode (R264). -/
  | enaFall
  /-- ENA rising after 10 µs low clears every latch, SPILL_FAULT, CP_FAIL and BST_UV counts (R265). -/
  | enaRise (lowNs : Nat) (ov3 : Bool)
  /-- PCMD.DEMAND = 0b01 demands a lower short or all-off by class (R267). -/
  | pcmdLowerShort (e : Engine) (b : Fin 5)
  /-- PCMD.DEMAND = 0b10 demands all-off (R267). -/
  | pcmdAllOff (e : Engine) (b : Fin 5)
  /-- PCMD.DEMAND = 0b00 removes the software demand (R267). -/
  | pcmdNone (e : Engine) (b : Fin 5)
  /-- VDRV below 8.5 V for 2 µs makes every leg inert, stops the spillway and sets latches (R268). -/
  | vdrvUndervoltage
  /-- VDRV rises above 9.0 V and the undervoltage source clears (R268). -/
  | vdrvRecover
  /-- VMOT at or above OV1 turns the spillway on (R271). -/
  | spillwayOn
  /-- VMOT below OV1 - OV1HYS turns the spillway off after its minimum on-time (R271). -/
  | spillwayOff
  /-- VMOT at or above OV2 shorts motor bridges and clamps ALLOFF bridges (R270). -/
  | ov2Reaction
  /-- VMOT below OV1 - OV1HYS for OV2REL ends the OV2 reaction (R270). -/
  | ov2Release
  /-- VMOT at or above 72 V for 1 µs latches every bridge in use (R269). -/
  | ov3
  /-- A failed spillway check turns it off and enters the OV2 reaction until ENA is toggled (R272). -/
  | spillFault (c : SpillCheck)
  /-- A keyed DRV_SPWTEST write in SERVICE turns the spillway on for a test (R273). -/
  | spillwayTest (e : Engine) (v : Word)
  /-- The spillway test ends and sets TPASS or TFAIL (R273). -/
  | spillwayTestEnd (pass : Bool)
  /-- The owner sets BRG[n].CTL.RUN and PWM starts if the mode, timebase and configuration allow (R277). -/
  | bridgeRunStart (e : Engine) (b : Fin 5)
  /-- The owner clears RUN and the bridge goes inert (R277). -/
  | bridgeRunStop (e : Engine) (b : Fin 5)
  /-- The period counter wraps to 0, applying armed PER and single-shunt shifts (R278). -/
  | pwmPeriodStart (b : Fin 5)
  /-- The counter reaches a leg's edge position and its commanded gate changes (R279). -/
  | pwmEdge (b : Fin 5) (k : Fin 3)
  /-- A write to BRG[n].DUTY[k] takes effect at once under the late-compare rules (R281). -/
  | dutyWrite (e : Engine) (b : Fin 5) (k : Fin 3) (v : Word)
  /-- A Hall channel's state changes, counting and reporting the new state to bridges (R305). -/
  | hallTransition (ch : Fin 6) (h : BitVec 3)
  /-- A sampling set reaches its instant and its ranks start conversion (R288). -/
  | samplingInstant (k : Fin 16) (second : Bool) (busy : BitVec 3)
  /-- A conversion completes and results go to the set and triggered inputs (R288). -/
  | conversionComplete (k : Fin 16) (c0 c1 c2 : BitVec 14)
  /-- Writing CATCHCTL.GO starts a catch on an idle motor bridge (R291). -/
  | catchStart (e : Engine) (b : Fin 5)
  /-- t_catch elapses and the catch unit reports its result, angle and speed (R293). -/
  | catchEnd (b : Fin 5) (obs : CatchObs)
  /-- A write to KEEST is one Ke update judged against the band and time (R294). -/
  | keUpdate (e : Engine) (b : Fin 5) (v : Word)
  /-- The locked-rotor timer reaches t_lock without a commutation event (R295). -/
  | lockedRotor
  /-- A new curve input value makes the pump curve unit evaluate its state and output (R297). -/
  | curveInputWrite (e : Engine) (b : Fin 5) (v : Word)
  /-- A filtered encoder, pulse or tooth edge is decoded into a count, with stamp and speed update (R304). -/
  | cogCountEdge (ch : Fin 6) (a b z : Bool)
  /-- A used pair reads equal lines for t_disagree and gets a wire fault (R301). -/
  | wireFault (ch : Fin 6) (pair : Fin 3)
  /-- The lines read unequal for t_disagree and the channel resumes as after standstill (R302). -/
  | wireFaultClear (ch : Fin 6) (pair : Fin 3) (a b z : Bool)
  /-- No counted edge for t_still sets STILL and speed 0 (R312). -/
  | standstill (ch : Fin 6)
  /-- A class L window ends and the speed is set from its net count (R313). -/
  | speedWindowEnd (ch : Fin 6)
  /-- A write to CMP[k].CTL with ARM arms the unit and fires it at once with LATE if already met (R315). -/
  | compareArm (e : Engine) (ch : Fin 6) (k : Fin 2) (v : Word)
  /-- Setting KNR_CTL.EN checks the configuration and starts the engine in LISTEN (R321). -/
  | knaorEnable (e : Engine) (v : Word)
  /-- Clearing EN sets STATE to OFF and drops TXEN within 1 µs (R321). -/
  | knaorDisable (e : Engine) (v : Word)
  /-- At macrotick TMARK the lane latches transmit buffers, freezes receive buffers and fires turn-mark groups and triggers (R334). -/
  | turnMark
  /-- At bucket start + LOFS the node sends its frame on every enabled channel inside the Weir window (R332). -/
  | frameLaunch (f : Launch)
  /-- An own transmission ends and its loopback decides whether it was clipped (R348). -/
  | frameTransmissionEnd (bucket : BitVec 8) (k1 k2 : TxEnd)
  /-- A frame received on one channel is checked for validity and taken into buffers and sync (R329). -/
  | frameReceived (ch : Fin 2) (rx : FrameRx)
  /-- In the correction gap the engine computes and applies offset and rate corrections and state moves (R344). -/
  | correctionGap
  /-- The LISTEN timer expires and a coldstart node enters COLDSTART (R339). -/
  | listenTimeout
  /-- At its turn start the Weir corrects its schedule by the median deviation and records WDIFF (R345). -/
  | weirTurnStart
  /-- The spill count advances one place and an eligible queue entry may be sent (R349). `heard` says that a frame
  starts on K1 or K2 in this place, and `ended` when it ends, in microticks after the turn's start. -/
  | spillStep (heard : Bool) (ended : Int)
  /-- A write to KNR_SPPUSH adds a spill entry or is rejected (R350). -/
  | spillPush (e : Engine) (v : Word)
  /-- A write to WAKE1 or WAKE2 sends the wake pattern in LISTEN (R352). -/
  | wakePatternSend (e : Engine) (v : Word)
  /-- The 36 µs wake pattern ends and WAKEBUSY clears (R351). -/
  | wakePatternEnd
  /-- A failing Leat data wire is replaced by the spare and recorded (R354). -/
  | leatWireReplace (leat : Fin 2) (wire : Fin 4)
  /-- Every 10 µs the lane sends a STATUS token on each Leat (R355). -/
  | statusSend
  /-- A STATUS token is received and updates link health and the peer's state (R356). -/
  | statusToken (leat : Fin 2) (tok : StatusTok)
  /-- No valid STATUS for 25 µs takes a Leat down (R356). -/
  | leatStatusTimeout (leat : Fin 2)
  /-- A VERSION token is received and compared with the lane's own image (R100). -/
  | versionToken (leat : Fin 2) (tok : VersionTok)
  /-- A FORM token names the forming lead and the target turn mark (R361). -/
  | formToken (leat : Fin 2) (tok : FormTok)
  /-- A RESIGN token from the lead is received and its change is scheduled for TGT (R373). -/
  | resignToken (leat : Fin 2) (tok : DepartTok)
  /-- A LEAVE token from a follower or observer is received (R373). -/
  | leaveToken (leat : Fin 2) (tok : DepartTok)
  /-- A VERDICT token is received and counted toward resignation or leaving (R370). -/
  | verdictToken (leat : Fin 2) (tok : VerdictTok)
  /-- The copy window opens and the lead sends its ready block or records why not (R365). -/
  | copyWindowOpen
  /-- The block transfer ends and TXCTL.BUSY clears (R365). -/
  | copyBlockSent
  /-- A copy block's last byte arrives and it is checked for completeness (R366). -/
  | copyBlockReceived (leat : Fin 2) (block : List Byte) (cut : Bool)
  /-- A write to LEAT_SHCTL.GO starts the shadow comparison (R369). -/
  | shadowCompare (e : Engine) (v : Word)
  /-- The comparison ends, sets SHSTAT and sends VERDICT (R369). -/
  | shadowCompareDone
  /-- Connections unchanged for 10 µs after a Leat went down apply the isolation rule (R374). -/
  | isolationCheck
  /-- 50 µs after a window closes without copy or lead frame, the lead counts as resigned (R375). -/
  | implicitResignCheck
  /-- A keyed LEAT_RESIGN write of kind FAULT makes the lane resign or leave and resign-reset (R372). -/
  | leatResignFault (e : Engine) (key : BitVec 16)
  /-- A keyed LEAT_RESIGN write of kind YIELD makes the lead become a follower (R373). -/
  | leatResignYield (e : Engine) (key : BitVec 16)
  /-- The Miller core's keyed LEAT_RRACK write ends the record window and asserts the resign-reset (R372). -/
  | leatRrack (e : Engine) (v : Word)
  /-- 200 ms after promotion the returning lane leaves RAMP for SETTLE (R381). -/
  | rampComplete
  /-- A filtered safe-input line changes and the pair reading is updated (R393). -/
  | safeLineChange (line : Fin 9) (level : Bool)
  /-- A used pair reads EQUAL for t_disc and sets DISCF (R395). -/
  | discrepancyFault (i : Fin 4)
  /-- No turn mark comes within 1 ms of STOPDEM and the stop demand acts then (R398). -/
  | stopDemandTimeout
  /-- A SACK pulse of 50 ms to 3 s ends and clears latches, DISCF and RBF as allowed (R401). -/
  | sackAcknowledge (highUs : Nat)
  /-- SACK high for 3 s sets ACK_STUCK (R400). -/
  | ackStuck
  /-- An output line disagrees with its command for 1 ms and de-energises the output (R405). -/
  | readbackFault (k : Fin 2)
  /-- The owner's write to SAFE_OUT.RUN requests outputs energised (R404). -/
  | safeOutWrite (e : Engine) (v : Word)
  /-- A write to RACE_CTL.EN starts or stops the port (R408). -/
  | raceEnable (e : Engine) (v : Word)
  /-- An inbound WRITE packet is checked against the windows and written in order (R416). -/
  | raceWrite (p : RacePkt)
  /-- An inbound DOORBELL is placed in the mailbox once earlier writes are visible (R416). -/
  | raceDoorbell (p : RacePkt)
  /-- An inbound TRACE or GAP packet is discarded and RXREJ rises (R416). -/
  | raceTraceReceived (p : RacePkt)
  /-- An inbound SYNC packet is counted toward link-up (R412). -/
  | raceSync (p : RacePkt)
  /-- An inbound buffer is carried out and freed and a credit is returned (R413). -/
  | raceBufferFreed
  /-- A credit pulse on RCR adds one to CRAVAIL (R414). -/
  | creditReceived
  /-- RCK absent for 1 µs takes the link down (R412). -/
  | rckLoss
  /-- After 256 idle word times the lane sends a SYNC packet (R412). -/
  | syncDue
  /-- An outbound packet waits over 10 µs for a credit and asserts source 195 (R414). -/
  | creditStall
  /-- A write to RACE_TRPUSH appends a trace record, dropping the oldest if full (R419). -/
  | tracePush (e : Engine) (v : Word)
  /-- A write to DBSEND sends an outbound DOORBELL unless one is pending (R420). -/
  | doorbellSend (e : Engine) (v : Word)
  /-- Writing DBACK frees the inbound mailbox (R417). -/
  | doorbellAck (e : Engine) (v : Word)
  /-- An outbound packet completes and the next is chosen by priority (R418). -/
  | outboundPacketSent
  /-- Commissioning doorbell SETADDR sets CIS_ADDR and replies (R421). -/
  | setaddr
  /-- Commissioning doorbell COMMAND writes CIS_ARG and CIS_CMD and replies when DONE sets (R421). -/
  | command
  /-- Commissioning doorbell SETKEY writes CIS_KEYH and replies (R421). -/
  | setkey
  /-- Commissioning doorbell QUERY replies with the Cistern status (R421). -/
  | query
  /-- Commissioning doorbell SPEED replies then restarts the link at a new MUL (R421). -/
  | speed
  /-- A write to CAN[n].CTL.EN starts the controller if its timing is valid (R423). -/
  | canEnable (e : Engine) (n : Fin 2) (v : Word)
  /-- A valid frame is filtered and stored in the receive FIFO (R424). -/
  | canFrameReceived (n : Fin 2) (f : CanFrame)
  /-- A write to TXPUSH queues the staged frame or is rejected (R425). -/
  | canTxPush (e : Engine) (n : Fin 2) (v : Word)
  /-- A queued frame completes transmission (R425). -/
  | canTxDone (n : Fin 2)
  /-- TXABORT discards every queued frame except one in transmission (R425). -/
  | canTxabort (e : Engine) (n : Fin 2) (v : Word)
  /-- A write to RXPOP removes the oldest FIFO entry (R424). -/
  | canRxpop (e : Engine) (n : Fin 2) (v : Word)
  /-- A bus error changes the error counts and possibly the error state or bus-off (R426). -/
  | canBusError (n : Fin 2) (tec rec : Nat)
  /-- Writing RECOVER starts bus-off recovery (R426). -/
  | canRecover (e : Engine) (n : Fin 2) (v : Word)
  /-- 128 occurrences of 11 recessive bits end bus-off (R426). -/
  | canRecoveryComplete (n : Fin 2)
  /-- A 16 µs site measurement ends and is accepted or discarded (R429). -/
  | plumbMeasurement (m : PlumbMeas)
  /-- A round ends and the Miller core sets WEAR and judges every site (R434). -/
  | plumbRoundEnd
  /-- A keyed PLB_BASECTL write in SERVICE starts baselining (R431). -/
  | baselineStart (e : Engine) (v : Word)
  /-- Baselining ends, writing the baseline or aborting (R431). -/
  | baselineDone (r : BaselineRes)
  /-- PLB_PRIME OP 0b01 primes the reserve in place of a halted engine (R436). -/
  | prime (e : Engine) (v : Word)
  /-- The records are written and the reserve takes the halted engine's ownership and group (R436). -/
  | primingDone
  /-- PLB_PRIME OP 0b10 in SERVICE starts the reserve's structural self-test (R438). -/
  | reserveSelfTest (e : Engine) (v : Word)
  /-- The self-test ends and sets TPASS or TFAIL (R438). -/
  | reserveSelfTestDone (pass : Bool)
  /-- The march test of one row completes and may start a repair (R440). `fault` is a fault found, with the words that it
  leaves uncorrectable. -/
  | marchTestRow (arr : Fin 19) (row : Nat) (corrected : Nat) (fault : Option (List (Fin 128)))
  /-- A row copy into a spare completes and the address is remapped (R440). -/
  | rowRepairDone (arr : Fin 19) (row : Nat) (spareOk : Bool)
  /-- A worn Cistern sector's copy into a spare completes and is entered in the remap table (R441). -/
  | sectorRemapDone (sector : Nat)
  /-- An hour of powered time passes and a SAMPLE record is written (R444). -/
  | hourTick
  /-- The crystal oscillator started at boot or wake settles within ±500 ppm of 25 MHz and SYS_TBSEL.XTAL_OK becomes 1 (R79). -/
  | xtalOk
  /-- The 256 MHz delay-locked reference locks, within 50 µs of the later of XTAL_OK and the release of the peripherals, and SYS_TBSEL.DLL_LOCK becomes 1 (R79). -/
  | dllLock
  /-- The refresh pulse of t_refresh that followed a BST_UV ends and the leg returns to its commanded state (R250). -/
  | refreshPulseEnd (b : Fin 5) (k : Fin 3)
deriving DecidableEq, Repr

end Sys2Proof
end

