-- ==== Sys2Proof/WellFormed.lean ====
section
/-!
DEFINITION. Which commands are well-formed: an operand that the types of `Instr` leave too wide names
something that the lane has. A meaning whose command may be ill-formed answers a fault for it
(`checked` in Machine/Ops.lean), so no run contains one.
-/

namespace Sys2Proof.WellFormed

/-- The rows of the nineteen arrays (R439): one spare row for 16 rows. -/
def arrayRows (arr : Nat) : Nat :=
  if arr < 4 then 1024 else if arr < 7 then 512 else if arr < 9 then 64 else if arr < 14 then 128 else 64

/-- The row is one of the array's (R439). -/
def rowOk (arr : Fin 19) (row : Nat) : Bool := decide (row < arrayRows arr.val)

/-- The sector is one of the Cistern's: 16 MB in sectors of 4 KB (R80). -/
def sectorOk (sector : Nat) : Bool := decide (sector < 4096)

/-- The address is a word of the Wellhead's block (R101); a misaligned access is no write of a register
(R102). -/
def whdAddr (addr : Word) : Bool :=
  decide (0x40050000 ≤ addr.toNat ∧ addr.toNat < 0x40060000) && addr.toNat % 4 == 0

/-- The address is a word of the drive die's block (R101). -/
def drvAddr (addr : Word) : Bool :=
  decide (0x40280000 ≤ addr.toNat ∧ addr.toNat < 0x40300000) && addr.toNat % 4 == 0

/-- The TYPE in the header word of a packet as received (R410). -/
def packetType (p : RacePkt) : Nat := (p.words.getD 0 0).field 0 4

/-- The packet as received has one of the types `ts`, or none that R410 names: a packet of another
type is another command. -/
def packetOk (ts : List Nat) (p : RacePkt) : Bool :=
  ts.contains (packetType p) || !([1, 2, 3, 4, 5].contains (packetType p))

/-- A CAN frame has at most 64 data bytes (R422). -/
def canOk (f : CanFrame) : Bool := decide (f.data.length ≤ 64)

/-- Each point of a baseline has a time for each of the twelve sites (R430). -/
def baselineOk : BaselineRes → Bool
  | .points ps => ps.all (fun p => p.times.length == 12)
  | .requestFailed => true

end Sys2Proof.WellFormed

namespace Sys2Proof

/-- The command is well-formed. -/
def Instr.wellFormed : Instr → Bool
  | .marchTestRow arr row _ _ => WellFormed.rowOk arr row
  | .rowRepairDone arr row _ => WellFormed.rowOk arr row
  | .sectorRemapDone sector => WellFormed.sectorOk sector
  | .whdWrite _ addr _ => WellFormed.whdAddr addr
  | .drvWrite _ addr _ => WellFormed.drvAddr addr
  | .raceWrite p => WellFormed.packetOk [1] p
  | .raceDoorbell p => WellFormed.packetOk [2] p
  | .raceTraceReceived p => WellFormed.packetOk [3, 4] p
  | .raceSync p => WellFormed.packetOk [5] p
  | .canFrameReceived _ f => WellFormed.canOk f
  | .baselineDone r => WellFormed.baselineOk r
  | _ => true

end Sys2Proof
end

