-- ==== Sys2Proof/Decode.lean ====
section
/-!
DEFINITION. The decoder over spec/opcode_table.json, which gives no row any bits, and the decoder of the Mbarra words that
the engines fetch: the formats of R130 and R169, and the tables of R132, R134, R135, R137, R139, R140, R142, R144, R145 and
R170, row by row. What they do not list is no instruction (R131, R171).
-/

namespace Sys2Proof

/-- The command that a word of `nbits` bits spells by the table: no row has bits, so none does. -/
def decodeTableWord (_nbits _w : Nat) : Option Instr := none

/-! ### Fields (R130, R169) -/

/-- The major opcode [31:27]. -/
def wMajor (w : Word) : Nat := w.field 27 5

/-- Format A, its function apart. -/
def fmtA (e : Engine) (w : Word) : FmtA := ⟨e, w.extractLsb' 22 5, w.extractLsb' 17 5, w.extractLsb' 12 5⟩
/-- Format I. -/
def fmtI (e : Engine) (w : Word) : FmtI := ⟨e, w.extractLsb' 22 5, w.extractLsb' 17 5, w.extractLsb' 0 17⟩
/-- Format I of major 0x05. -/
def fmtSh (e : Engine) (w : Word) : FmtSh :=
  ⟨e, w.extractLsb' 22 5, w.extractLsb' 17 5, w.extractLsb' 0 5, w.extractLsb' 7 10⟩
/-- The long-immediate pair. -/
def fmtLI (e : Engine) (w w2 : Word) : FmtLI := ⟨e, w.extractLsb' 22 5, w.extractLsb' 17 5, w.extractLsb' 0 12, w2⟩
/-- Format M, its size and bit 14 apart. -/
def fmtM (e : Engine) (w : Word) : FmtM := ⟨e, w.extractLsb' 22 5, w.extractLsb' 17 5, w.extractLsb' 0 14⟩
/-- Major 0x13. -/
def fmtX (e : Engine) (w : Word) : FmtX :=
  ⟨e, w.extractLsb' 22 5, w.extractLsb' 17 5, w.extractLsb' 12 5, w.extractLsb' 0 2, w.extractLsb' 4 2, w.extractLsb' 6 6⟩
/-- Format B. -/
def fmtB (e : Engine) (w : Word) : FmtB := ⟨e, w.extractLsb' 0 24⟩
/-- Format X. -/
def fmtS (e : Engine) (w : Word) : FmtS := ⟨e, w.extractLsb' 22 5, w.extractLsb' 17 5, w.extractLsb' 0 12⟩
/-- Format C. -/
def fmtC (e : Engine) (w : Word) : FmtC :=
  ⟨e, w.extractLsb' 23 4, w.extractLsb' 19 4, w.extractLsb' 15 4, w.getLsbD 14, w.extractLsb' 0 12⟩
/-- Format C of SATQ. -/
def fmtQ (e : Engine) (w : Word) : FmtQ :=
  ⟨e, w.extractLsb' 23 4, w.extractLsb' 19 4, w.extractLsb' 15 4, w.getLsbD 14, w.extractLsb' 5 5, w.extractLsb' 0 5⟩
/-- Format C of LLD and LST. -/
def fmtL (e : Engine) (w : Word) : FmtL :=
  ⟨e, w.extractLsb' 23 4, w.extractLsb' 19 4, w.extractLsb' 15 4, w.getLsbD 14, w.extractLsb' 5 6, w.extractLsb' 0 5⟩

/-! ### Tables -/

/-- The row of a code in a table. -/
def rowOf {α : Type} (t : List (Nat × α)) (code : Nat) : Option α := (t.find? (fun r => r.1 == code)).map (fun r => r.2)

/-- Major 0x00 (R132). -/
def intRows : List (Nat × (FmtA → Instr)) :=
  [(0x001, .add), (0x002, .sub), (0x003, .addc), (0x004, .subc), (0x005, .adds), (0x006, .subs), (0x007, .cmp),
   (0x010, .and), (0x011, .or), (0x012, .xor), (0x013, .andn)] ++
  [(0x020, .shl), (0x021, .shr), (0x022, .sar), (0x023, .ror), (0x030, .mul), (0x031, .mulhs), (0x032, .mulhu),
   (0x034, .div), (0x035, .divu), (0x036, .rem), (0x037, .remu)] ++
  [(0x040, .min), (0x041, .max), (0x042, .minu), (0x043, .maxu), (0x050, .clz), (0x051, .ctz), (0x052, .popc),
   (0x053, .sextb), (0x054, .sexth), (0x055, .zexth), (0x056, .rev)]

/-- Majors 0x01 to 0x09 but 0x05 (R134). -/
def immRows : List (Nat × (FmtI → Instr)) :=
  [(0x01, .addi), (0x02, .andi), (0x03, .ori), (0x04, .xori), (0x06, .cmpi), (0x07, .lui), (0x08, .muli), (0x09, .cmpui)]

/-- Major 0x05 by imm[6:5] (R134). -/
def shiftRows : List (Nat × (FmtSh → Instr)) := [(0, .shli), (1, .shri), (2, .sari), (3, .rori)]

/-- The long-immediate prefix by OP (R135). -/
def longRows : List (Nat × (FmtLI → Instr)) :=
  [(0, .li), (1, .addli), (2, .andli), (3, .orli), (4, .xorli), (5, .cmpli), (6, .fli)]

/-- Major 0x14 by its condition (R139). -/
def branchRows : List (Nat × (FmtB → Instr)) :=
  [(0, .bal), (1, .beq), (2, .bne), (3, .blt), (4, .bge), (5, .bltu), (6, .bgeu), (7, .call)]

/-- Major 0x15 (R140). -/
def jumpRows : List (Nat × (FmtA → Instr)) := [(0x001, .jr), (0x002, .jalr)]

/-- Major 0x16 (R142). -/
def floatRows : List (Nat × (FmtA → Instr)) :=
  [(0x001, .fadd), (0x002, .fsub), (0x003, .fmul), (0x004, .fdiv), (0x005, .fsqrt), (0x006, .fma), (0x007, .fmin),
   (0x008, .fmax), (0x009, .fabs), (0x00A, .fneg), (0x00B, .fmov)] ++
  [(0x010, .fcmp), (0x011, .fcvtsw), (0x012, .fcvtws), (0x013, .fcvtwsz), (0x014, .fmvws), (0x015, .fmvsw)]

/-- Major 0x17 (R144). -/
def atomicRows : List (Nat × (FmtA → Instr)) :=
  [(0x001, .lda), (0x002, .str), (0x003, .swap), (0x004, .cas), (0x010, .fence), (0x011, .ifence)]

/-- Major 0x1E by OP (R145). -/
def systemRows : List (Nat × (FmtS → Instr)) :=
  [(0, .cwr), (1, .cww), (2, .trap), (3, .rett), (4, .wait), (5, .sleep), (6, .seal)]

/-- Format C by major and SUB, but for SATQ, LLD and LST (R170): the code is 4 × major + SUB. -/
def controlRows : List (Nat × (FmtC → Instr)) :=
  [(4 * 0x18, .macq), (4 * 0x18 + 2, .lutg), (4 * 0x18 + 3, .lmov), (4 * 0x19, .inth), (4 * 0x19 + 1, .clmp),
   (4 * 0x19 + 2, .ffv), (4 * 0x19 + 3, .ffa), (4 * 0x1A, .clrk), (4 * 0x1A + 1, .park)] ++
  [(4 * 0x1A + 2, .iprk), (4 * 0x1A + 3, .sinc), (4 * 0x1B, .svm), (4 * 0x1B + 1, .emit), (4 * 0x1B + 2, .wtrg),
   (4 * 0x1C, .osca), (4 * 0x1C + 1, .rly)]

/-- SATQ by MODE (R170, R174). -/
def satqRows : List (Nat × (FmtQ → Instr)) := [(0, .satqShls), (1, .satqShrr), (2, .satqQtof), (3, .satqFtoq)]

/-! ### The loads and stores (R137) -/

/-- Majors 0x10 to 0x12, by size and bit 14. -/
def decodeMem (e : Engine) (w : Word) : Option Instr :=
  let o := fmtM e w
  let u := w.getLsbD 14
  match wMajor w, w.field 15 2 with
  | 0x10, 0 => some (if u then .ldbu o else .ldb o)
  | 0x10, 1 => some (if u then .ldhu o else .ldh o)
  | 0x10, 2 => some (.ldw o u)
  | 0x11, 0 => some (.stb o u)
  | 0x11, 1 => some (.sth o u)
  | 0x11, 2 => some (.stw o u)
  | 0x12, _ => some (if u then .fst o (w.extractLsb' 15 2) else .fld o (w.extractLsb' 15 2))
  | _, _ => none

/-- Major 0x13, by U and S. -/
def decodeIndexed (e : Engine) (w : Word) : Option Instr :=
  let o := fmtX e w
  some (if w.getLsbD 3 then .stx o (w.getLsbD 2) else if w.getLsbD 2 then .ldxu o else .ldx o)

/-- Majors 0x18 to 0x1D. -/
def decodeControl (e : Engine) (w : Word) : Option Instr :=
  let code := 4 * wMajor w + w.field 12 2
  if code = 4 * 0x18 + 1 then (rowOf satqRows (w.field 10 2)).map (fun h => h (fmtQ e w))
  else if code = 4 * 0x1D then some (if w.getLsbD 11 then .lst (fmtL e w) else .lld (fmtL e w))
  else (rowOf controlRows code).map (fun h => h (fmtC e w))

/-- The instruction that an engine reads in the word `w`, followed by `w2` in a long-immediate pair; none where the word's
major is reserved or its code is not listed (R131, R171). -/
def decodeWord (e : Engine) (w w2 : Word) : Option Instr :=
  let m := wMajor w
  let fn := w.field 0 12
  if m = 0x00 then (rowOf intRows fn).map (fun h => h (fmtA e w))
  else if m = 0x05 then (rowOf shiftRows (w.field 5 2)).map (fun h => h (fmtSh e w))
  else if m < 0x0A then (rowOf immRows m).map (fun h => h (fmtI e w))
  else if m < 0x10 then none
  else if m < 0x13 then decodeMem e w
  else if m = 0x13 then decodeIndexed e w
  else if m = 0x14 then (rowOf branchRows (w.field 24 3)).map (fun h => h (fmtB e w))
  else if m = 0x15 then (rowOf jumpRows fn).map (fun h => h (fmtA e w))
  else if m = 0x16 then (rowOf floatRows fn).map (fun h => h (fmtA e w))
  else if m = 0x17 then (rowOf atomicRows fn).map (fun h => h (fmtA e w))
  else if m < 0x1E then decodeControl e w
  else if m = 0x1E then (rowOf systemRows (w.field 12 5)).map (fun h => h (fmtS e w))
  else (rowOf longRows (w.field 12 5)).map (fun h => h (fmtLI e w w2))

end Sys2Proof
end

