-- ==== Sys2Proof/Machine/Crypto.lean ====
section
/-!
DEFINITION. SHA-256 (FIPS 180-4), ECDSA P-256 signature verification (FIPS 186-5) and CRC-32C
(R326), as R84, R87 and R364 use them. Byte strings are lists.
-/

namespace Sys2Proof.Machine

/-- The first 32 bits of the fractional parts of the cube roots of the first 64 primes, as rows of
eight words. -/
def shaK : List Nat :=
  [0x428a2f98, 0x71374491, 0xb5c0fbcf, 0xe9b5dba5, 0x3956c25b, 0x59f111f1, 0x923f82a4, 0xab1c5ed5] ++
  [0xd807aa98, 0x12835b01, 0x243185be, 0x550c7dc3, 0x72be5d74, 0x80deb1fe, 0x9bdc06a7, 0xc19bf174] ++
  [0xe49b69c1, 0xefbe4786, 0x0fc19dc6, 0x240ca1cc, 0x2de92c6f, 0x4a7484aa, 0x5cb0a9dc, 0x76f988da] ++
  [0x983e5152, 0xa831c66d, 0xb00327c8, 0xbf597fc7, 0xc6e00bf3, 0xd5a79147, 0x06ca6351, 0x14292967] ++
  [0x27b70a85, 0x2e1b2138, 0x4d2c6dfc, 0x53380d13, 0x650a7354, 0x766a0abb, 0x81c2c92e, 0x92722c85] ++
  [0xa2bfe8a1, 0xa81a664b, 0xc24b8b70, 0xc76c51a3, 0xd192e819, 0xd6990624, 0xf40e3585, 0x106aa070] ++
  [0x19a4c116, 0x1e376c08, 0x2748774c, 0x34b0bcb5, 0x391c0cb3, 0x4ed8aa4a, 0x5b9cca4f, 0x682e6ff3] ++
  [0x748f82ee, 0x78a5636f, 0x84c87814, 0x8cc70208, 0x90befffa, 0xa4506ceb, 0xbef9a3f7, 0xc67178f2]

/-- The initial hash words. -/
def shaInit : List Word :=
  [0x6a09e667, 0xbb67ae85, 0x3c6ef372, 0xa54ff53a, 0x510e527f, 0x9b05688c, 0x1f83d9ab, 0x5be0cd19]

/-- A big-endian word of four bytes. -/
def beWord (bs : List Byte) : Word := BitVec.ofNat 32 (bs.foldl (fun acc b => acc * 256 + b.toNat) 0)

/-- The message padded to whole 64-byte blocks. -/
def shaPad (m : List Byte) : List Byte :=
  let n := m.length
  let z := (119 - n % 64) % 64
  m ++ [0x80] ++ List.replicate z 0 ++
    ((List.range 8).map (fun i => BitVec.ofNat 8 (8 * n / 256 ^ (7 - i))))

/-- The next schedule word, from the sixteen before it (newest first). -/
def shaNextW (w : List Word) : Word :=
  let w2 := w.getD 1 0
  let w15 := w.getD 14 0
  let s0 := w15.rotateRight 7 ^^^ w15.rotateRight 18 ^^^ (w15 >>> 3)
  let s1 := w2.rotateRight 17 ^^^ w2.rotateRight 19 ^^^ (w2 >>> 10)
  s1 + w.getD 6 0 + s0 + w.getD 15 0

/-- One round on the eight working words. -/
def shaRound (v : List Word) (k w : Word) : List Word :=
  match v with
  | [a, b, c, d, e, f, g, h] =>
    let t1 := h + (e.rotateRight 6 ^^^ e.rotateRight 11 ^^^ e.rotateRight 25) +
      ((e &&& f) ^^^ (~~~e &&& g)) + k + w
    let t2 := (a.rotateRight 2 ^^^ a.rotateRight 13 ^^^ a.rotateRight 22) +
      ((a &&& b) ^^^ (a &&& c) ^^^ (b &&& c))
    [t1 + t2, a, b, c, d + t1, e, f, g]
  | _ => v

/-- The 64 rounds: `ws` holds the block's remaining words in order, `win` the last sixteen words
used, newest first. -/
def shaRounds (v win : List Word) : List Word → List Nat → List Word
  | _, [] => v
  | w :: ws, k :: ks => shaRounds (shaRound v (BitVec.ofNat 32 k) w) ((w :: win).take 16) ws ks
  | [], k :: ks =>
    let w := shaNextW win
    shaRounds (shaRound v (BitVec.ofNat 32 k) w) ((w :: win).take 16) [] ks

/-- The words of one block of bytes. -/
def blockWords (bs : List Byte) : List Word :=
  (List.range 16).map (fun i => beWord ((bs.drop (4 * i)).take 4))

/-- `n` blocks taken into the hash words. -/
def shaBlocks : Nat → List Word → List Byte → List Word
  | 0, h, _ => h
  | n + 1, h, bs =>
    let v := shaRounds h [] (blockWords (bs.take 64)) shaK
    shaBlocks n (List.zipWith (· + ·) h v) (bs.drop 64)

/-- SHA-256 as 32 bytes in output order. -/
def sha256 (m : List Byte) : List Byte :=
  let p := shaPad m
  (shaBlocks (p.length / 64) shaInit p).flatMap (fun w =>
    [BitVec.ofNat 8 (w.toNat / 2 ^ 24), BitVec.ofNat 8 (w.toNat / 2 ^ 16),
     BitVec.ofNat 8 (w.toNat / 2 ^ 8), BitVec.ofNat 8 w.toNat])

/-- The number of a byte string, first byte highest. -/
def beNat (bs : List Byte) : Nat := bs.foldl (fun acc b => acc * 256 + b.toNat) 0

/-- The field prime of P-256. -/
def p256p : Nat := 0xffffffff00000001000000000000000000000000ffffffffffffffffffffffff
/-- The order of the base point. -/
def p256n : Nat := 0xffffffff00000000ffffffffffffffffbce6faada7179e84f3b9cac2fc632551
/-- The curve's b. -/
def p256b : Nat := 0x5ac635d8aa3a93e7b3ebbd55769886bc651d06b0cc53b0f63bce3c3e27d2604b
/-- The base point. -/
def p256gx : Nat := 0x6b17d1f2e12c4247f8bce6e563a440f277037d812deb33a0f4a13945d898c296
def p256gy : Nat := 0x4fe342e2fe1a7f9b8ee7eb4a7c0f9e162bce33576b315ececbb6406837bf51f5

/-- b^k mod m for a k of `n` bits, top bit first. -/
def powMod (b m k : Nat) : Nat → Nat → Nat
  | 0, acc => acc
  | n + 1, acc =>
    let sq := acc * acc % m
    powMod b m k n (if k / 2 ^ n % 2 = 1 then sq * b % m else sq)

/-- The inverse modulo a prime. -/
def invMod (a m : Nat) : Nat := powMod (a % m) m (m - 2) 256 1

/-- A point in Jacobian coordinates; z = 0 is the point at infinity. -/
structure JPoint where
  x : Nat
  y : Nat
  z : Nat
deriving DecidableEq, Repr

/-- a - b modulo the field prime. -/
def subP (a b : Nat) : Nat := (a + p256p - b % p256p) % p256p

/-- Doubling on y^2 = x^3 - 3x + b. -/
def dblJ (q : JPoint) : JPoint :=
  if q.z = 0 ∨ q.y = 0 then ⟨1, 1, 0⟩
  else
    let zz := q.z * q.z % p256p
    let m := 3 * (subP q.x zz) * (q.x + zz) % p256p
    let yy := q.y * q.y % p256p
    let s := 4 * q.x * yy % p256p
    let x := subP (m * m) (2 * s)
    ⟨x, subP (m * subP s x) (8 * (yy * yy % p256p)), 2 * q.y * q.z % p256p⟩

/-- Addition. -/
def addJ (a b : JPoint) : JPoint :=
  if a.z = 0 then b else if b.z = 0 then a
  else
    let z1 := a.z * a.z % p256p
    let z2 := b.z * b.z % p256p
    let u1 := a.x * z2 % p256p
    let u2 := b.x * z1 % p256p
    let s1 := a.y * z2 % p256p * b.z % p256p
    let s2 := b.y * z1 % p256p * a.z % p256p
    if u1 = u2 then (if s1 = s2 then dblJ a else ⟨1, 1, 0⟩)
    else
      let h := subP u2 u1
      let r := subP s2 s1
      let hh := h * h % p256p
      let hhh := hh * h % p256p
      let v := u1 * hh % p256p
      let x := subP (subP (r * r) hhh) (2 * v)
      ⟨x, subP (r * subP v x) (s1 * hhh), h * a.z % p256p * b.z % p256p⟩

/-- k × q for a k of `n` bits, top bit first. -/
def mulJ (q : JPoint) (k : Nat) : Nat → JPoint → JPoint
  | 0, acc => acc
  | n + 1, acc =>
    let d := dblJ acc
    mulJ q k n (if k / 2 ^ n % 2 = 1 then addJ d q else d)

/-- A point of the curve, not at infinity, with its coordinates in range. -/
def onCurve (x y : Nat) : Bool :=
  decide (x < p256p) && decide (y < p256p) &&
  y * y % p256p == (x * x * x + (p256p - 3) * x + p256b) % p256p

/-- ECDSA P-256: the signature (r, s) of the hash `e` under the key (x, y) (FIPS 186-5). -/
def ecdsaVerify (x y e r s : Nat) : Bool :=
  if onCurve x y && decide (1 ≤ r) && decide (r < p256n) && decide (1 ≤ s) && decide (s < p256n) then
    let w := invMod s p256n
    let u1 := e * w % p256n
    let u2 := r * w % p256n
    let q := addJ (mulJ ⟨p256gx, p256gy, 1⟩ u1 256 ⟨1, 1, 0⟩) (mulJ ⟨x, y, 1⟩ u2 256 ⟨1, 1, 0⟩)
    if q.z = 0 then false
    else
      let zi := invMod q.z p256p
      (q.x * (zi * zi % p256p) % p256p) % p256n == r
  else false

/-- CRC-32C, one bit at a time, reflected: `n` bits of the register. -/
def crc32cBits : Nat → Nat → Nat
  | 0, c => c
  | n + 1, c => crc32cBits n (if c % 2 = 1 then (c / 2) ^^^ 0x82F63B78 else c / 2)

/-- One byte into the CRC-32C register. -/
def crc32cByte (c : Nat) (b : Byte) : Nat := crc32cBits 8 (c ^^^ b.toNat)

/-- The CRC-32C of a byte string (R326). -/
def crc32c (bs : List Byte) : Nat := (bs.foldl crc32cByte 0xFFFFFFFF) ^^^ 0xFFFFFFFF

/-- A number as `n` bytes, least significant first. -/
def leBytes (v : Nat) : Nat → List Byte
  | 0 => []
  | n + 1 => BitVec.ofNat 8 v :: leBytes (v / 256) n

/-- The number of bytes, least significant first. -/
def leNat : List Byte → Nat
  | [] => 0
  | b :: r => b.toNat + 256 * leNat r

/-- Words as bytes, little-endian. -/
def wordBytes (ws : List Word) : List Byte :=
  ws.flatMap (fun (w : Word) => leBytes w.toNat 4)

end Sys2Proof.Machine
end

