-- ==== Sys2Proof/Config.lean ====
section
/-!
DEFINITION. What the spec leaves open: the free values. Each is an opaque constant with no body,
so no proof can see a value of it. `freeWord` and `freeBit` are applied to the counter
`State.free`, which each use advances, so each use is a value of its own (DESIGN CHOICE, log entries 1, 2).
-/

namespace Sys2Proof.Config

/-- A word that the spec leaves open, one for each count of `State.free`. -/
opaque freeWord : Nat → BitVec 32

/-- An outcome that the spec leaves open ("either occurs"), one for each count of `State.free`. -/
opaque freeBit : Nat → Bool

/-- Whether the float unit detects tininess after rounding (IEEE 754 leaves it to the
implementation; R141 does not choose). -/
opaque tinyAfterRounding : Bool

/-- Of two zeros of unlike sign, whether FMIN (true) or FMAX (false) gives the first operand: IEEE 754
leaves it open and R142 does not choose. -/
opaque minMaxZero : Bool → BitVec 32 → BitVec 32 → Bool

/-- Whether FMA signals invalid for 0 × infinity plus a quiet NaN (IEEE 754 leaves it open). -/
opaque fmaInvalidOnNaN : Bool

/-- The angle of a Cog channel whose CPR is 0, by its POS: R309 divides by CPR. -/
opaque angleNoCpr : BitVec 32 → BitVec 32

/-- The fused temperature coefficient of a Plumb site is `alphaNum i / (alphaDen + 1)` per
quarter degree: measured at manufacture (R429), so no number is known here. -/
opaque alphaNum : Nat → Nat

/-- See `alphaNum`. -/
opaque alphaDen : Nat

end Sys2Proof.Config
end

