-- ==== Sys2Proof/Machine/State.lean ====
section
/-!
DEFINITION. The state of one lane: its registers, memories, engines, and the state that the
chapters give its units beside their registers. Everything is plain data, and every part's default
values are what it holds in power-on reset.
-/

namespace Sys2Proof.Machine

/-- Words by address, strictly rising, as far as they differ from what an unlisted address holds. -/
abbrev Store := List (Nat × Word)

/-- Bytes by address in the same form: an unlisted address reads 0 (DESIGN CHOICE, log entry 4). -/
abbrev Memory := List Host.Cell

/-- The access codes of R7; `shwb` is the double code "SH, WB". -/
inductive Acc where
  | rw | ro | wo | w1c | sh | wb | shwb
deriving DecidableEq, Repr

/-- A field of a register kind: its lowest bit, its width and its access code. -/
structure FieldSpec where
  lo  : Nat
  w   : Nat
  acc : Acc
deriving DecidableEq, Repr

/-- A register kind: base address, counts and strides of its instances (outermost first), the word
of its Reset column, and its fields. -/
structure Kind where
  base   : Nat
  dims   : List (Nat × Nat)
  rst    : Word
  fields : List FieldSpec
deriving DecidableEq, Repr

/-- Whether `off` is an instance's offset under nested counts and strides. -/
def offsetIn : List (Nat × Nat) → Nat → Bool
  | [], off => off == 0
  | (c, st) :: r, off => decide (off / st < c) && offsetIn r (off % st)

/-- Whether the kind has an instance at address `a`. -/
def Kind.holds (k : Kind) (a : Nat) : Bool := decide (k.base ≤ a) && offsetIn k.dims (a - k.base)

/-- A field at its place: register address, lowest bit, width. -/
structure Field where
  addr : Nat
  lo   : Nat
  w    : Nat
deriving DecidableEq, Repr

/-- The variant of the module (R1). -/
inductive Variant where
  | fpx3 | fpx2
deriving DecidableEq, Repr

/-- The kinds of reset (R119), highest precedence first. -/
inductive ResetKind where
  | por | rstN | watchdog | resign | soft
deriving DecidableEq, Repr

/-- What an engine is doing: held in reset, issuing instructions, suspended in WAIT, in SLEEP, in
WTRG, stopped, or halted. -/
inductive RunState where
  | inReset | running | waiting | sleeping | waitTrig | stopped | halted
deriving DecidableEq, Repr

/-- What WTRG does when it completes (R187). -/
structure WtrgOperands where
  ld   : BitVec 4
  mask : BitVec 4
deriving DecidableEq, Repr

/-- The state that RLY keeps between calls (R189). -/
structure RelayState where
  t0   : Word := 0
  have0 : Bool := false
  mx   : Word := 0
  mn   : Word := 0
deriving DecidableEq, Repr

/-- One Mbarra engine (R126, R148): its g, f and L registers, its control words, its pc and what it
is doing. -/
structure EngState where
  g       : Vector Word 32 := Vector.replicate 32 0
  f       : Vector Word 16 := Vector.replicate 16 0
  l       : Vector Word 16 := Vector.replicate 16 0
  psw     : Word := 0x200
  epsw    : Word := 0
  epc     : Word := 0
  cause   : Word := 0
  badaddr : Word := 0
  vec     : Word := 0
  scratch : Word := 0
  fcsr    : Word := 0
  retired : Word := 0
  pc      : Word := 0
  run     : RunState := .inReset
  wtrg    : WtrgOperands := ⟨0, 0⟩
  relay   : RelayState := {}
deriving DecidableEq, Repr

/-- A leg's gates (R243). -/
inductive Gate where
  | inert | high | low
deriving DecidableEq, Repr

/-- The states of a bridge, as PSTAT.STATE reports them (R274). -/
inductive BState where
  | inert | driving | lowerShort | upperShort | locating | regenClamp
deriving DecidableEq, Repr

/-- One leg (R243, R250, R279, R281): the gates, what is commanded, the refresh pulse, whether the
period in progress holds a BST_UV, and the edges of the period. `tOn`, `eOn`, `eOff` are grid steps;
`onMade` and `offMade` say which edge the period has made, `since` is the step of its latest edge and `wait` an edge
that waits until the interval it ends has lasted long enough (R280, R281). -/
structure Leg where
  gate    : Gate := .inert
  cmd     : Gate := .inert
  pwm     : Gate := .inert
  refresh : Bool := false
  uvSeen  : Bool := false
  tOn     : Nat := 0
  eOn     : Nat := 0
  eOff    : Nat := 0
  onMade  : Bool := false
  offMade : Bool := false
  since   : Int := 0
  wait    : Option Nat := none
deriving DecidableEq, Repr

/-- A drive fault latch (R259, R262), kept in the drive die through every reset but POR. `pcfg` is
the PCFG word in force when it was first set. -/
structure Latch where
  held   : Bool := false
  resign : Bool := false
  state  : BState := .inert
  cause  : Nat := 0
  locH   : BitVec 3 := 0
  locL   : BitVec 3 := 0
  ulost  : Bool := false
  unsh   : Bool := false
  untest : BitVec 3 := 0
  pcfg   : Word := 0
deriving DecidableEq, Repr

/-- One bridge beside its registers (chapters 11 and 12): its legs, latch and locate window, whether its fast comparator
has commanded it inert and the VDS trip with it is due (R255), whether the OV2 reaction holds to the next period start
(R270); whether its period counter runs and waits for a turn mark (R278), how far the period has come at least, a PER
that is armed, and how many steps after the latest turn mark the period in progress started (none: no start since); the
valid Hall state it acts on (R283); whether a shift of the period has counted (R290); the first of a run of out-of-band
updates (R294), in `State.age`; the locked-rotor timer's start and the sector last seen (R295). -/
structure Bridge where
  legs       : Vector Leg 3 := Vector.replicate 3 {}
  latch      : Latch := {}
  locating   : Bool := false
  vdsDue     : Bool := false
  holdPeriod : Bool := false
  counting   : Bool := false
  startMark  : Bool := false
  posLo      : Nat := 0
  perArmed   : Option Word := none
  markPos    : Option Nat := none
  hall       : Option (BitVec 3) := none
  shifted    : Bool := false
  keFirst    : Option Nat := none
  lockT0     : Option Word := none
  sector     : Nat := 0
deriving DecidableEq, Repr

/-- A sampling set beside its registers (R288, R290): whether its turn mark has come, whether S1 of a
single-shunt period has been reached, whether its conversions are under way, and which leg's current
each single-shunt sample is, negated or not (none: no leg's). -/
structure AdcSet where
  due   : Bool := false
  got1  : Bool := false
  conv  : Bool := false
  note1 : Option (Fin 3 × Bool) := none
  note2 : Option (Fin 3 × Bool) := none
deriving DecidableEq, Repr

/-- A PMBus transfer of the lane die's host (R55): its kind and how often it has failed (R60). -/
inductive XferKind where
  | voutCommand | readVout | statusWord | voutMode
deriving DecidableEq, Repr

structure Xfer where
  kind  : XferKind
  fails : Nat := 0
deriving DecidableEq, Repr

/-- The supply state beside the PWR registers: the request outstanding, the transfer in progress,
whether VOUT_COMMAND or a STATUS_WORD read waits for it to end, and whether the VCORE warning is armed
(R124). -/
structure Power where
  vreq       : Option Nat := none
  xfer       : Option Xfer := none
  cmdDue     : Bool := false
  alertDue   : Bool := false
  warnArmed  : Bool := true
deriving DecidableEq, Repr

/-- Where the lane stands in low-power entry and wake (R73, R77, R78). -/
inductive LpPhase where
  | awake | armed | clamped | asleep | waking | retryWait
deriving DecidableEq, Repr

/-- The Wellhead beside its registers: posted writes (R117), its copy of the regulator's address and
exponent (R72), and the low-power sequence. `target` is the mode code entered; `sameEdge` says that the slow-clock
edge of the latest wake source is still the present one (R76); `xtalOn` and `xtalOk` are the crystal oscillator's
enable and whether it has settled (R71, R77-R79). -/
structure Wellhead where
  posted  : List (Nat × Word) := []
  pmbAddr : BitVec 7 := 0x20
  pmbExp  : Option (BitVec 5) := none
  phase   : LpPhase := .awake
  target  : BitVec 4 := 0
  wakeSrc : Option (BitVec 4) := none
  tries   : Nat := 0
  sameEdge : Bool := false
  xtalOn  : Bool := false
  xtalOk  : Bool := false
deriving DecidableEq, Repr

/-- The reset and boot state: the highest kind asserted since the previous release, whether the POR
release conditions are still missing, the SPLIT latch (R46), whether the injection test is still to
pass (FAULT_N, R266), whether phase 0 runs, CORE1_ENTRY and SUCC of the running image, whether
the watchdog is armed, with the instant that its count last restarted (R107), and what the rails show from outside:
the level of PMB_PGOOD (R53, R62) and whether VANA is low (R54). -/
structure Reset where
  asserted  : Option ResetKind := some .por
  porHold   : Bool := true
  splitLatch : Bool := false
  injHold   : Bool := true
  phase0    : Bool := false
  core1Entry : Word := 0
  succ      : Nat := 0
  wdgOn     : Bool := false
  wdgT0     : Word := 0
  pgood     : Bool := false
  vanaUv    : Bool := false
deriving DecidableEq, Repr

/-- A formation in progress (R361): the target turn mark, the lead, the mode, the member lanes, and
whether the initial copy is held. -/
structure Formation where
  tgt     : BitVec 6
  lead    : Lane
  mode    : BitVec 4
  members : List Lane
  token   : Bool := false
  copy    : Bool := false
deriving DecidableEq, Repr

/-- The mode state beside SYS_MODE: the pending request (R28), the turn marks it has seen (R363),
whether the low-power request waits for a voltage request (R73), whether the stop program has ended
(R29), a formation (R361), the fault record window (R372) and a watchdog reset that is deferred
(R108). -/
structure ModeState where
  request   : Option (BitVec 4) := none
  marks     : Nat := 0
  lpWait    : Bool := false
  stopDone  : Bool := false
  forming   : Option Formation := none
  window    : Option ResetKind := none
  deferred  : Bool := false
  ownFault  : Bool := false
  dblFault  : Bool := false
deriving DecidableEq, Repr

/-- Who wrote a Cistern command. -/
inductive CisOp where
  | verify (slot : Fin 4)
  | activate (slot : Fin 4)
  | rollback
  | erase (slot : Fin 4)
  | raiseFloor (v : BitVec 16)
  | fuseKey
deriving DecidableEq, Repr

/-- A slot's entry of the directory (R80, R88, R92). -/
structure Slot where
  state  : BitVec 3 := 0
  booted : Bool := false
deriving DecidableEq, Repr

/-- One copy of the directory: the slots, the floor and the sequence number (R80). -/
structure Directory where
  slots : Vector Slot 4 := Vector.replicate 4 {}
  floor : BitVec 16 := 0
  seq   : Nat := 0
  valid : Bool := true
deriving DecidableEq, Repr

/-- A journal entry (R81). -/
structure Journal where
  dir      : Directory
  complete : Bool
deriving DecidableEq, Repr

/-- The Cistern and the key well: they survive every reset and low-power state (R121). `bytes` are
the slots, the logs and the spares by Cistern address; the directory and the journal are held as
what they say, not as bytes (DESIGN CHOICE, log entry 9). The well holds the key hash, its CRC-32C and the lock bit.
`running` is lost at a reset; `dataBusy` says that a data write is in progress, at the Cistern address `dataAt`, and
`heldData` are the engines whose CIS_DATA writes it holds, with their words (R90). -/
structure Cistern where
  bytes    : Memory := []
  dir0     : Directory := {}
  dir1     : Directory := {}
  journal  : Option Journal := none
  keyHash  : BitVec 256 := 0
  keyCrc   : Word := 0
  keyLock  : Bool := false
  running  : Option CisOp := none
  dataBusy : Bool := false
  dataAt   : Nat := 0
  heldData : List (Engine × Word) := []
  remapTab : List (Nat × Nat) := []
  remapping : Option Nat := none
deriving DecidableEq, Repr

/-- What the lane holds of a peer lane (R355, R359, R373, R379). `given` is the role that a turn mark
gave the peer until its next STATUS, with its eligibility (R359); `leaving`, `byIsol` (its turn mark), `implicit` and
`lost` a departure that is due at a turn mark, by a token, the isolation rule, implicitly or as its
STATUS shows; `frameSeen` and `framePrev` whether a valid frame of it came in the present and the
previous turn; `cleanRun` its consecutive CLEAN verdicts. `older` are the two STATUS tokens before the latest, and
`judged` is the one that a turn mark takes as received at least 20 µs before it (R363, R378). `eligs` are the lanes that
were lead-eligible by their latest STATUS when a departure of the peer became known (R376). -/
structure Peer where
  status   : Option StatusTok := none
  older    : List StatusTok := []
  judged   : Option StatusTok := none
  version  : Option VersionTok := none
  given    : Option (BitVec 2 × Bool) := none
  driving  : Bool := false
  leaving  : Option DepartTok := none
  eligs    : Option (BitVec 3) := none
  byIsol   : Option (BitVec 6) := none
  implicit : Bool := false
  lost     : Bool := false
  shorted  : BitVec 5 := 0
  frameSeen : Bool := false
  framePrev : Bool := false
  rampT0   : Option Word := none
  cleanRun : Nat := 0
deriving DecidableEq, Repr

/-- One end of a Leat (R354, R356): whether a valid STATUS has arrived within 25 µs, whether four
wires work, and the consecutive good STATUS tokens. -/
structure LeatEnd where
  heard   : Bool := false
  wiresOk : Bool := true
  good    : Nat := 0
deriving DecidableEq, Repr

/-- The Leats beside their registers (chapter 15): the lane's own departure token that is due, the
verdicts received, the area that a complete block of the open window lies in and whether a block
touched the areas, the outcome of the comparison that runs (RESULT, FIRST), whether GO was written in
this turn, the TURNNOs of the lane's run of mismatches and the turn marks until it decides (R370),
the start of its RAMP, whether its promotion is due (R382), the bridges held at its two latest STATUS tokens, and
those that a turn mark takes as held 20 µs before it (R378), the latest RESIGN or LEAVE sent, with the role it was
sent in, until the Miller core has logged it (R391), the lead eligibility that the lane's latest STATUS reports, and
the lanes that were lead-eligible by theirs when the lane announced its yield (R376). -/
structure LeatState where
  ends      : Vector LeatEnd 2 := Vector.replicate 2 {}
  peers     : Vector Peer 3 := Vector.replicate 3 {}
  leaving   : Option DepartTok := none
  verdicts  : List VerdictTok := []
  blockIn   : Option Nat := none
  touched   : Bool := false
  windowOpen : Bool := false
  goDone    : Bool := false
  shCompare : Option (BitVec 2 × Nat) := none
  missRun   : List Word := []
  leaveDue  : Option Nat := none
  rampT0    : Word := 0
  promote   : Bool := false
  ownHeld   : List (BitVec 5) := []
  heldMark  : BitVec 5 := 0
  departed  : Option (BitVec 2 × DepartTok) := none
  ownElig   : Option Bool := none
  yieldEligs : Option (BitVec 3) := none
deriving DecidableEq, Repr

/-- The safe wires beside the SAFE registers: the filtered levels (none: no level yet since POR,
R393), whether the SACK pulse in progress is measured (R400), the last NORMAL (false) or DEMAND (true)
that each pair read (R397), and a stop demand that has yet to act (R398). Lines 0-7 are SIN0_A,
SIN0_B, ... SIN3_B, line 8 is SACK. -/
structure SafeState where
  levels    : Vector (Option Bool) 9 := Vector.replicate 9 none
  last      : Vector (Option Bool) 4 := Vector.replicate 4 none
  measuring : Bool := false
  stopPend  : Bool := false
deriving DecidableEq, Repr

/-- The drive die beside its registers: posted writes, the levels of ENA and VDRV at its inputs, and
whether VMOT holds the OV2 reaction (R270). -/
structure Drive where
  posted : List (Nat × Word) := []
  ena    : Bool := false
  vdrvOk : Bool := false
  ov2    : Bool := false
deriving DecidableEq, Repr

/-- One trigger input of a Sluice engine (R195-R197, R200): whether its back buffer is filling and
all of it has come (`ready`), whether it is pending, how many triggers its source has given that have
yet to be taken (`due`, log entry 17), the source events since it last triggered, words
0-7 of the back buffer, the triggers since RUN was set, and whether a trigger came while it was
pending. -/
structure TrigInput where
  filling : Bool := false
  ready   : Bool := false
  pend    : Bool := false
  due     : Nat := 0
  divCnt  : Nat := 0
  back    : Vector Word 8 := Vector.replicate 8 0
  count   : Word := 0
  coal    : Bool := false
deriving DecidableEq, Repr

/-- A Sluice engine's unit beside its registers and its Mbarra state (chapter 08): its inputs, whether
the evaluation in progress has an EMIT in force (R208) and has been found too long (R203), whether
OSCA was executed since the last turn mark (R211), the instant of the trigger accepted, the stores to
TAIL that are not yet visible (R209), and the overruns since CONS last cleared (R201). -/
structure Sluice where
  inputs   : Vector TrigInput 4 := Vector.replicate 4 {}
  emitSeen : Bool := false
  oscaSeen : Bool := false
  longSeen : Bool := false
  t0       : Word := 0
  tailBuf  : List (Nat × Word) := []
  overCnt  : Nat := 0
deriving DecidableEq, Repr

/-- Everything that leaves the lane on its links and buses, in order. Of a Knaor frame of which the Weir lets only parts
out, `high` says from when to when TXEN is high, in eighths of a nanosecond of the frame (R346); `txenCut` is TXEN's
fall within a frame or a wake pattern that the engine ends early (R321, R340), and `copyCut` the end of a copy block in
transit before its last byte (R365). -/
inductive Sent where
  | status (leat : Fin 2) (tok : StatusTok)
  | version (leat : Fin 2) (tok : VersionTok)
  | form (leat : Fin 2) (tok : FormTok)
  | resign (leat : Fin 2) (tok : DepartTok)
  | leave (leat : Fin 2) (tok : DepartTok)
  | verdict (leat : Fin 2) (tok : VerdictTok)
  | copy (leat : Fin 2) (block : List Byte)
  | copyCut (leat : Fin 2)
  | frame (ch : Fin 2) (bytes : List Byte)
  | frameCut (ch : Fin 2) (bytes : List Byte) (high : List (Nat × Nat))
  | txenCut (ch : Fin 2)
  | wakePattern (ch : Fin 2)
  | pmbus (addr : Nat) (code : Nat) (data : Nat)
  | race (words : List Word)
  | credit (n : Nat)
  | can (n : Fin 2) (f : CanFrame)
deriving DecidableEq, Repr

/-- Why the model stops. -/
inductive Fault where
  /-- Raised by a meaning whose command is ill-formed (WellFormed.lean): an operand names a row, a
  sector, a bucket or a length that the hardware does not have. Safe: no such command exists. -/
  | illFormed
deriving DecidableEq, Repr

/-- Why the model refuses a command. -/
inductive Refusal where
  /-- Raised only by an arm of `exec` for a command that has no meaning yet. Safe. -/
  | notModelled (mnemonic : String)
deriving DecidableEq, Repr


/-- A Cog channel beside its registers (chapter 13): the filter outputs, the intervals since the
latest standstill or reversal (latest first, in twelfths of 1/1024 µs, so that a gap's parts are
whole), whether no edge was counted since a wire fault, the net count and the directions of the window
in progress (R313), the edges counted since standstill and Δp (R306, in twelfths), VAL as the compare
units were armed (R315), a WIN that waits for the window boundary, and the instant of the latest capture, in
`State.age` (R312). -/
structure Cog where
  a : Bool := false
  b : Bool := false
  z : Bool := false
  ivals : List Nat := []
  fresh : Bool := false
  net   : Int := 0
  up    : Bool := false
  down  : Bool := false
  teeth : Nat := 0
  dp    : Nat := 0
  cmpVal : Vector Word 2 := Vector.replicate 2 0
  winArmed : Option Nat := none
  seen  : Option Nat := none
deriving DecidableEq, Repr

/-- What a transmit buffer holds as latched (R332): the buffer, VALID, LEN and its sixteen words. -/
structure TxLatch where
  buf   : Nat
  valid : Bool
  len   : Nat
  data  : List Word
deriving DecidableEq, Repr

/-- A frame that a receive buffer has taken since the latest turn mark (R330, R333): the turn and the
place it came in, the channel of the copy taken, whether both copies were valid, its sender, its JOINING flag
and its payload; when its last stop bit ended, in 1/256 µs after the turn's start, and whether that was after macrotick
TMARK of the turn. -/
structure RxTaken where
  turn    : Nat
  place   : Nat
  ch      : Fin 2
  both    : Bool
  node    : Nat
  join    : Bool
  payload : List Byte
  ended   : Int
  after   : Bool
deriving DecidableEq, Repr

/-- What waits in a receive buffer for the freeze: the latest frame with payload, and the latest NULL frame. -/
structure RxWait where
  got  : Option RxTaken := none
  null : Option RxTaken := none
deriving DecidableEq, Repr

/-- The first valid copy of the frame of a place (R330). -/
structure FirstCopy where
  place   : Nat
  ch      : Fin 2
  payload : List Byte
deriving DecidableEq, Repr

/-- The deviations measured at one place in the present turn, on K1 and K2 (R343). -/
structure Deviation where
  place : Nat
  d1    : Option Int := none
  d2    : Option Int := none
deriving DecidableEq, Repr

/-- An entry of the spill queue (R350). -/
structure SpillEntry where
  id   : Nat
  len  : Nat
  data : List Word
  elig : Bool := false
deriving DecidableEq, Repr

/-- The type of an own transmission (R325). -/
inductive TxKind where
  | static | spill | coldstart
deriving DecidableEq, Repr

/-- An own transmission in progress: its place, its kind and its bytes; how long it lasts, and from when to when the
Weir lets TXEN be high in it (R346, R347), in eighths of a nanosecond. -/
structure OwnFrame where
  place : Nat
  kind  : TxKind
  bytes : List Byte
  len   : Nat
  high  : List (Nat × Nat)
deriving DecidableEq, Repr

/-- What R342 counts of one channel: turns without a valid frame of another node, own transmissions with
an invalid loopback, good turns in a row while lost; and of the present turn, whether such a frame came
and whether an own loopback was invalid. -/
structure ChanCount where
  silent : Nat := 0
  badTx  : Nat := 0
  good   : Nat := 0
  heard  : Bool := false
  lbBad  : Bool := false
deriving DecidableEq, Repr

/-- The Knaor engine and its Weir beside their registers (chapter 14). `marked`: the turn mark of the
present turn has come, and `hadMark`: there was one since the node last had none; `ksyncSeen`: the
first consistent turn of INTEGRATING; `synced`: KSYNC was 1 since EN was set; `heard`: a valid frame
came since LISTEN was entered. `consist`, `coldTurns`, `holdTurns` and `passTurns` count turns for
R338, `passStart` says that the present turn began in PASSIVE. `devs`, `ownSync`, `turnBad` are the
present turn's for R337 and R343, `miss`, `acc`, `rc` and `rcNow` the variables of R344 with the rate of
the present turn. `sawSync`: a valid sync or coldstart frame of another node came in the turn (R337). `wdevs` are the Weir's deviations,
`wTurn` its turn count, `wOff` its distance from the engine's turn start, `gapDone` and `weirFirst` which of the two turn
starts came first, `spillSent` the spill frames it has let out in its turn. `coldLog` keeps what the transmit buffers
held before each change in COLDSTART, with the instant of the change (R339). `spillC` and `spillT` are c and t of the
spill count (R349), t in macroticks. `waking` are the wake patterns being sent, with their starts (R352). -/
structure Knaor where
  marked    : Bool := false
  hadMark   : Bool := false
  ksyncSeen : Bool := false
  synced    : Bool := false
  heard     : Bool := false
  consist   : Nat := 0
  coldTurns : Nat := 0
  holdTurns : Nat := 0
  passTurns : Nat := 0
  passStart : Bool := false
  devs      : List Deviation := []
  ownSync   : Bool := false
  sawSync   : Bool := false
  turnBad   : Bool := false
  miss      : Nat := 0
  acc       : Int := 0
  rc        : Int := 0
  rcNow     : Int := 0
  wdevs     : List (Nat × Int) := []
  wTurn     : Nat := 0
  wOff      : Int := 0
  gapDone   : Bool := false
  weirFirst : Bool := false
  chans     : Vector ChanCount 2 := Vector.replicate 2 {}
  clips     : Nat := 0
  chl       : Nat := 0
  latched   : Option (List TxLatch) := none
  coldLatch : Option (List TxLatch) := none
  coldLog   : List (Nat × List TxLatch) := []
  rx        : Vector RxWait 64 := Vector.replicate 64 {}
  first     : Option FirstCopy := none
  sending   : Option OwnFrame := none
  waking    : List (Fin 2 × Nat) := []
  queue     : List SpillEntry := []
  spillC    : Nat := 0
  spillT    : Nat := 0
  spillSent : Nat := 0
deriving DecidableEq, Repr

/-- An inbound Race buffer (R413, R417): its packet, the words already written, and whether it has been
carried out and waits to be freed. -/
structure RaceBuf where
  words : List Word
  done  : Nat := 0
  fin   : Bool := false
deriving DecidableEq, Repr

/-- A trace record (R419). -/
structure TraceRec where
  tag   : Nat
  stamp : Word
  words : List Word
deriving DecidableEq, Repr

/-- The types of an outbound Race packet (R410). -/
inductive OutKind where
  | sync | doorbell | gap | trace
deriving DecidableEq, Repr

/-- The Race port beside its registers (chapter 17): the inbound buffers in order of arrival, the trace
queue, the records dropped since the latest GAP, the outbound doorbell that waits, the packet being sent,
the consecutive valid SYNC packets and the consecutive discards (R412), the next SEQ, the credits
withheld by a dip (R415), and of the ROM's services (R421) the reply code that is due, whether a COMMAND
waits for DONE, and the MUL that a SPEED has asked for. -/
structure Race where
  bufs    : List RaceBuf := []
  queue   : List TraceRec := []
  gap     : Nat := 0
  dbOut   : Option (List Word) := none
  sending : Option (OutKind × List Word) := none
  syncRun : Nat := 0
  badRun  : Nat := 0
  seq     : Nat := 0
  owed    : Nat := 0
  rom     : Option Nat := none
  romWait : Bool := false
  romMul  : Option Nat := none
deriving DecidableEq, Repr

/-- A received CAN frame as it is stored (R424, R426). -/
structure CanEntry where
  frame  : CanFrame
  filter : Nat
  stamp  : Word
deriving DecidableEq, Repr

/-- One CAN controller beside its registers (chapter 17): the transmit queue in push order, the frame of
it that goes next, the receive FIFO, and whether a bus-off recovery runs. -/
structure Can where
  tx      : List CanFrame := []
  cur     : Option CanFrame := none
  rx      : List CanEntry := []
  recover : Bool := false
deriving DecidableEq, Repr

/-- What the wear log keeps beside its ring of records (R427, R430, R443): the spare table and the
baseline. It survives every reset and low-power state. `rows` counts the spare rows in use or used-bad
of each array, `rowMap` and `wires` what each replaces. -/
structure WearLog where
  resIdx   : Nat := 4
  retIdx   : Nat := 7
  resBad   : Bool := false
  rows     : Vector Nat 19 := Vector.replicate 19 0
  rowMap   : List (Nat × Nat) := []
  wires    : List (Fin 2 × Fin 4) := []
  baseline : Option (List BasePoint) := none
deriving DecidableEq, Repr

/-- A measured slowdown, exact: `num / (den + 1)` (R432). -/
structure Ratio where
  num : Int
  den : Nat
deriving DecidableEq, Repr

/-- One Plumb site: its latest accepted slowdowns, newest first, the consecutive rounds that qualify
it for retirement, and whether it is in warning (R432, R434). -/
structure Site where
  samples : List Ratio := []
  rounds  : Nat := 0
  warned  : Bool := false
deriving DecidableEq, Repr

/-- What the Miller core's fault records have noted (R391; DESIGN CHOICE, log entry 66): the latch words, the peers
counted as lost, the lead, and the TURNNO of the latest mismatch of a comparison. -/
structure Noted where
  latches : Vector Word 5 := Vector.replicate 5 0
  lost    : BitVec 3 := 0
  lead    : Nat := 0
  shadow  : Option Word := none
deriving DecidableEq, Repr

/-- A record that the Miller core has yet to write, as captured: words 0 to 14 without SEQ (R390), for the ring of the
wear log or of the fault log. -/
structure DueRec where
  wear  : Bool
  words : List Word
deriving DecidableEq, Repr

/-- The Plumb and the spares beside their registers (chapter 18): the baseline and spare table in force (`log`) and as
the Cistern holds them (`kept`), the records that a dip or a running command keeps from being written (`due`, R69, R390)
and whether a wear retirement waits for that too (`retireDue`, R435), the sequence counts
of the two rings (R390), the wear retirement that waits for the boot, the engine that is being primed
for, whether the self-test runs, the codes that baselining has yet to measure (R431), the corrected
errors of rows since reset, by array and row, the repairs in progress with their causes (R440), where the next record
of the fault log goes, and what its records have noted (R390, R391). -/
structure Plumb where
  log       : WearLog := {}
  kept      : WearLog := {}
  due       : List DueRec := []
  retireDue : Bool := false
  faultSeq  : Word := 1
  wearSeq   : Word := 1
  wearPos   : Nat := 0
  sites     : Vector Site 12 := Vector.replicate 12 {}
  pendSite  : Option (Fin 5) := none
  priming   : Option (Fin 5) := none
  selfTest  : Bool := false
  baseGoals : List Nat := []
  rowErrs   : List ((Nat × Nat) × Nat) := []
  repairing : List ((Nat × Nat) × Nat) := []
  faultPos  : Nat := 0
  noted     : Noted := {}
deriving DecidableEq, Repr

/-- What the present instant has seen, until the tick that ends it (log entry 8): the strobe groups that a turn mark
and that SYS_UPD has fired in it (R112), the legs whose duty an EMIT has set (R186), and the words of LUT memory that
another engine than its own has stored, as they were before (R177). -/
structure Instant where
  byMark : List Nat := []
  byUpd  : List Nat := []
  emits  : List (Fin 5 × Fin 3) := []
  lut    : List (Nat × Word) := []
deriving DecidableEq, Repr

/-- The classes of asynchronous inputs (R216). -/
inductive InputKind where
  | load | atomic | tnow | event | wait | sleep
deriving DecidableEq, Repr

/-- What the input-capture stage has taken for an instruction (R217). -/
structure LagInput where
  kind  : InputKind
  value : Word
deriving DecidableEq, Repr

/-- An action held until core 1 has retired its instruction (R219): a store of the `n` low bytes of `v` at a lane
address, or a register write, with the level it was made at. -/
inductive HeldAct where
  | mem (la n v : Nat)
  | reg (a : Nat) (v : Word) (sup : Bool)
deriving DecidableEq, Repr

/-- An instruction that core 0 has been through and core 1 has not (R215): cw.retired and the pc before it, the core's
state after it, whether it retired, its entry of the lag FIFO, whose key is `key` (R217), and its held action. -/
structure Lagged where
  key     : Word
  pc      : Word
  after   : EngState
  retires : Bool
  input   : Option LagInput := none
  act     : Option HeldAct := none
deriving DecidableEq, Repr

/-- The pair in lockstep (R215-R219): what core 1 has yet to retire, oldest first, and what the instruction in progress
has captured and what it holds. -/
structure PairState where
  trail : List Lagged := []
  input : Option LagInput := none
  act   : Option HeldAct := none
deriving DecidableEq, Repr

/-- The states of a TAP (R48, IEEE 1149.1). -/
inductive TapState where
  | testLogicReset | runTestIdle
  | selectDr | captureDr | shiftDr | exit1Dr | pauseDr | exit2Dr | updateDr
  | selectIr | captureIr | shiftIr | exit1Ir | pauseIr | exit2Ir | updateIr
deriving DecidableEq, Repr

/-- The machine. `free` counts the free values used (DESIGN CHOICE, log entry 1); `tnow` is the lane time of R148,
and `age` the same count without its wrap.
`regs` holds the register words and `shadow` the buffered words of SH fields (R110), by address;
`mem` the memories of the lane's address space, where the word addresses of `ecc` hold an uncorrectable error (R152);
in lockstep those of `ecc1` do so in core 1's copies, at core 0's addresses (R214). `tap` is the boundary-scan port's state
(R48), and `sent` is what the lane has sent. -/
structure State where
  lane    : Lane := .A
  variant : Variant := .fpx3
  pending : List Instr := []
  free    : Nat := 0
  tnow    : Word := 0
  age     : Nat := 0
  now     : Instant := {}
  regs    : Store := []
  shadow  : Store := []
  mem     : Memory := []
  ecc     : List Nat := []
  ecc1    : List Nat := []
  engs    : Vector EngState 9 := Vector.replicate 9 {}
  pair    : PairState := {}
  rst     : Reset := {}
  mode    : ModeState := {}
  power   : Power := {}
  whd     : Wellhead := {}
  cis     : Cistern := {}
  drv     : Drive := {}
  brg     : Vector Bridge 5 := Vector.replicate 5 {}
  adc     : Vector AdcSet 16 := Vector.replicate 16 {}
  slu     : Vector Sluice 5 := Vector.replicate 5 {}
  cog     : Vector Cog 6 := Vector.replicate 6 {}
  knr     : Knaor := {}
  leat    : LeatState := {}
  safe    : SafeState := {}
  race    : Race := {}
  can     : Vector Can 2 := Vector.replicate 2 {}
  plb     : Plumb := {}
  tap     : TapState := .testLogicReset
  sent    : List Sent := []
deriving DecidableEq, Repr

/-- The machine right after power-on: a lane held in power-on reset (R10, R52, R119) with nothing
waiting. Lane A of an FPX-3L1296 stands for any lane (DESIGN CHOICE, log entry 5). -/
def State.reset : State := {}

end Sys2Proof.Machine
end

