-- ==== Sys2Proof/Machine/RegMap.lean ====
section
/-!
DEFINITION. The register map (R101): every register kind of the chapters with its address, its
instances, its fields with their access codes (R7) and the word its Reset column gives (R10).
`Reg.X` is an address, `Fld.X_F` a field; the indices of an array are arguments in the order in
which the chapters nest them. The table is read from the register tables of the chapters.
-/

namespace Sys2Proof.Machine

namespace Reg

/-- SYS_TBSEL (R18). -/
def SYS_TBSEL : Nat := 0x40000018
/-- SYS_MODE (R26). -/
def SYS_MODE : Nat := 0x40000010
/-- SYS_MODEREQ (R27). -/
def SYS_MODEREQ : Nat := 0x40000014
/-- PWR_PMBCFG (R61). -/
def PWR_PMBCFG : Nat := 0x40010000
/-- PWR_VREQ (R61). -/
def PWR_VREQ : Nat := 0x40010004
/-- PWR_VSTAT (R62). -/
def PWR_VSTAT : Nat := 0x40010008
/-- PWR_VOUT (R62). -/
def PWR_VOUT : Nat := 0x4001000c
/-- PWR_STAT (R62). -/
def PWR_STAT : Nat := 0x40010010
/-- PWR_GOV (R65). -/
def PWR_GOV : Nat := 0x40010014
/-- PWR_BOW (R70). -/
def PWR_BOW : Nat := 0x40010018
/-- WHD_WAKECFG (R79). -/
def WHD_WAKECFG : Nat := 0x40050040
/-- WHD_WTIMER (R79). -/
def WHD_WTIMER : Nat := 0x40050044
/-- WHD_WAKESTAT (R79). -/
def WHD_WAKESTAT : Nat := 0x40050048
/-- PROT_REGION_BASE (R98). -/
def PROT_REGION_BASE (n : Nat) : Nat := 0x40030000 + n * 0x10
/-- PROT_REGION_LIMIT (R98). -/
def PROT_REGION_LIMIT (n : Nat) : Nat := 0x40030004 + n * 0x10
/-- PROT_REGION_ATTR (R98). -/
def PROT_REGION_ATTR (n : Nat) : Nat := 0x40030008 + n * 0x10
/-- PROT_OWNBRG (R98). -/
def PROT_OWNBRG : Nat := 0x40030100
/-- PROT_OWNPER (R98). -/
def PROT_OWNPER : Nat := 0x40030104
/-- PROT_KTXB (R98). -/
def PROT_KTXB (n : Nat) : Nat := 0x40030120 + n * 0x4
/-- PROT_RWIN_BASE (R98). -/
def PROT_RWIN_BASE (n : Nat) : Nat := 0x40030140 + n * 0x8
/-- PROT_RWIN_LIMIT (R98). -/
def PROT_RWIN_LIMIT (n : Nat) : Nat := 0x40030144 + n * 0x8
/-- PROT_SEAL (R98). -/
def PROT_SEAL : Nat := 0x400301f0
/-- CIS_SLOT_STATE (R100). -/
def CIS_SLOT_STATE (n : Nat) : Nat := 0x40020000 + n * 0x10
/-- CIS_SLOT_VER (R100). -/
def CIS_SLOT_VER (n : Nat) : Nat := 0x40020004 + n * 0x10
/-- CIS_BOOTSTAT (R100). -/
def CIS_BOOTSTAT : Nat := 0x40020040
/-- CIS_FLOOR (R100). -/
def CIS_FLOOR : Nat := 0x40020044
/-- CIS_CMD (R100). -/
def CIS_CMD : Nat := 0x40020048
/-- CIS_CONFIRM (R100). -/
def CIS_CONFIRM : Nat := 0x4002004c
/-- CIS_STAT (R100). -/
def CIS_STAT : Nat := 0x40020050
/-- CIS_ADDR (R100). -/
def CIS_ADDR : Nat := 0x40020054
/-- CIS_DATA (R100). -/
def CIS_DATA : Nat := 0x40020058
/-- CIS_ARG (R100). -/
def CIS_ARG : Nat := 0x4002005c
/-- CIS_KEYH (R100). -/
def CIS_KEYH (n : Nat) : Nat := 0x40020060 + n * 0x4
/-- CIS_VERCMP (R100). -/
def CIS_VERCMP : Nat := 0x40020080
/-- SYS_ID (R105). -/
def SYS_ID : Nat := 0x40000000
/-- SYS_RSTCTL (R105). -/
def SYS_RSTCTL : Nat := 0x4000001c
/-- SYS_WDG (R106). -/
def SYS_WDG : Nat := 0x40000028
/-- SYS_WDGKICK (R106). -/
def SYS_WDGKICK : Nat := 0x4000002c
/-- SYS_GRPSEL (R109). -/
def SYS_GRPSEL (n : Nat) : Nat := 0x40000030 + n * 0x4
/-- SYS_UPDGRP (R109). -/
def SYS_UPDGRP (n : Nat) : Nat := 0x40000040 + n * 0x4
/-- SYS_UPD (R109). -/
def SYS_UPD : Nat := 0x40000020
/-- SYS_UPDSTAT (R109). -/
def SYS_UPDSTAT : Nat := 0x40000024
/-- WHD_SYNC (R118). -/
def WHD_SYNC : Nat := 0x400500fc
/-- SLU_CTL (R193). -/
def SLU_CTL (n : Nat) : Nat := 0x40100000 + n * 0x10000
/-- SLU_TRIG (R198). -/
def SLU_TRIG (n : Nat) (i : Nat) : Nat := 0x40100010 + n * 0x10000 + i * 0x4
/-- SLU_SWTRG (R198). -/
def SLU_SWTRG (n : Nat) : Nat := 0x40100020 + n * 0x10000
/-- SLU_STAT (R204). -/
def SLU_STAT (n : Nat) : Nat := 0x40100004 + n * 0x10000
/-- SLU_OVRN (R204). -/
def SLU_OVRN (n : Nat) : Nat := 0x40100024 + n * 0x10000
/-- SLU_OVCFG (R204). -/
def SLU_OVCFG (n : Nat) : Nat := 0x40100028 + n * 0x10000
/-- SLU_LAT (R208). -/
def SLU_LAT (n : Nat) : Nat := 0x4010002c + n * 0x10000
/-- SLU_FLAG (R210). -/
def SLU_FLAG (n : Nat) : Nat := 0x40100030 + n * 0x10000
/-- SLU_SP (R210). -/
def SLU_SP (n : Nat) (i : Nat) : Nat := 0x40100100 + n * 0x10000 + i * 0x4
/-- SLU_TAIL (R210). -/
def SLU_TAIL (n : Nat) (i : Nat) : Nat := 0x40100200 + n * 0x10000 + i * 0x4
/-- SLU_TAILF (R210). -/
def SLU_TAILF (n : Nat) (i : Nat) : Nat := 0x40100240 + n * 0x10000 + i * 0x4
/-- MSP_STAT (R228). -/
def MSP_STAT : Nat := 0x40180000
/-- MSP_MMLANE (R228). -/
def MSP_MMLANE (n : Nat) : Nat := 0x40180010 + n * 0x4
/-- MSP_MMRET (R228). -/
def MSP_MMRET : Nat := 0x40180018
/-- MSP_MMPC (R228). -/
def MSP_MMPC : Nat := 0x4018001c
/-- MSP_MMSTAT (R228). -/
def MSP_MMSTAT : Nat := 0x40180020
/-- MSP_MMACK (R228). -/
def MSP_MMACK : Nat := 0x40180024
/-- MSP_INJCTL (R228). -/
def MSP_INJCTL : Nat := 0x40180030
/-- MSP_INJSTAT (R228). -/
def MSP_INJSTAT : Nat := 0x40180034
/-- CAT_PEND (R237). -/
def CAT_PEND (n : Nat) : Nat := 0x40040000 + n * 0x4
/-- CAT_DONE (R237). -/
def CAT_DONE : Nat := 0x40040020
/-- CAT_TGT_EN (R237). -/
def CAT_TGT_EN (n : Nat) (i : Nat) : Nat := 0x40040100 + n * 0x40 + i * 0x4
/-- CAT_TGT_SUM (R237). -/
def CAT_TGT_SUM (n : Nat) : Nat := 0x40040120 + n * 0x40
/-- CAT_CNT (R237). -/
def CAT_CNT (n : Nat) : Nat := 0x40040400 + n * 0x4
/-- WHD_WATCH (R242). -/
def WHD_WATCH (n : Nat) : Nat := 0x40050080 + n * 0x4
/-- BRG_PCFG (R274). -/
def BRG_PCFG (n : Nat) : Nat := 0x40200800 + n * 0x1000
/-- BRG_PCMD (R274). -/
def BRG_PCMD (n : Nat) : Nat := 0x40200804 + n * 0x1000
/-- BRG_PSTAT (R274). -/
def BRG_PSTAT (n : Nat) : Nat := 0x40200808 + n * 0x1000
/-- BRG_LEG_DT (R274). -/
def BRG_LEG_DT (n : Nat) (i : Nat) : Nat := 0x40200840 + n * 0x1000 + i * 0x10
/-- BRG_LEG_STAT (R274). -/
def BRG_LEG_STAT (n : Nat) (i : Nat) : Nat := 0x40200844 + n * 0x1000 + i * 0x10
/-- DRV_STAT (R275). -/
def DRV_STAT : Nat := 0x40280000
/-- DRV_OVCFG (R275). -/
def DRV_OVCFG : Nat := 0x40280010
/-- DRV_SPWCFG (R275). -/
def DRV_SPWCFG : Nat := 0x40280014
/-- DRV_SPWTEST (R275). -/
def DRV_SPWTEST : Nat := 0x40280018
/-- DRV_LATCH (R275). -/
def DRV_LATCH (n : Nat) : Nat := 0x40280040 + n * 0x4
/-- DRV_CNT (R275). -/
def DRV_CNT : Nat := 0x40280060
/-- BRG_CTL (R297). -/
def BRG_CTL (n : Nat) : Nat := 0x40200000 + n * 0x1000
/-- BRG_CFG (R297). -/
def BRG_CFG (n : Nat) : Nat := 0x40200004 + n * 0x1000
/-- BRG_PER (R297). -/
def BRG_PER (n : Nat) : Nat := 0x40200008 + n * 0x1000
/-- BRG_PHASE (R297). -/
def BRG_PHASE (n : Nat) : Nat := 0x4020000c + n * 0x1000
/-- BRG_TIMING (R297). -/
def BRG_TIMING (n : Nat) : Nat := 0x40200010 + n * 0x1000
/-- BRG_DUTY (R297). -/
def BRG_DUTY (n : Nat) (i : Nat) : Nat := 0x40200020 + n * 0x1000 + i * 0x4
/-- BRG_DUTYS (R297). -/
def BRG_DUTYS (n : Nat) (i : Nat) : Nat := 0x40200030 + n * 0x1000 + i * 0x4
/-- BRG_PWMSTAT (R297). -/
def BRG_PWMSTAT (n : Nat) : Nat := 0x40200040 + n * 0x1000
/-- BRG_ANG (R297). -/
def BRG_ANG (n : Nat) : Nat := 0x40200044 + n * 0x1000
/-- BRG_SIX (R297). -/
def BRG_SIX (n : Nat) (i : Nat) : Nat := 0x40200060 + n * 0x1000 + i * 0x4
/-- BRG_CATCHCFG (R297). -/
def BRG_CATCHCFG (n : Nat) : Nat := 0x40200100 + n * 0x1000
/-- BRG_CATCHCTL (R297). -/
def BRG_CATCHCTL (n : Nat) : Nat := 0x40200104 + n * 0x1000
/-- BRG_CATCHST (R297). -/
def BRG_CATCHST (n : Nat) : Nat := 0x40200108 + n * 0x1000
/-- BRG_CATCHSPD (R297). -/
def BRG_CATCHSPD (n : Nat) : Nat := 0x40200110 + n * 0x1000
/-- BRG_KECFG (R297). -/
def BRG_KECFG (n : Nat) : Nat := 0x40200180 + n * 0x1000
/-- BRG_LOCKCFG (R297). -/
def BRG_LOCKCFG (n : Nat) : Nat := 0x4020018c + n * 0x1000
/-- BRG_SUPSTAT (R297). -/
def BRG_SUPSTAT (n : Nat) : Nat := 0x40200190 + n * 0x1000
/-- BRG_CRVCFG (R297). -/
def BRG_CRVCFG (n : Nat) : Nat := 0x40200200 + n * 0x1000
/-- BRG_CRVON (R297). -/
def BRG_CRVON (n : Nat) : Nat := 0x40200204 + n * 0x1000
/-- BRG_CRVOUT (R297). -/
def BRG_CRVOUT (n : Nat) : Nat := 0x4020020c + n * 0x1000
/-- BRG_CRVOUTF (R297). -/
def BRG_CRVOUTF (n : Nat) : Nat := 0x40200210 + n * 0x1000
/-- BRG_CRVPT (R297). -/
def BRG_CRVPT (n : Nat) (i : Nat) : Nat := 0x40200240 + n * 0x1000 + i * 0x4
/-- ADC_SET_CFG (R297). -/
def ADC_SET_CFG (n : Nat) : Nat := 0x40380000 + n * 0x20
/-- ADC_SET_RANK (R297). -/
def ADC_SET_RANK (n : Nat) (i : Nat) : Nat := 0x40380004 + n * 0x20 + i * 0x4
/-- ADC_SET_STAT (R297). -/
def ADC_SET_STAT (n : Nat) : Nat := 0x4038001c + n * 0x20
/-- COG_CFG (R317). -/
def COG_CFG (n : Nat) : Nat := 0x40300000 + n * 0x1000
/-- COG_CPR (R317). -/
def COG_CPR (n : Nat) : Nat := 0x40300004 + n * 0x1000
/-- COG_FLT (R317). -/
def COG_FLT (n : Nat) : Nat := 0x40300008 + n * 0x1000
/-- COG_WIN (R317). -/
def COG_WIN (n : Nat) : Nat := 0x4030000c + n * 0x1000
/-- COG_LIMLO (R317). -/
def COG_LIMLO (n : Nat) : Nat := 0x40300010 + n * 0x1000
/-- COG_LIMHI (R317). -/
def COG_LIMHI (n : Nat) : Nat := 0x40300014 + n * 0x1000
/-- COG_REF (R317). -/
def COG_REF (n : Nat) : Nat := 0x40300018 + n * 0x1000
/-- COG_CTL (R317). -/
def COG_CTL (n : Nat) : Nat := 0x4030001c + n * 0x1000
/-- COG_STAT (R317). -/
def COG_STAT (n : Nat) : Nat := 0x4030002c + n * 0x1000
/-- COG_CMP_CTL (R317). -/
def COG_CMP_CTL (n : Nat) (i : Nat) : Nat := 0x40300044 + n * 0x1000 + i * 0x10
/-- COG_RPT_P (R317). -/
def COG_RPT_P (n : Nat) : Nat := 0x40308000 + n * 0x4
/-- COG_RPT_STAT (R317). -/
def COG_RPT_STAT : Nat := 0x40308010
/-- KNR_CTL (R352). -/
def KNR_CTL : Nat := 0x40400000
/-- KNR_STAT (R352). -/
def KNR_STAT : Nat := 0x40400004
/-- KNR_CFG0 (R352). -/
def KNR_CFG0 : Nat := 0x40400008
/-- KNR_CFG1 (R352). -/
def KNR_CFG1 : Nat := 0x4040000c
/-- KNR_CFG2 (R352). -/
def KNR_CFG2 : Nat := 0x40400010
/-- KNR_CFG3 (R352). -/
def KNR_CFG3 : Nat := 0x40400014
/-- KNR_SYNCCFG (R352). -/
def KNR_SYNCCFG : Nat := 0x40400018
/-- KNR_DELAY (R352). -/
def KNR_DELAY : Nat := 0x4040001c
/-- KNR_WEIR (R352). -/
def KNR_WEIR : Nat := 0x40400020
/-- KNR_SPGRANT (R352). -/
def KNR_SPGRANT (n : Nat) : Nat := 0x40400040 + n * 0x4
/-- KNR_TIME (R352). -/
def KNR_TIME : Nat := 0x40400080
/-- KNR_CORR (R352). -/
def KNR_CORR : Nat := 0x40400084
/-- KNR_WDIFF (R352). -/
def KNR_WDIFF : Nat := 0x40400088
/-- KNR_CNT (R352). -/
def KNR_CNT : Nat := 0x4040008c
/-- KNR_ERRCNT (R352). -/
def KNR_ERRCNT : Nat := 0x40400090
/-- KNR_SPQ (R352). -/
def KNR_SPQ : Nat := 0x404000a0
/-- KNR_SPPUSH (R352). -/
def KNR_SPPUSH : Nat := 0x404000a4
/-- KNR_SPSTAGE (R352). -/
def KNR_SPSTAGE (n : Nat) : Nat := 0x404000c0 + n * 0x4
/-- KNR_BUF_CFG (R352). -/
def KNR_BUF_CFG (n : Nat) : Nat := 0x40401000 + n * 0x10
/-- KNR_BUF_STAT (R352). -/
def KNR_BUF_STAT (n : Nat) : Nat := 0x40401004 + n * 0x10
/-- KNR_DATA (R352). -/
def KNR_DATA (n : Nat) (i : Nat) : Nat := 0x40402000 + n * 0x40 + i * 0x4
/-- LEAT_CFG (R391). -/
def LEAT_CFG : Nat := 0x40480000
/-- LEAT_KMAP (R391). -/
def LEAT_KMAP : Nat := 0x40480004
/-- LEAT_LINK (R391). -/
def LEAT_LINK : Nat := 0x40480008
/-- LEAT_ROLE (R391). -/
def LEAT_ROLE : Nat := 0x4048000c
/-- LEAT_JOIN (R391). -/
def LEAT_JOIN : Nat := 0x40480010
/-- LEAT_TURNNO (R391). -/
def LEAT_TURNNO : Nat := 0x40480014
/-- LEAT_TXADDR (R391). -/
def LEAT_TXADDR : Nat := 0x40480020
/-- LEAT_TXCTL (R391). -/
def LEAT_TXCTL : Nat := 0x40480024
/-- LEAT_RXADDR (R391). -/
def LEAT_RXADDR (n : Nat) : Nat := 0x40480028 + n * 0x4
/-- LEAT_RXSTAT (R391). -/
def LEAT_RXSTAT : Nat := 0x40480030
/-- LEAT_SHADDR (R391). -/
def LEAT_SHADDR : Nat := 0x40480034
/-- LEAT_SHCTL (R391). -/
def LEAT_SHCTL : Nat := 0x40480038
/-- LEAT_SHSTAT (R391). -/
def LEAT_SHSTAT : Nat := 0x4048003c
/-- LEAT_SHARE (R391). -/
def LEAT_SHARE (n : Nat) : Nat := 0x40480040 + n * 0x4
/-- LEAT_SHORT (R391). -/
def LEAT_SHORT : Nat := 0x40480054
/-- LEAT_PEER (R391). -/
def LEAT_PEER (n : Nat) : Nat := 0x40480058 + n * 0x4
/-- LEAT_RESIGN (R391). -/
def LEAT_RESIGN : Nat := 0x40480064
/-- LEAT_RRACK (R391). -/
def LEAT_RRACK : Nat := 0x40480068
/-- LEAT_CNT (R391). -/
def LEAT_CNT : Nat := 0x4048006c
/-- SAFE_CFG (R406). -/
def SAFE_CFG : Nat := 0x40500000
/-- SAFE_STAT (R406). -/
def SAFE_STAT : Nat := 0x40500004
/-- SAFE_OUT (R406). -/
def SAFE_OUT : Nat := 0x40500008
/-- SAFE_LINE (R406). -/
def SAFE_LINE : Nat := 0x4050000c
/-- SAFE_CNT (R406). -/
def SAFE_CNT : Nat := 0x40500010
/-- RACE_CTL (R421). -/
def RACE_CTL : Nat := 0x40580000
/-- RACE_STAT (R421). -/
def RACE_STAT : Nat := 0x40580004
/-- RACE_CNT (R421). -/
def RACE_CNT : Nat := 0x40580008
/-- RACE_DBCTL (R421). -/
def RACE_DBCTL : Nat := 0x40580100
/-- RACE_TRPUSH (R421). -/
def RACE_TRPUSH : Nat := 0x40580180
/-- CAN_CTL (R426). -/
def CAN_CTL (n : Nat) : Nat := 0x40600000 + n * 0x1000
/-- CAN_NBT (R426). -/
def CAN_NBT (n : Nat) : Nat := 0x40600004 + n * 0x1000
/-- CAN_DBT (R426). -/
def CAN_DBT (n : Nat) : Nat := 0x40600008 + n * 0x1000
/-- CAN_STAT (R426). -/
def CAN_STAT (n : Nat) : Nat := 0x4060000c + n * 0x1000
/-- CAN_CNT (R426). -/
def CAN_CNT (n : Nat) : Nat := 0x40600010 + n * 0x1000
/-- HLTH_WORD (R445). -/
def HLTH_WORD : Nat := 0x40700000
/-- HLTH_CFG (R445). -/
def HLTH_CFG : Nat := 0x40700004
/-- HLTH_SET (R445). -/
def HLTH_SET : Nat := 0x40700008
/-- HLTH_HOURS (R445). -/
def HLTH_HOURS : Nat := 0x4070000c
/-- PLB_CFG (R445). -/
def PLB_CFG : Nat := 0x40680000
/-- PLB_STAT (R445). -/
def PLB_STAT : Nat := 0x40680004
/-- PLB_TEMP (R445). -/
def PLB_TEMP : Nat := 0x40680008
/-- PLB_BASECTL (R445). -/
def PLB_BASECTL : Nat := 0x4068000c
/-- PLB_SPARE (R445). -/
def PLB_SPARE : Nat := 0x40680010
/-- PLB_PRIME (R445). -/
def PLB_PRIME : Nat := 0x40680014
/-- PLB_SITE (R445). -/
def PLB_SITE (n : Nat) : Nat := 0x40680040 + n * 0x4
/-- PLB_ROWS (R445). -/
def PLB_ROWS (n : Nat) : Nat := 0x40680080 + n * 0x4
/-- BRG_CATCHANG (R293). -/
def BRG_CATCHANG (n : Nat) : Nat := 0x4020010c + n * 0x1000
/-- BRG_CATCHT (R293). -/
def BRG_CATCHT (n : Nat) : Nat := 0x40200114 + n * 0x1000
/-- BRG_KENOM (R294). -/
def BRG_KENOM (n : Nat) : Nat := 0x40200184 + n * 0x1000
/-- BRG_KEEST (R294). -/
def BRG_KEEST (n : Nat) : Nat := 0x40200188 + n * 0x1000
/-- BRG_CRVIN (R297). -/
def BRG_CRVIN (n : Nat) : Nat := 0x40200208 + n * 0x1000
/-- ADC_SET_RES (R288). -/
def ADC_SET_RES (n : Nat) (i : Nat) : Nat := 0x40380010 + n * 0x20 + i * 0x4
/-- COG_POS (R309). -/
def COG_POS (n : Nat) : Nat := 0x40300020 + n * 0x1000
/-- COG_ANG (R309). -/
def COG_ANG (n : Nat) : Nat := 0x40300024 + n * 0x1000
/-- COG_SPD (R309). -/
def COG_SPD (n : Nat) : Nat := 0x40300028 + n * 0x1000
/-- COG_TEDGE (R309). -/
def COG_TEDGE (n : Nat) : Nat := 0x40300030 + n * 0x1000
/-- COG_TIV (R309). -/
def COG_TIV (n : Nat) : Nat := 0x40300034 + n * 0x1000
/-- COG_POSF (R314). -/
def COG_POSF (n : Nat) : Nat := 0x40300060 + n * 0x1000
/-- COG_ANGF (R314). -/
def COG_ANGF (n : Nat) : Nat := 0x40300064 + n * 0x1000
/-- COG_SPDF (R314). -/
def COG_SPDF (n : Nat) : Nat := 0x40300068 + n * 0x1000
/-- COG_CMP_VAL (R315). -/
def COG_CMP_VAL (n : Nat) (i : Nat) : Nat := 0x40300040 + n * 0x1000 + i * 0x10
/-- COG_CMP_T (R315). -/
def COG_CMP_T (n : Nat) (i : Nat) : Nat := 0x40300048 + n * 0x1000 + i * 0x10
/-- COG_STATF (R314). -/
def COG_STATF (n : Nat) : Nat := 0x4030006c + n * 0x1000
/-- RACE_DBIN (R416). -/
def RACE_DBIN (n : Nat) : Nat := 0x40580040 + n * 0x4
/-- RACE_DBOUT (R419). -/
def RACE_DBOUT (n : Nat) : Nat := 0x405800c0 + n * 0x4
/-- RACE_TRSTAGE (R419). -/
def RACE_TRSTAGE (n : Nat) : Nat := 0x40580140 + n * 0x4
/-- CAN_FLT_ID (R424). -/
def CAN_FLT_ID (n : Nat) (i : Nat) : Nat := 0x40600100 + n * 0x1000 + i * 0x8
/-- CAN_FLT_MASK (R424). -/
def CAN_FLT_MASK (n : Nat) (i : Nat) : Nat := 0x40600104 + n * 0x1000 + i * 0x8
/-- CAN_TXS (R425). -/
def CAN_TXS (n : Nat) (i : Nat) : Nat := 0x40600200 + n * 0x1000 + i * 0x4
/-- CAN_TXPUSH (R425). -/
def CAN_TXPUSH (n : Nat) : Nat := 0x40600260 + n * 0x1000
/-- CAN_RXE (R424). -/
def CAN_RXE (n : Nat) (i : Nat) : Nat := 0x40600300 + n * 0x1000 + i * 0x4
/-- CAN_RXPOP (R424). -/
def CAN_RXPOP (n : Nat) : Nat := 0x40600360 + n * 0x1000

end Reg

namespace Fld

def SYS_TBSEL_SEL : Field := ⟨Reg.SYS_TBSEL, 0, 2⟩
def SYS_TBSEL_XTAL_OK : Field := ⟨Reg.SYS_TBSEL, 4, 1⟩
def SYS_TBSEL_DLL_LOCK : Field := ⟨Reg.SYS_TBSEL, 5, 1⟩
def SYS_TBSEL_KSYNC : Field := ⟨Reg.SYS_TBSEL, 6, 1⟩
def SYS_TBSEL_LOCK_LOST : Field := ⟨Reg.SYS_TBSEL, 7, 1⟩
def SYS_TBSEL_ACTIVE : Field := ⟨Reg.SYS_TBSEL, 8, 2⟩
def SYS_MODE_MODE : Field := ⟨Reg.SYS_MODE, 0, 4⟩
def SYS_MODE_PREV : Field := ⟨Reg.SYS_MODE, 4, 4⟩
def SYS_MODE_CAUSE : Field := ⟨Reg.SYS_MODE, 8, 8⟩
def SYS_MODE_ROLE : Field := ⟨Reg.SYS_MODE, 16, 2⟩
def SYS_MODE_SPLIT : Field := ⟨Reg.SYS_MODE, 18, 1⟩
def SYS_MODE_JOINING : Field := ⟨Reg.SYS_MODE, 19, 1⟩
def SYS_MODE_STOPPING : Field := ⟨Reg.SYS_MODE, 20, 1⟩
def SYS_MODE_SCAUSE : Field := ⟨Reg.SYS_MODE, 21, 3⟩
def SYS_MODE_REQST : Field := ⟨Reg.SYS_MODE, 24, 3⟩
def SYS_MODEREQ_TARGET : Field := ⟨Reg.SYS_MODEREQ, 0, 4⟩
def SYS_MODEREQ_KEY : Field := ⟨Reg.SYS_MODEREQ, 16, 16⟩
def PWR_PMBCFG_ADDR : Field := ⟨Reg.PWR_PMBCFG, 0, 7⟩
def PWR_PMBCFG_SPEED : Field := ⟨Reg.PWR_PMBCFG, 7, 1⟩
def PWR_PMBCFG_VEXP : Field := ⟨Reg.PWR_PMBCFG, 8, 5⟩
def PWR_PMBCFG_PMB_BUSY : Field := ⟨Reg.PWR_PMBCFG, 16, 1⟩
def PWR_VREQ_CODE : Field := ⟨Reg.PWR_VREQ, 0, 6⟩
def PWR_VSTAT_TARGET : Field := ⟨Reg.PWR_VSTAT, 0, 6⟩
def PWR_VSTAT_PENDING : Field := ⟨Reg.PWR_VSTAT, 8, 6⟩
def PWR_VSTAT_PGOOD : Field := ⟨Reg.PWR_VSTAT, 16, 1⟩
def PWR_VSTAT_WCODE : Field := ⟨Reg.PWR_VSTAT, 24, 6⟩
def PWR_VOUT_READ_VOUT : Field := ⟨Reg.PWR_VOUT, 0, 16⟩
def PWR_VOUT_STATUS : Field := ⟨Reg.PWR_VOUT, 16, 16⟩
def PWR_STAT_PMBUS_TIMEOUT : Field := ⟨Reg.PWR_STAT, 0, 1⟩
def PWR_STAT_PMBUS_ERR : Field := ⟨Reg.PWR_STAT, 1, 1⟩
def PWR_STAT_PGOOD_LOST : Field := ⟨Reg.PWR_STAT, 2, 1⟩
def PWR_STAT_REG_FAULT : Field := ⟨Reg.PWR_STAT, 3, 1⟩
def PWR_STAT_MODE_BAD : Field := ⟨Reg.PWR_STAT, 4, 1⟩
def PWR_STAT_TOCNT : Field := ⟨Reg.PWR_STAT, 8, 8⟩
def PWR_GOV_FLOOR : Field := ⟨Reg.PWR_GOV, 0, 6⟩
def PWR_GOV_CEIL : Field := ⟨Reg.PWR_GOV, 8, 6⟩
def PWR_GOV_WEAR : Field := ⟨Reg.PWR_GOV, 16, 5⟩
def PWR_GOV_AT_CEIL : Field := ⟨Reg.PWR_GOV, 21, 1⟩
def PWR_GOV_OVR : Field := ⟨Reg.PWR_GOV, 24, 6⟩
def PWR_GOV_EN : Field := ⟨Reg.PWR_GOV, 31, 1⟩
def PWR_BOW_VIO_BOW : Field := ⟨Reg.PWR_BOW, 0, 1⟩
def PWR_BOW_VCORE_BOW : Field := ⟨Reg.PWR_BOW, 1, 1⟩
def PWR_BOW_BOW : Field := ⟨Reg.PWR_BOW, 2, 1⟩
def PWR_BOW_BOW_CLEAR : Field := ⟨Reg.PWR_BOW, 3, 1⟩
def PWR_BOW_VANA_UV : Field := ⟨Reg.PWR_BOW, 4, 1⟩
def PWR_BOW_VIO_CNT : Field := ⟨Reg.PWR_BOW, 8, 8⟩
def PWR_BOW_VCORE_CNT : Field := ⟨Reg.PWR_BOW, 16, 8⟩
def WHD_WAKECFG_K1 : Field := ⟨Reg.WHD_WAKECFG, 0, 2⟩
def WHD_WAKECFG_K2 : Field := ⟨Reg.WHD_WAKECFG, 2, 2⟩
def WHD_WAKECFG_ENA : Field := ⟨Reg.WHD_WAKECFG, 4, 1⟩
def WHD_WAKECFG_SAFE : Field := ⟨Reg.WHD_WAKECFG, 5, 1⟩
def WHD_WAKECFG_TIMER : Field := ⟨Reg.WHD_WAKECFG, 6, 1⟩
def WHD_WTIMER_PERIOD : Field := ⟨Reg.WHD_WTIMER, 0, 24⟩
def WHD_WAKESTAT_SRC : Field := ⟨Reg.WHD_WAKESTAT, 0, 4⟩
def WHD_WAKESTAT_VTRIES : Field := ⟨Reg.WHD_WAKESTAT, 4, 4⟩
def WHD_WAKESTAT_VFAIL : Field := ⟨Reg.WHD_WAKESTAT, 8, 1⟩
def WHD_WAKESTAT_WCNT : Field := ⟨Reg.WHD_WAKESTAT, 16, 16⟩
def PROT_REGION_BASE_BASE (n : Nat) : Field := ⟨Reg.PROT_REGION_BASE n, 12, 20⟩
def PROT_REGION_LIMIT_LIMIT (n : Nat) : Field := ⟨Reg.PROT_REGION_LIMIT n, 12, 20⟩
def PROT_REGION_ATTR_RD (n : Nat) : Field := ⟨Reg.PROT_REGION_ATTR n, 0, 1⟩
def PROT_REGION_ATTR_WR (n : Nat) : Field := ⟨Reg.PROT_REGION_ATTR n, 1, 1⟩
def PROT_REGION_ATTR_EX (n : Nat) : Field := ⟨Reg.PROT_REGION_ATTR n, 2, 1⟩
def PROT_REGION_ATTR_TASK (n : Nat) : Field := ⟨Reg.PROT_REGION_ATTR n, 3, 1⟩
def PROT_REGION_ATTR_MSP (n : Nat) : Field := ⟨Reg.PROT_REGION_ATTR n, 8, 1⟩
def PROT_REGION_ATTR_MILLER (n : Nat) : Field := ⟨Reg.PROT_REGION_ATTR n, 9, 1⟩
def PROT_REGION_ATTR_FLUME (n : Nat) : Field := ⟨Reg.PROT_REGION_ATTR n, 10, 1⟩
def PROT_REGION_ATTR_EN (n : Nat) : Field := ⟨Reg.PROT_REGION_ATTR n, 31, 1⟩
def PROT_OWNBRG_B0 : Field := ⟨Reg.PROT_OWNBRG, 0, 4⟩
def PROT_OWNBRG_B1 : Field := ⟨Reg.PROT_OWNBRG, 4, 4⟩
def PROT_OWNBRG_B2 : Field := ⟨Reg.PROT_OWNBRG, 8, 4⟩
def PROT_OWNBRG_B3 : Field := ⟨Reg.PROT_OWNBRG, 12, 4⟩
def PROT_OWNBRG_B4 : Field := ⟨Reg.PROT_OWNBRG, 16, 4⟩
def PROT_OWNPER_CAN0 : Field := ⟨Reg.PROT_OWNPER, 0, 2⟩
def PROT_OWNPER_CAN1 : Field := ⟨Reg.PROT_OWNPER, 2, 2⟩
def PROT_OWNPER_RACE : Field := ⟨Reg.PROT_OWNPER, 4, 2⟩
def PROT_OWNPER_COGCMP : Field := ⟨Reg.PROT_OWNPER, 6, 2⟩
def PROT_OWNPER_RPT : Field := ⟨Reg.PROT_OWNPER, 8, 2⟩
def PROT_OWNPER_SOUT : Field := ⟨Reg.PROT_OWNPER, 10, 2⟩
def PROT_KTXB_BKT (n : Nat) : Field := ⟨Reg.PROT_KTXB n, 0, 32⟩
def PROT_RWIN_BASE_BASE (n : Nat) : Field := ⟨Reg.PROT_RWIN_BASE n, 12, 20⟩
def PROT_RWIN_LIMIT_LIMIT (n : Nat) : Field := ⟨Reg.PROT_RWIN_LIMIT n, 12, 19⟩
def PROT_RWIN_LIMIT_EN (n : Nat) : Field := ⟨Reg.PROT_RWIN_LIMIT n, 31, 1⟩
def PROT_SEAL_SEALED : Field := ⟨Reg.PROT_SEAL, 0, 1⟩
def PROT_SEAL_BY_ROM : Field := ⟨Reg.PROT_SEAL, 1, 1⟩
def PROT_SEAL_VIOL : Field := ⟨Reg.PROT_SEAL, 16, 16⟩
def CIS_SLOT_STATE_STATE (n : Nat) : Field := ⟨Reg.CIS_SLOT_STATE n, 0, 3⟩
def CIS_SLOT_STATE_BOOTED (n : Nat) : Field := ⟨Reg.CIS_SLOT_STATE n, 3, 1⟩
def CIS_SLOT_STATE_SPLIT (n : Nat) : Field := ⟨Reg.CIS_SLOT_STATE n, 4, 3⟩
def CIS_SLOT_STATE_BELOW (n : Nat) : Field := ⟨Reg.CIS_SLOT_STATE n, 7, 1⟩
def CIS_SLOT_VER_VERSION (n : Nat) : Field := ⟨Reg.CIS_SLOT_VER n, 0, 32⟩
def CIS_BOOTSTAT_RUNSLOT : Field := ⟨Reg.CIS_BOOTSTAT, 0, 2⟩
def CIS_BOOTSTAT_WARM : Field := ⟨Reg.CIS_BOOTSTAT, 2, 1⟩
def CIS_BOOTSTAT_FALLBACK : Field := ⟨Reg.CIS_BOOTSTAT, 3, 1⟩
def CIS_BOOTSTAT_REVERTED : Field := ⟨Reg.CIS_BOOTSTAT, 4, 1⟩
def CIS_BOOTSTAT_TRIALRUN : Field := ⟨Reg.CIS_BOOTSTAT, 5, 1⟩
def CIS_BOOTSTAT_HALT : Field := ⟨Reg.CIS_BOOTSTAT, 8, 8⟩
def CIS_FLOOR_FLOOR : Field := ⟨Reg.CIS_FLOOR, 0, 16⟩
def CIS_FLOOR_KEY_LOCK : Field := ⟨Reg.CIS_FLOOR, 16, 1⟩
def CIS_CMD_OP : Field := ⟨Reg.CIS_CMD, 0, 4⟩
def CIS_CMD_SLOT : Field := ⟨Reg.CIS_CMD, 4, 2⟩
def CIS_CMD_KEY : Field := ⟨Reg.CIS_CMD, 16, 16⟩
def CIS_CONFIRM_KEY : Field := ⟨Reg.CIS_CONFIRM, 16, 16⟩
def CIS_STAT_BUSY : Field := ⟨Reg.CIS_STAT, 0, 1⟩
def CIS_STAT_DONE : Field := ⟨Reg.CIS_STAT, 1, 1⟩
def CIS_STAT_BUSYREF : Field := ⟨Reg.CIS_STAT, 2, 1⟩
def CIS_STAT_CMD : Field := ⟨Reg.CIS_STAT, 3, 1⟩
def CIS_STAT_RESULT : Field := ⟨Reg.CIS_STAT, 4, 4⟩
def CIS_ADDR_ADDR : Field := ⟨Reg.CIS_ADDR, 2, 22⟩
def CIS_DATA_DATA : Field := ⟨Reg.CIS_DATA, 0, 32⟩
def CIS_ARG_ARG : Field := ⟨Reg.CIS_ARG, 0, 16⟩
def CIS_KEYH_HASH (n : Nat) : Field := ⟨Reg.CIS_KEYH n, 0, 32⟩
def CIS_VERCMP_SEEN : Field := ⟨Reg.CIS_VERCMP, 0, 3⟩
def CIS_VERCMP_EQ : Field := ⟨Reg.CIS_VERCMP, 4, 3⟩
def SYS_ID_LANE : Field := ⟨Reg.SYS_ID, 0, 2⟩
def SYS_ID_VARIANT : Field := ⟨Reg.SYS_ID, 4, 4⟩
def SYS_ID_STEP : Field := ⟨Reg.SYS_ID, 8, 8⟩
def SYS_ID_PART : Field := ⟨Reg.SYS_ID, 16, 16⟩
def SYS_RSTCTL_KEY : Field := ⟨Reg.SYS_RSTCTL, 16, 16⟩
def SYS_WDG_PERIOD : Field := ⟨Reg.SYS_WDG, 0, 16⟩
def SYS_WDG_EN : Field := ⟨Reg.SYS_WDG, 31, 1⟩
def SYS_WDGKICK_KEY : Field := ⟨Reg.SYS_WDGKICK, 0, 16⟩
def SYS_GRPSEL_GRP0 (n : Nat) : Field := ⟨Reg.SYS_GRPSEL n, 0, 4⟩
def SYS_GRPSEL_GRP1 (n : Nat) : Field := ⟨Reg.SYS_GRPSEL n, 4, 4⟩
def SYS_GRPSEL_GRP2 (n : Nat) : Field := ⟨Reg.SYS_GRPSEL n, 8, 4⟩
def SYS_GRPSEL_GRP3 (n : Nat) : Field := ⟨Reg.SYS_GRPSEL n, 12, 4⟩
def SYS_GRPSEL_GRP4 (n : Nat) : Field := ⟨Reg.SYS_GRPSEL n, 16, 4⟩
def SYS_GRPSEL_GRP5 (n : Nat) : Field := ⟨Reg.SYS_GRPSEL n, 20, 4⟩
def SYS_GRPSEL_GRP6 (n : Nat) : Field := ⟨Reg.SYS_GRPSEL n, 24, 4⟩
def SYS_GRPSEL_GRP7 (n : Nat) : Field := ⟨Reg.SYS_GRPSEL n, 28, 4⟩
def SYS_UPDGRP_TM (n : Nat) : Field := ⟨Reg.SYS_UPDGRP n, 0, 1⟩
def SYS_UPDGRP_OWNER (n : Nat) : Field := ⟨Reg.SYS_UPDGRP n, 1, 2⟩
def SYS_UPDGRP_FIRED (n : Nat) : Field := ⟨Reg.SYS_UPDGRP n, 8, 8⟩
def SYS_UPD_GRP : Field := ⟨Reg.SYS_UPD, 0, 16⟩
def SYS_UPDSTAT_PEND : Field := ⟨Reg.SYS_UPDSTAT, 0, 16⟩
def SYS_UPDSTAT_DENIED : Field := ⟨Reg.SYS_UPDSTAT, 16, 8⟩
def WHD_SYNC_POSTED : Field := ⟨Reg.WHD_SYNC, 0, 1⟩
def SLU_CTL_RUN (n : Nat) : Field := ⟨Reg.SLU_CTL n, 0, 1⟩
def SLU_TRIG_SRC (n : Nat) (i : Nat) : Field := ⟨Reg.SLU_TRIG n i, 0, 6⟩
def SLU_TRIG_DIV (n : Nat) (i : Nat) : Field := ⟨Reg.SLU_TRIG n i, 8, 4⟩
def SLU_TRIG_COG (n : Nat) (i : Nat) : Field := ⟨Reg.SLU_TRIG n i, 12, 3⟩
def SLU_SWTRG_T (n : Nat) : Field := ⟨Reg.SLU_SWTRG n, 0, 4⟩
def SLU_STAT_STATE (n : Nat) : Field := ⟨Reg.SLU_STAT n, 0, 3⟩
def SLU_STAT_EVAL (n : Nat) : Field := ⟨Reg.SLU_STAT n, 3, 1⟩
def SLU_STAT_CUR (n : Nat) : Field := ⟨Reg.SLU_STAT n, 4, 2⟩
def SLU_STAT_PEND (n : Nat) : Field := ⟨Reg.SLU_STAT n, 8, 4⟩
def SLU_STAT_COAL (n : Nat) : Field := ⟨Reg.SLU_STAT n, 12, 4⟩
def SLU_STAT_LONG (n : Nat) : Field := ⟨Reg.SLU_STAT n, 16, 1⟩
def SLU_STAT_OSCMISS (n : Nat) : Field := ⟨Reg.SLU_STAT n, 17, 1⟩
def SLU_STAT_HCAUSE (n : Nat) : Field := ⟨Reg.SLU_STAT n, 24, 8⟩
def SLU_OVRN_TOTAL (n : Nat) : Field := ⟨Reg.SLU_OVRN n, 0, 16⟩
def SLU_OVRN_CONS (n : Nat) : Field := ⟨Reg.SLU_OVRN n, 16, 8⟩
def SLU_OVRN_CONSMAX (n : Nat) : Field := ⟨Reg.SLU_OVRN n, 24, 8⟩
def SLU_OVCFG_EVMAX (n : Nat) : Field := ⟨Reg.SLU_OVCFG n, 0, 10⟩
def SLU_LAT_LAST (n : Nat) : Field := ⟨Reg.SLU_LAT n, 0, 16⟩
def SLU_LAT_MAX (n : Nat) : Field := ⟨Reg.SLU_LAT n, 16, 16⟩
def SLU_FLAG_OSC (n : Nat) : Field := ⟨Reg.SLU_FLAG n, 0, 1⟩
def SLU_FLAG_DONE (n : Nat) : Field := ⟨Reg.SLU_FLAG n, 1, 1⟩
def SLU_FLAG_USER (n : Nat) : Field := ⟨Reg.SLU_FLAG n, 2, 1⟩
def SLU_SP_VALUE (n : Nat) (i : Nat) : Field := ⟨Reg.SLU_SP n i, 0, 32⟩
def SLU_TAIL_VALUE (n : Nat) (i : Nat) : Field := ⟨Reg.SLU_TAIL n i, 0, 32⟩
def SLU_TAILF_VALUE (n : Nat) (i : Nat) : Field := ⟨Reg.SLU_TAILF n i, 0, 32⟩
def MSP_STAT_SPLIT : Field := ⟨Reg.MSP_STAT, 0, 1⟩
def MSP_STAT_LOCKSTEP : Field := ⟨Reg.MSP_STAT, 1, 1⟩
def MSP_STAT_FIFOMAX : Field := ⟨Reg.MSP_STAT, 8, 6⟩
def MSP_STAT_INJ_BUSY : Field := ⟨Reg.MSP_STAT, 16, 1⟩
def MSP_MMLANE_LANES (n : Nat) : Field := ⟨Reg.MSP_MMLANE n, 0, 32⟩
def MSP_MMRET_RET : Field := ⟨Reg.MSP_MMRET, 0, 32⟩
def MSP_MMPC_PC : Field := ⟨Reg.MSP_MMPC, 0, 32⟩
def MSP_MMSTAT_VALID : Field := ⟨Reg.MSP_MMSTAT, 0, 1⟩
def MSP_MMSTAT_INJ : Field := ⟨Reg.MSP_MMSTAT, 1, 1⟩
def MSP_MMACK_KEY : Field := ⟨Reg.MSP_MMACK, 16, 16⟩
def MSP_INJCTL_KEY : Field := ⟨Reg.MSP_INJCTL, 16, 16⟩
def MSP_INJSTAT_PASS : Field := ⟨Reg.MSP_INJSTAT, 0, 1⟩
def MSP_INJSTAT_RUNS : Field := ⟨Reg.MSP_INJSTAT, 8, 8⟩
def CAT_PEND_PEND (n : Nat) : Field := ⟨Reg.CAT_PEND n, 0, 32⟩
def CAT_DONE_SRC : Field := ⟨Reg.CAT_DONE, 0, 8⟩
def CAT_DONE_N : Field := ⟨Reg.CAT_DONE, 8, 4⟩
def CAT_TGT_EN_EN (n : Nat) (i : Nat) : Field := ⟨Reg.CAT_TGT_EN n i, 0, 32⟩
def CAT_TGT_SUM_SUM (n : Nat) : Field := ⟨Reg.CAT_TGT_SUM n, 0, 7⟩
def CAT_CNT_COUNT (n : Nat) : Field := ⟨Reg.CAT_CNT n, 0, 4⟩
def CAT_CNT_SAT (n : Nat) : Field := ⟨Reg.CAT_CNT n, 4, 1⟩
def CAT_CNT_LEVEL (n : Nat) : Field := ⟨Reg.CAT_CNT n, 5, 1⟩
def CAT_CNT_NOW (n : Nat) : Field := ⟨Reg.CAT_CNT n, 6, 1⟩
def WHD_WATCH_SIG (n : Nat) : Field := ⟨Reg.WHD_WATCH n, 0, 5⟩
def WHD_WATCH_EDGE (n : Nat) : Field := ⟨Reg.WHD_WATCH n, 5, 2⟩
def WHD_WATCH_ARMED (n : Nat) : Field := ⟨Reg.WHD_WATCH n, 8, 1⟩
def WHD_WATCH_LOGGED (n : Nat) : Field := ⟨Reg.WHD_WATCH n, 9, 1⟩
def WHD_WATCH_LSAT (n : Nat) : Field := ⟨Reg.WHD_WATCH n, 10, 1⟩
def WHD_WATCH_CNT (n : Nat) : Field := ⟨Reg.WHD_WATCH n, 12, 4⟩
def BRG_PCFG_SCLASS (n : Nat) : Field := ⟨Reg.BRG_PCFG n, 0, 1⟩
def BRG_PCFG_RESIGN (n : Nat) : Field := ⟨Reg.BRG_PCFG n, 1, 1⟩
def BRG_PCFG_LEGMASK (n : Nat) : Field := ⟨Reg.BRG_PCFG n, 4, 3⟩
def BRG_PCFG_TREF (n : Nat) : Field := ⟨Reg.BRG_PCFG n, 8, 8⟩
def BRG_PCFG_VDSTH (n : Nat) : Field := ⟨Reg.BRG_PCFG n, 16, 4⟩
def BRG_PCFG_BLANK (n : Nat) : Field := ⟨Reg.BRG_PCFG n, 20, 8⟩
def BRG_PCFG_IFAST (n : Nat) : Field := ⟨Reg.BRG_PCFG n, 28, 4⟩
def BRG_PCMD_DEMAND (n : Nat) : Field := ⟨Reg.BRG_PCMD n, 0, 2⟩
def BRG_PSTAT_STATE (n : Nat) : Field := ⟨Reg.BRG_PSTAT n, 0, 3⟩
def BRG_PSTAT_LATCHED (n : Nat) : Field := ⟨Reg.BRG_PSTAT n, 3, 1⟩
def BRG_PSTAT_BSTUV (n : Nat) : Field := ⟨Reg.BRG_PSTAT n, 4, 3⟩
def BRG_PSTAT_CLAMPCNT (n : Nat) : Field := ⟨Reg.BRG_PSTAT n, 8, 8⟩
def BRG_LEG_DT_DTR (n : Nat) (i : Nat) : Field := ⟨Reg.BRG_LEG_DT n i, 0, 10⟩
def BRG_LEG_DT_DTF (n : Nat) (i : Nat) : Field := ⟨Reg.BRG_LEG_DT n i, 16, 10⟩
def BRG_LEG_STAT_GATE (n : Nat) (i : Nat) : Field := ⟨Reg.BRG_LEG_STAT n i, 0, 2⟩
def BRG_LEG_STAT_BSTOK (n : Nat) (i : Nat) : Field := ⟨Reg.BRG_LEG_STAT n i, 2, 1⟩
def BRG_LEG_STAT_UVRUN (n : Nat) (i : Nat) : Field := ⟨Reg.BRG_LEG_STAT n i, 4, 2⟩
def DRV_STAT_ENA : Field := ⟨Reg.DRV_STAT, 0, 1⟩
def DRV_STAT_VDRV_OK : Field := ⟨Reg.DRV_STAT, 1, 1⟩
def DRV_STAT_CP_OK : Field := ⟨Reg.DRV_STAT, 2, 1⟩
def DRV_STAT_CP_FAIL : Field := ⟨Reg.DRV_STAT, 3, 1⟩
def DRV_STAT_OV1 : Field := ⟨Reg.DRV_STAT, 4, 1⟩
def DRV_STAT_OV2 : Field := ⟨Reg.DRV_STAT, 5, 1⟩
def DRV_STAT_OV3 : Field := ⟨Reg.DRV_STAT, 6, 1⟩
def DRV_STAT_SPW_ON : Field := ⟨Reg.DRV_STAT, 7, 1⟩
def DRV_STAT_SPILL_FAULT : Field := ⟨Reg.DRV_STAT, 8, 1⟩
def DRV_STAT_FAULT_LOW : Field := ⟨Reg.DRV_STAT, 9, 1⟩
def DRV_STAT_TBUSY : Field := ⟨Reg.DRV_STAT, 10, 1⟩
def DRV_STAT_TPASS : Field := ⟨Reg.DRV_STAT, 11, 1⟩
def DRV_STAT_TFAIL : Field := ⟨Reg.DRV_STAT, 12, 1⟩
def DRV_STAT_VMOT : Field := ⟨Reg.DRV_STAT, 16, 10⟩
def DRV_OVCFG_OV1 : Field := ⟨Reg.DRV_OVCFG, 0, 8⟩
def DRV_OVCFG_OV1HYS : Field := ⟨Reg.DRV_OVCFG, 8, 2⟩
def DRV_OVCFG_OV2OFS : Field := ⟨Reg.DRV_OVCFG, 12, 4⟩
def DRV_OVCFG_OV2REL : Field := ⟨Reg.DRV_OVCFG, 16, 7⟩
def DRV_SPWCFG_EN : Field := ⟨Reg.DRV_SPWCFG, 0, 1⟩
def DRV_SPWCFG_ITH : Field := ⟨Reg.DRV_SPWCFG, 8, 5⟩
def DRV_SPWCFG_IMAX : Field := ⟨Reg.DRV_SPWCFG, 16, 4⟩
def DRV_SPWCFG_TCHK : Field := ⟨Reg.DRV_SPWCFG, 24, 6⟩
def DRV_SPWTEST_KEY : Field := ⟨Reg.DRV_SPWTEST, 16, 16⟩
def DRV_LATCH_HELD (n : Nat) : Field := ⟨Reg.DRV_LATCH n, 0, 1⟩
def DRV_LATCH_KIND (n : Nat) : Field := ⟨Reg.DRV_LATCH n, 1, 1⟩
def DRV_LATCH_STATE (n : Nat) : Field := ⟨Reg.DRV_LATCH n, 2, 2⟩
def DRV_LATCH_CAUSE (n : Nat) : Field := ⟨Reg.DRV_LATCH n, 4, 4⟩
def DRV_LATCH_LOCH (n : Nat) : Field := ⟨Reg.DRV_LATCH n, 8, 3⟩
def DRV_LATCH_ULOST (n : Nat) : Field := ⟨Reg.DRV_LATCH n, 11, 1⟩
def DRV_LATCH_LOCL (n : Nat) : Field := ⟨Reg.DRV_LATCH n, 12, 3⟩
def DRV_LATCH_UNSH (n : Nat) : Field := ⟨Reg.DRV_LATCH n, 15, 1⟩
def DRV_LATCH_UNTEST (n : Nat) : Field := ⟨Reg.DRV_LATCH n, 16, 3⟩
def DRV_CNT_OV1CNT : Field := ⟨Reg.DRV_CNT, 0, 8⟩
def DRV_CNT_OV2CNT : Field := ⟨Reg.DRV_CNT, 8, 8⟩
def DRV_CNT_UVCNT : Field := ⟨Reg.DRV_CNT, 16, 8⟩
def DRV_CNT_LATCNT : Field := ⟨Reg.DRV_CNT, 24, 8⟩
def BRG_CTL_RUN (n : Nat) : Field := ⟨Reg.BRG_CTL n, 0, 1⟩
def BRG_CFG_TYPE (n : Nat) : Field := ⟨Reg.BRG_CFG n, 0, 3⟩
def BRG_CFG_ALIGN (n : Nat) : Field := ⟨Reg.BRG_CFG n, 3, 1⟩
def BRG_CFG_SYNC (n : Nat) : Field := ⟨Reg.BRG_CFG n, 4, 1⟩
def BRG_CFG_GAIN (n : Nat) : Field := ⟨Reg.BRG_CFG n, 5, 2⟩
def BRG_CFG_COG (n : Nat) : Field := ⟨Reg.BRG_CFG n, 8, 3⟩
def BRG_CFG_PP (n : Nat) : Field := ⟨Reg.BRG_CFG n, 12, 4⟩
def BRG_PER_PER (n : Nat) : Field := ⟨Reg.BRG_PER n, 0, 20⟩
def BRG_PHASE_PHASE (n : Nat) : Field := ⟨Reg.BRG_PHASE n, 0, 20⟩
def BRG_TIMING_MINP (n : Nat) : Field := ⟨Reg.BRG_TIMING n, 0, 10⟩
def BRG_TIMING_SSDLY (n : Nat) : Field := ⟨Reg.BRG_TIMING n, 16, 10⟩
def BRG_DUTY_D (n : Nat) (i : Nat) : Field := ⟨Reg.BRG_DUTY n i, 0, 32⟩
def BRG_DUTYS_D (n : Nat) (i : Nat) : Field := ⟨Reg.BRG_DUTYS n i, 0, 32⟩
def BRG_PWMSTAT_POS (n : Nat) : Field := ⟨Reg.BRG_PWMSTAT n, 0, 20⟩
def BRG_PWMSTAT_LATE (n : Nat) : Field := ⟨Reg.BRG_PWMSTAT n, 20, 3⟩
def BRG_PWMSTAT_CFGERR (n : Nat) : Field := ⟨Reg.BRG_PWMSTAT n, 23, 1⟩
def BRG_PWMSTAT_HALLERR (n : Nat) : Field := ⟨Reg.BRG_PWMSTAT n, 24, 1⟩
def BRG_PWMSTAT_PERREJ (n : Nat) : Field := ⟨Reg.BRG_PWMSTAT n, 25, 1⟩
def BRG_ANG_ANG (n : Nat) : Field := ⟨Reg.BRG_ANG n, 0, 32⟩
def BRG_SIX_U (n : Nat) (i : Nat) : Field := ⟨Reg.BRG_SIX n i, 0, 2⟩
def BRG_SIX_V (n : Nat) (i : Nat) : Field := ⟨Reg.BRG_SIX n i, 2, 2⟩
def BRG_SIX_W (n : Nat) (i : Nat) : Field := ⟨Reg.BRG_SIX n i, 4, 2⟩
def BRG_CATCHCFG_TCATCH (n : Nat) : Field := ⟨Reg.BRG_CATCHCFG n, 0, 8⟩
def BRG_CATCHCFG_VSTILL (n : Nat) : Field := ⟨Reg.BRG_CATCHCFG n, 8, 8⟩
def BRG_CATCHCFG_NCATCH (n : Nat) : Field := ⟨Reg.BRG_CATCHCFG n, 16, 15⟩
def BRG_CATCHCTL_GO (n : Nat) : Field := ⟨Reg.BRG_CATCHCTL n, 0, 1⟩
def BRG_CATCHST_BUSY (n : Nat) : Field := ⟨Reg.BRG_CATCHST n, 0, 1⟩
def BRG_CATCHST_DIR (n : Nat) : Field := ⟨Reg.BRG_CATCHST n, 1, 1⟩
def BRG_CATCHST_RESULT (n : Nat) : Field := ⟨Reg.BRG_CATCHST n, 4, 4⟩
def BRG_CATCHST_CROSS (n : Nat) : Field := ⟨Reg.BRG_CATCHST n, 8, 8⟩
def BRG_CATCHSPD_SPD (n : Nat) : Field := ⟨Reg.BRG_CATCHSPD n, 0, 16⟩
def BRG_KECFG_EN (n : Nat) : Field := ⟨Reg.BRG_KECFG n, 0, 1⟩
def BRG_KECFG_TOL (n : Nat) : Field := ⟨Reg.BRG_KECFG n, 1, 3⟩
def BRG_KECFG_TIME (n : Nat) : Field := ⟨Reg.BRG_KECFG n, 8, 7⟩
def BRG_LOCKCFG_EN (n : Nat) : Field := ⟨Reg.BRG_LOCKCFG n, 0, 1⟩
def BRG_LOCKCFG_TLOCK (n : Nat) : Field := ⟨Reg.BRG_LOCKCFG n, 8, 8⟩
def BRG_LOCKCFG_ILOCK (n : Nat) : Field := ⟨Reg.BRG_LOCKCFG n, 16, 16⟩
def BRG_SUPSTAT_KE_ABNORMAL (n : Nat) : Field := ⟨Reg.BRG_SUPSTAT n, 0, 1⟩
def BRG_SUPSTAT_KELOW (n : Nat) : Field := ⟨Reg.BRG_SUPSTAT n, 1, 1⟩
def BRG_SUPSTAT_KEHIGH (n : Nat) : Field := ⟨Reg.BRG_SUPSTAT n, 2, 1⟩
def BRG_SUPSTAT_LOCKED (n : Nat) : Field := ⟨Reg.BRG_SUPSTAT n, 3, 1⟩
def BRG_CRVCFG_EN (n : Nat) : Field := ⟨Reg.BRG_CRVCFG n, 0, 1⟩
def BRG_CRVCFG_SW (n : Nat) : Field := ⟨Reg.BRG_CRVCFG n, 1, 1⟩
def BRG_CRVCFG_SET (n : Nat) : Field := ⟨Reg.BRG_CRVCFG n, 4, 4⟩
def BRG_CRVCFG_RANK (n : Nat) : Field := ⟨Reg.BRG_CRVCFG n, 8, 2⟩
def BRG_CRVON_XON (n : Nat) : Field := ⟨Reg.BRG_CRVON n, 0, 16⟩
def BRG_CRVON_XHYS (n : Nat) : Field := ⟨Reg.BRG_CRVON n, 16, 16⟩
def BRG_CRVOUT_Y (n : Nat) : Field := ⟨Reg.BRG_CRVOUT n, 0, 16⟩
def BRG_CRVOUT_ON (n : Nat) : Field := ⟨Reg.BRG_CRVOUT n, 16, 1⟩
def BRG_CRVOUTF_Y (n : Nat) : Field := ⟨Reg.BRG_CRVOUTF n, 0, 16⟩
def BRG_CRVOUTF_ON (n : Nat) : Field := ⟨Reg.BRG_CRVOUTF n, 16, 1⟩
def BRG_CRVPT_X (n : Nat) (i : Nat) : Field := ⟨Reg.BRG_CRVPT n i, 0, 16⟩
def BRG_CRVPT_Y (n : Nat) (i : Nat) : Field := ⟨Reg.BRG_CRVPT n i, 16, 16⟩
def ADC_SET_CFG_KIND (n : Nat) : Field := ⟨Reg.ADC_SET_CFG n, 0, 2⟩
def ADC_SET_CFG_BRG (n : Nat) : Field := ⟨Reg.ADC_SET_CFG n, 4, 3⟩
def ADC_SET_CFG_POS (n : Nat) : Field := ⟨Reg.ADC_SET_CFG n, 12, 20⟩
def ADC_SET_RANK_INPUT (n : Nat) (i : Nat) : Field := ⟨Reg.ADC_SET_RANK n i, 0, 5⟩
def ADC_SET_RANK_ADC (n : Nat) (i : Nat) : Field := ⟨Reg.ADC_SET_RANK n i, 8, 2⟩
def ADC_SET_RANK_EN (n : Nat) (i : Nat) : Field := ⟨Reg.ADC_SET_RANK n i, 15, 1⟩
def ADC_SET_STAT_CONFL (n : Nat) : Field := ⟨Reg.ADC_SET_STAT n, 0, 8⟩
def ADC_SET_STAT_SSINV (n : Nat) : Field := ⟨Reg.ADC_SET_STAT n, 8, 8⟩
def ADC_SET_STAT_SHIFT (n : Nat) : Field := ⟨Reg.ADC_SET_STAT n, 16, 16⟩
def COG_CFG_MODE (n : Nat) : Field := ⟨Reg.COG_CFG n, 0, 3⟩
def COG_CFG_ZEN (n : Nat) : Field := ⟨Reg.COG_CFG n, 3, 1⟩
def COG_CFG_ZGATE (n : Nat) : Field := ⟨Reg.COG_CFG n, 4, 1⟩
def COG_CFG_TDIR (n : Nat) : Field := ⟨Reg.COG_CFG n, 5, 1⟩
def COG_CFG_INV (n : Nat) : Field := ⟨Reg.COG_CFG n, 6, 1⟩
def COG_CFG_INTERP (n : Nat) : Field := ⟨Reg.COG_CFG n, 7, 1⟩
def COG_CFG_AMUL (n : Nat) : Field := ⟨Reg.COG_CFG n, 8, 4⟩
def COG_CFG_SCL (n : Nat) : Field := ⟨Reg.COG_CFG n, 12, 4⟩
def COG_CFG_AVG (n : Nat) : Field := ⟨Reg.COG_CFG n, 16, 2⟩
def COG_CFG_GAPN (n : Nat) : Field := ⟨Reg.COG_CFG n, 18, 2⟩
def COG_CPR_CPR (n : Nat) : Field := ⟨Reg.COG_CPR n, 0, 24⟩
def COG_FLT_GLITCH (n : Nat) : Field := ⟨Reg.COG_FLT n, 0, 8⟩
def COG_FLT_DISAG (n : Nat) : Field := ⟨Reg.COG_FLT n, 8, 8⟩
def COG_FLT_STILLT (n : Nat) : Field := ⟨Reg.COG_FLT n, 16, 10⟩
def COG_WIN_WIN (n : Nat) : Field := ⟨Reg.COG_WIN n, 0, 10⟩
def COG_LIMLO_LIM (n : Nat) : Field := ⟨Reg.COG_LIMLO n, 0, 32⟩
def COG_LIMHI_LIM (n : Nat) : Field := ⟨Reg.COG_LIMHI n, 0, 32⟩
def COG_REF_VAL (n : Nat) : Field := ⟨Reg.COG_REF n, 0, 32⟩
def COG_CTL_REFARM (n : Nat) : Field := ⟨Reg.COG_CTL n, 0, 1⟩
def COG_STAT_STILL (n : Nat) : Field := ⟨Reg.COG_STAT n, 0, 1⟩
def COG_STAT_UNSETTLED (n : Nat) : Field := ⟨Reg.COG_STAT n, 1, 1⟩
def COG_STAT_REVERSAL (n : Nat) : Field := ⟨Reg.COG_STAT n, 2, 1⟩
def COG_STAT_DIR (n : Nat) : Field := ⟨Reg.COG_STAT n, 3, 1⟩
def COG_STAT_WIRE (n : Nat) : Field := ⟨Reg.COG_STAT n, 4, 3⟩
def COG_STAT_WIRELOG (n : Nat) : Field := ⟨Reg.COG_STAT n, 8, 3⟩
def COG_STAT_ILLEGAL (n : Nat) : Field := ⟨Reg.COG_STAT n, 11, 1⟩
def COG_STAT_LIMIT_HELD (n : Nat) : Field := ⟨Reg.COG_STAT n, 12, 1⟩
def COG_STAT_REFD (n : Nat) : Field := ⟨Reg.COG_STAT n, 13, 1⟩
def COG_STAT_REFMIS (n : Nat) : Field := ⟨Reg.COG_STAT n, 14, 1⟩
def COG_STAT_CFGERR (n : Nat) : Field := ⟨Reg.COG_STAT n, 15, 1⟩
def COG_STAT_HALL (n : Nat) : Field := ⟨Reg.COG_STAT n, 16, 3⟩
def COG_STAT_ILLCNT (n : Nat) : Field := ⟨Reg.COG_STAT n, 24, 8⟩
def COG_CMP_CTL_ARM (n : Nat) (i : Nat) : Field := ⟨Reg.COG_CMP_CTL n i, 0, 1⟩
def COG_CMP_CTL_DIR (n : Nat) (i : Nat) : Field := ⟨Reg.COG_CMP_CTL n i, 1, 2⟩
def COG_CMP_CTL_TRG (n : Nat) (i : Nat) : Field := ⟨Reg.COG_CMP_CTL n i, 3, 1⟩
def COG_CMP_CTL_FIRED (n : Nat) (i : Nat) : Field := ⟨Reg.COG_CMP_CTL n i, 4, 1⟩
def COG_CMP_CTL_LATE (n : Nat) (i : Nat) : Field := ⟨Reg.COG_CMP_CTL n i, 5, 1⟩
def COG_RPT_P_SRC (n : Nat) : Field := ⟨Reg.COG_RPT_P n, 0, 3⟩
def COG_RPT_P_EN (n : Nat) : Field := ⟨Reg.COG_RPT_P n, 3, 1⟩
def COG_RPT_STAT_RFLT0 : Field := ⟨Reg.COG_RPT_STAT, 0, 3⟩
def COG_RPT_STAT_RFLT1 : Field := ⟨Reg.COG_RPT_STAT, 4, 3⟩
def KNR_CTL_EN : Field := ⟨Reg.KNR_CTL, 0, 1⟩
def KNR_CTL_LISTENONLY : Field := ⟨Reg.KNR_CTL, 1, 1⟩
def KNR_CTL_JOINING : Field := ⟨Reg.KNR_CTL, 2, 1⟩
def KNR_CTL_CHEN1 : Field := ⟨Reg.KNR_CTL, 3, 1⟩
def KNR_CTL_CHEN2 : Field := ⟨Reg.KNR_CTL, 4, 1⟩
def KNR_CTL_WAKE1 : Field := ⟨Reg.KNR_CTL, 5, 1⟩
def KNR_CTL_WAKE2 : Field := ⟨Reg.KNR_CTL, 6, 1⟩
def KNR_STAT_STATE : Field := ⟨Reg.KNR_STAT, 0, 3⟩
def KNR_STAT_KSYNC : Field := ⟨Reg.KNR_STAT, 3, 1⟩
def KNR_STAT_CFGERR : Field := ⟨Reg.KNR_STAT, 4, 1⟩
def KNR_STAT_WALIGN : Field := ⟨Reg.KNR_STAT, 5, 1⟩
def KNR_STAT_PCAUSE : Field := ⟨Reg.KNR_STAT, 6, 2⟩
def KNR_STAT_TURN : Field := ⟨Reg.KNR_STAT, 8, 6⟩
def KNR_STAT_K1LOST : Field := ⟨Reg.KNR_STAT, 16, 1⟩
def KNR_STAT_K2LOST : Field := ⟨Reg.KNR_STAT, 17, 1⟩
def KNR_STAT_WAKEBUSY : Field := ⟨Reg.KNR_STAT, 18, 1⟩
def KNR_CFG0_TL : Field := ⟨Reg.KNR_CFG0, 0, 15⟩
def KNR_CFG0_NODE : Field := ⟨Reg.KNR_CFG0, 16, 5⟩
def KNR_CFG0_SYNCN : Field := ⟨Reg.KNR_CFG0, 21, 1⟩
def KNR_CFG0_COLD : Field := ⟨Reg.KNR_CFG0, 22, 1⟩
def KNR_CFG0_RATE : Field := ⟨Reg.KNR_CFG0, 24, 2⟩
def KNR_CFG1_NB : Field := ⟨Reg.KNR_CFG1, 0, 8⟩
def KNR_CFG1_BL : Field := ⟨Reg.KNR_CFG1, 8, 8⟩
def KNR_CFG1_LOFS : Field := ⟨Reg.KNR_CFG1, 16, 4⟩
def KNR_CFG1_LMAX : Field := ⟨Reg.KNR_CFG1, 20, 7⟩
def KNR_CFG2_CGAP : Field := ⟨Reg.KNR_CFG2, 0, 8⟩
def KNR_CFG2_SSTEP : Field := ⟨Reg.KNR_CFG2, 8, 4⟩
def KNR_CFG2_LMAXS : Field := ⟨Reg.KNR_CFG2, 12, 7⟩
def KNR_CFG3_TMARK : Field := ⟨Reg.KNR_CFG3, 0, 15⟩
def KNR_CFG3_SBKT : Field := ⟨Reg.KNR_CFG3, 16, 8⟩
def KNR_CFG3_CHLOST : Field := ⟨Reg.KNR_CFG3, 24, 4⟩
def KNR_SYNCCFG_OFFLIM : Field := ⟨Reg.KNR_SYNCCFG, 0, 8⟩
def KNR_SYNCCFG_RATELIM : Field := ⟨Reg.KNR_SYNCCFG, 8, 8⟩
def KNR_SYNCCFG_HOLDMAX : Field := ⟨Reg.KNR_SYNCCFG, 16, 6⟩
def KNR_DELAY_DELAY1 : Field := ⟨Reg.KNR_DELAY, 0, 8⟩
def KNR_DELAY_DELAY2 : Field := ⟨Reg.KNR_DELAY, 8, 8⟩
def KNR_WEIR_GM : Field := ⟨Reg.KNR_WEIR, 0, 3⟩
def KNR_WEIR_WAKEOK : Field := ⟨Reg.KNR_WEIR, 3, 1⟩
def KNR_WEIR_SPMAX : Field := ⟨Reg.KNR_WEIR, 4, 4⟩
def KNR_WEIR_WSTEP : Field := ⟨Reg.KNR_WEIR, 8, 8⟩
def KNR_SPGRANT_ID (n : Nat) : Field := ⟨Reg.KNR_SPGRANT n, 0, 32⟩
def KNR_TIME_MT : Field := ⟨Reg.KNR_TIME, 0, 15⟩
def KNR_TIME_TURN : Field := ⟨Reg.KNR_TIME, 16, 6⟩
def KNR_CORR_OFF : Field := ⟨Reg.KNR_CORR, 0, 16⟩
def KNR_CORR_RATE : Field := ⟨Reg.KNR_CORR, 16, 16⟩
def KNR_WDIFF_WDIFF : Field := ⟨Reg.KNR_WDIFF, 0, 16⟩
def KNR_WDIFF_NSYNC : Field := ⟨Reg.KNR_WDIFF, 16, 4⟩
def KNR_CNT_CLIP1 : Field := ⟨Reg.KNR_CNT, 0, 8⟩
def KNR_CNT_CLIP2 : Field := ⟨Reg.KNR_CNT, 8, 8⟩
def KNR_CNT_SPREJ : Field := ⟨Reg.KNR_CNT, 16, 8⟩
def KNR_CNT_COLDCNT : Field := ⟨Reg.KNR_CNT, 24, 8⟩
def KNR_ERRCNT_REJ1 : Field := ⟨Reg.KNR_ERRCNT, 0, 8⟩
def KNR_ERRCNT_REJ2 : Field := ⟨Reg.KNR_ERRCNT, 8, 8⟩
def KNR_ERRCNT_CHDIFF : Field := ⟨Reg.KNR_ERRCNT, 16, 8⟩
def KNR_ERRCNT_SYNCLOSS : Field := ⟨Reg.KNR_ERRCNT, 24, 8⟩
def KNR_SPQ_FILL : Field := ⟨Reg.KNR_SPQ, 0, 6⟩
def KNR_SPPUSH_ID : Field := ⟨Reg.KNR_SPPUSH, 0, 8⟩
def KNR_SPPUSH_LEN : Field := ⟨Reg.KNR_SPPUSH, 8, 7⟩
def KNR_SPSTAGE_DATA (n : Nat) : Field := ⟨Reg.KNR_SPSTAGE n, 0, 32⟩
def KNR_BUF_CFG_NUM (n : Nat) : Field := ⟨Reg.KNR_BUF_CFG n, 0, 8⟩
def KNR_BUF_CFG_TX (n : Nat) : Field := ⟨Reg.KNR_BUF_CFG n, 8, 1⟩
def KNR_BUF_CFG_EN (n : Nat) : Field := ⟨Reg.KNR_BUF_CFG n, 9, 1⟩
def KNR_BUF_CFG_RX1 (n : Nat) : Field := ⟨Reg.KNR_BUF_CFG n, 10, 1⟩
def KNR_BUF_CFG_RX2 (n : Nat) : Field := ⟨Reg.KNR_BUF_CFG n, 11, 1⟩
def KNR_BUF_CFG_NCHK (n : Nat) : Field := ⟨Reg.KNR_BUF_CFG n, 12, 1⟩
def KNR_BUF_CFG_NODE (n : Nat) : Field := ⟨Reg.KNR_BUF_CFG n, 13, 5⟩
def KNR_BUF_CFG_GRP (n : Nat) : Field := ⟨Reg.KNR_BUF_CFG n, 18, 3⟩
def KNR_BUF_CFG_LEN (n : Nat) : Field := ⟨Reg.KNR_BUF_CFG n, 21, 7⟩
def KNR_BUF_CFG_VALID (n : Nat) : Field := ⟨Reg.KNR_BUF_CFG n, 28, 1⟩
def KNR_BUF_STAT_AGE (n : Nat) : Field := ⟨Reg.KNR_BUF_STAT n, 0, 6⟩
def KNR_BUF_STAT_CH (n : Nat) : Field := ⟨Reg.KNR_BUF_STAT n, 6, 1⟩
def KNR_BUF_STAT_NULLRX (n : Nat) : Field := ⟨Reg.KNR_BUF_STAT n, 7, 1⟩
def KNR_BUF_STAT_NODE (n : Nat) : Field := ⟨Reg.KNR_BUF_STAT n, 8, 5⟩
def KNR_BUF_STAT_BOTH (n : Nat) : Field := ⟨Reg.KNR_BUF_STAT n, 13, 1⟩
def KNR_BUF_STAT_JOIN (n : Nat) : Field := ⟨Reg.KNR_BUF_STAT n, 14, 1⟩
def KNR_DATA_DATA (n : Nat) (i : Nat) : Field := ⟨Reg.KNR_DATA n i, 0, 32⟩
def LEAT_CFG_EN : Field := ⟨Reg.LEAT_CFG, 0, 1⟩
def LEAT_CFG_WIN : Field := ⟨Reg.LEAT_CFG, 8, 8⟩
def LEAT_CFG_SHLIM : Field := ⟨Reg.LEAT_CFG, 16, 4⟩
def LEAT_KMAP_HBA : Field := ⟨Reg.LEAT_KMAP, 0, 8⟩
def LEAT_KMAP_HBB : Field := ⟨Reg.LEAT_KMAP, 8, 8⟩
def LEAT_KMAP_HBC : Field := ⟨Reg.LEAT_KMAP, 16, 8⟩
def LEAT_LINK_UP0 : Field := ⟨Reg.LEAT_LINK, 0, 1⟩
def LEAT_LINK_SPARE0 : Field := ⟨Reg.LEAT_LINK, 1, 1⟩
def LEAT_LINK_UP1 : Field := ⟨Reg.LEAT_LINK, 4, 1⟩
def LEAT_LINK_SPARE1 : Field := ⟨Reg.LEAT_LINK, 5, 1⟩
def LEAT_LINK_CONN : Field := ⟨Reg.LEAT_LINK, 8, 3⟩
def LEAT_LINK_ISOL : Field := ⟨Reg.LEAT_LINK, 11, 1⟩
def LEAT_LINK_DOWNCNT : Field := ⟨Reg.LEAT_LINK, 16, 8⟩
def LEAT_ROLE_LEAD : Field := ⟨Reg.LEAT_ROLE, 0, 2⟩
def LEAT_ROLE_ELIG : Field := ⟨Reg.LEAT_ROLE, 2, 1⟩
def LEAT_ROLE_FOUNDER : Field := ⟨Reg.LEAT_ROLE, 3, 1⟩
def LEAT_ROLE_DRIVING : Field := ⟨Reg.LEAT_ROLE, 4, 3⟩
def LEAT_ROLE_CLEAN : Field := ⟨Reg.LEAT_ROLE, 16, 16⟩
def LEAT_JOIN_STAGE : Field := ⟨Reg.LEAT_JOIN, 0, 3⟩
def LEAT_JOIN_CNT : Field := ⟨Reg.LEAT_JOIN, 8, 7⟩
def LEAT_TURNNO_TURNNO : Field := ⟨Reg.LEAT_TURNNO, 0, 32⟩
def LEAT_TXADDR_ADDR : Field := ⟨Reg.LEAT_TXADDR, 2, 30⟩
def LEAT_TXCTL_READY : Field := ⟨Reg.LEAT_TXCTL, 0, 1⟩
def LEAT_TXCTL_BUSY : Field := ⟨Reg.LEAT_TXCTL, 1, 1⟩
def LEAT_TXCTL_SENT : Field := ⟨Reg.LEAT_TXCTL, 2, 1⟩
def LEAT_TXCTL_NOTREADY : Field := ⟨Reg.LEAT_TXCTL, 3, 1⟩
def LEAT_TXCTL_TOOLONG : Field := ⟨Reg.LEAT_TXCTL, 4, 1⟩
def LEAT_TXCTL_MISS : Field := ⟨Reg.LEAT_TXCTL, 8, 2⟩
def LEAT_RXADDR_ADDR (n : Nat) : Field := ⟨Reg.LEAT_RXADDR n, 2, 30⟩
def LEAT_RXSTAT_CUR : Field := ⟨Reg.LEAT_RXSTAT, 0, 1⟩
def LEAT_RXSTAT_FRESH : Field := ⟨Reg.LEAT_RXSTAT, 1, 1⟩
def LEAT_RXSTAT_HELD : Field := ⟨Reg.LEAT_RXSTAT, 2, 1⟩
def LEAT_RXSTAT_PREV : Field := ⟨Reg.LEAT_RXSTAT, 3, 1⟩
def LEAT_RXSTAT_MISS : Field := ⟨Reg.LEAT_RXSTAT, 8, 8⟩
def LEAT_RXSTAT_CRCERR : Field := ⟨Reg.LEAT_RXSTAT, 16, 8⟩
def LEAT_SHADDR_ADDR : Field := ⟨Reg.LEAT_SHADDR, 2, 30⟩
def LEAT_SHCTL_GO : Field := ⟨Reg.LEAT_SHCTL, 0, 1⟩
def LEAT_SHSTAT_BUSY : Field := ⟨Reg.LEAT_SHSTAT, 0, 1⟩
def LEAT_SHSTAT_RESULT : Field := ⟨Reg.LEAT_SHSTAT, 1, 2⟩
def LEAT_SHSTAT_CONS : Field := ⟨Reg.LEAT_SHSTAT, 8, 8⟩
def LEAT_SHSTAT_FIRST : Field := ⟨Reg.LEAT_SHSTAT, 16, 12⟩
def LEAT_SHARE_SHARE (n : Nat) : Field := ⟨Reg.LEAT_SHARE n, 0, 32⟩
def LEAT_SHORT_NSH0 : Field := ⟨Reg.LEAT_SHORT, 0, 2⟩
def LEAT_SHORT_NSH1 : Field := ⟨Reg.LEAT_SHORT, 2, 2⟩
def LEAT_SHORT_NSH2 : Field := ⟨Reg.LEAT_SHORT, 4, 2⟩
def LEAT_SHORT_NSH3 : Field := ⟨Reg.LEAT_SHORT, 6, 2⟩
def LEAT_SHORT_NSH4 : Field := ⟨Reg.LEAT_SHORT, 8, 2⟩
def LEAT_PEER_ROLE (n : Nat) : Field := ⟨Reg.LEAT_PEER n, 0, 2⟩
def LEAT_PEER_LOST (n : Nat) : Field := ⟨Reg.LEAT_PEER n, 2, 1⟩
def LEAT_PEER_HOW (n : Nat) : Field := ⟨Reg.LEAT_PEER n, 3, 2⟩
def LEAT_PEER_SHORTED (n : Nat) : Field := ⟨Reg.LEAT_PEER n, 5, 5⟩
def LEAT_PEER_STAGE (n : Nat) : Field := ⟨Reg.LEAT_PEER n, 10, 3⟩
def LEAT_RESIGN_KIND : Field := ⟨Reg.LEAT_RESIGN, 0, 2⟩
def LEAT_RESIGN_KEY : Field := ⟨Reg.LEAT_RESIGN, 16, 16⟩
def LEAT_RRACK_KEY : Field := ⟨Reg.LEAT_RRACK, 16, 16⟩
def LEAT_CNT_HANDOVER : Field := ⟨Reg.LEAT_CNT, 0, 8⟩
def LEAT_CNT_RELAYED : Field := ⟨Reg.LEAT_CNT, 8, 8⟩
def LEAT_CNT_MISVERD : Field := ⟨Reg.LEAT_CNT, 16, 8⟩
def LEAT_CNT_IMPLICIT : Field := ⟨Reg.LEAT_CNT, 24, 8⟩
def SAFE_CFG_USE : Field := ⟨Reg.SAFE_CFG, 0, 4⟩
def SAFE_CFG_PARK : Field := ⟨Reg.SAFE_CFG, 4, 4⟩
def SAFE_CFG_DISC : Field := ⟨Reg.SAFE_CFG, 8, 6⟩
def SAFE_CFG_FILT : Field := ⟨Reg.SAFE_CFG, 16, 6⟩
def SAFE_CFG_OUTUSE : Field := ⟨Reg.SAFE_CFG, 24, 2⟩
def SAFE_CFG_FOLLOW : Field := ⟨Reg.SAFE_CFG, 26, 2⟩
def SAFE_STAT_STATE : Field := ⟨Reg.SAFE_STAT, 0, 8⟩
def SAFE_STAT_LATCH : Field := ⟨Reg.SAFE_STAT, 8, 4⟩
def SAFE_STAT_DISCF : Field := ⟨Reg.SAFE_STAT, 12, 4⟩
def SAFE_STAT_STOPDEM : Field := ⟨Reg.SAFE_STAT, 16, 1⟩
def SAFE_STAT_OK : Field := ⟨Reg.SAFE_STAT, 17, 1⟩
def SAFE_STAT_PARKED : Field := ⟨Reg.SAFE_STAT, 18, 1⟩
def SAFE_STAT_ACK_STUCK : Field := ⟨Reg.SAFE_STAT, 19, 1⟩
def SAFE_STAT_OUT : Field := ⟨Reg.SAFE_STAT, 20, 2⟩
def SAFE_STAT_RBF : Field := ⟨Reg.SAFE_STAT, 22, 2⟩
def SAFE_STAT_ACKCNT : Field := ⟨Reg.SAFE_STAT, 24, 8⟩
def SAFE_OUT_RUN : Field := ⟨Reg.SAFE_OUT, 0, 2⟩
def SAFE_LINE_SIN : Field := ⟨Reg.SAFE_LINE, 0, 8⟩
def SAFE_LINE_SACK : Field := ⟨Reg.SAFE_LINE, 8, 1⟩
def SAFE_LINE_SOUT : Field := ⟨Reg.SAFE_LINE, 9, 4⟩
def SAFE_CNT_DEMCNT : Field := ⟨Reg.SAFE_CNT, 0, 8⟩
def SAFE_CNT_DISCCNT : Field := ⟨Reg.SAFE_CNT, 8, 8⟩
def SAFE_CNT_REJACK : Field := ⟨Reg.SAFE_CNT, 16, 8⟩
def RACE_CTL_EN : Field := ⟨Reg.RACE_CTL, 0, 1⟩
def RACE_CTL_MUL : Field := ⟨Reg.RACE_CTL, 8, 6⟩
def RACE_STAT_UP : Field := ⟨Reg.RACE_STAT, 0, 1⟩
def RACE_STAT_STALL : Field := ⟨Reg.RACE_STAT, 1, 1⟩
def RACE_STAT_CRAVAIL : Field := ⟨Reg.RACE_STAT, 2, 4⟩
def RACE_STAT_RXFREE : Field := ⟨Reg.RACE_STAT, 6, 4⟩
def RACE_STAT_HOLD : Field := ⟨Reg.RACE_STAT, 10, 1⟩
def RACE_STAT_DBFULL : Field := ⟨Reg.RACE_STAT, 11, 1⟩
def RACE_STAT_DBOBUSY : Field := ⟨Reg.RACE_STAT, 12, 1⟩
def RACE_STAT_LASTSEQ : Field := ⟨Reg.RACE_STAT, 16, 16⟩
def RACE_CNT_RXERR : Field := ⟨Reg.RACE_CNT, 0, 8⟩
def RACE_CNT_RXREJ : Field := ⟨Reg.RACE_CNT, 8, 8⟩
def RACE_CNT_TRDROP : Field := ⟨Reg.RACE_CNT, 16, 16⟩
def RACE_DBCTL_INLEN : Field := ⟨Reg.RACE_DBCTL, 0, 5⟩
def RACE_DBCTL_DBACK : Field := ⟨Reg.RACE_DBCTL, 8, 1⟩
def RACE_DBCTL_DBSEND : Field := ⟨Reg.RACE_DBCTL, 16, 5⟩
def RACE_TRPUSH_LEN : Field := ⟨Reg.RACE_TRPUSH, 0, 5⟩
def RACE_TRPUSH_TAG : Field := ⟨Reg.RACE_TRPUSH, 8, 4⟩
def RACE_TRPUSH_FILL : Field := ⟨Reg.RACE_TRPUSH, 16, 7⟩
def CAN_CTL_EN (n : Nat) : Field := ⟨Reg.CAN_CTL n, 0, 1⟩
def CAN_CTL_FDE (n : Nat) : Field := ⟨Reg.CAN_CTL n, 1, 1⟩
def CAN_CTL_LISTEN (n : Nat) : Field := ⟨Reg.CAN_CTL n, 2, 1⟩
def CAN_CTL_LOOP (n : Nat) : Field := ⟨Reg.CAN_CTL n, 3, 1⟩
def CAN_CTL_ACCALL (n : Nat) : Field := ⟨Reg.CAN_CTL n, 4, 1⟩
def CAN_CTL_RECOVER (n : Nat) : Field := ⟨Reg.CAN_CTL n, 5, 1⟩
def CAN_CTL_TXABORT (n : Nat) : Field := ⟨Reg.CAN_CTL n, 6, 1⟩
def CAN_NBT_BRP (n : Nat) : Field := ⟨Reg.CAN_NBT n, 0, 5⟩
def CAN_NBT_TSEG1 (n : Nat) : Field := ⟨Reg.CAN_NBT n, 5, 8⟩
def CAN_NBT_TSEG2 (n : Nat) : Field := ⟨Reg.CAN_NBT n, 13, 7⟩
def CAN_NBT_SJW (n : Nat) : Field := ⟨Reg.CAN_NBT n, 20, 7⟩
def CAN_NBT_TDC (n : Nat) : Field := ⟨Reg.CAN_NBT n, 27, 1⟩
def CAN_NBT_TDCO (n : Nat) : Field := ⟨Reg.CAN_NBT n, 28, 4⟩
def CAN_DBT_BRP (n : Nat) : Field := ⟨Reg.CAN_DBT n, 0, 5⟩
def CAN_DBT_TSEG1 (n : Nat) : Field := ⟨Reg.CAN_DBT n, 5, 8⟩
def CAN_DBT_TSEG2 (n : Nat) : Field := ⟨Reg.CAN_DBT n, 13, 7⟩
def CAN_DBT_SJW (n : Nat) : Field := ⟨Reg.CAN_DBT n, 20, 7⟩
def CAN_DBT_TDC (n : Nat) : Field := ⟨Reg.CAN_DBT n, 27, 1⟩
def CAN_DBT_TDCO (n : Nat) : Field := ⟨Reg.CAN_DBT n, 28, 4⟩
def CAN_STAT_STATE (n : Nat) : Field := ⟨Reg.CAN_STAT n, 0, 2⟩
def CAN_STAT_CFGERR (n : Nat) : Field := ⟨Reg.CAN_STAT n, 2, 1⟩
def CAN_STAT_TEC (n : Nat) : Field := ⟨Reg.CAN_STAT n, 8, 8⟩
def CAN_STAT_REC (n : Nat) : Field := ⟨Reg.CAN_STAT n, 16, 8⟩
def CAN_CNT_RXLOST (n : Nat) : Field := ⟨Reg.CAN_CNT n, 0, 8⟩
def CAN_CNT_TXREJ (n : Nat) : Field := ⟨Reg.CAN_CNT n, 8, 8⟩
def CAN_CNT_RXFILL (n : Nat) : Field := ⟨Reg.CAN_CNT n, 16, 7⟩
def CAN_CNT_TXFILL (n : Nat) : Field := ⟨Reg.CAN_CNT n, 24, 5⟩
def HLTH_WORD_MODE : Field := ⟨Reg.HLTH_WORD, 0, 4⟩
def HLTH_WORD_ROLE : Field := ⟨Reg.HLTH_WORD, 4, 2⟩
def HLTH_WORD_STOPPING : Field := ⟨Reg.HLTH_WORD, 6, 1⟩
def HLTH_WORD_JOINING : Field := ⟨Reg.HLTH_WORD, 7, 1⟩
def HLTH_WORD_WEAR : Field := ⟨Reg.HLTH_WORD, 8, 2⟩
def HLTH_WORD_SPARELOW : Field := ⟨Reg.HLTH_WORD, 10, 1⟩
def HLTH_WORD_FAULT : Field := ⟨Reg.HLTH_WORD, 11, 1⟩
def HLTH_WORD_BOW : Field := ⟨Reg.HLTH_WORD, 12, 1⟩
def HLTH_WORD_OVRN : Field := ⟨Reg.HLTH_WORD, 13, 1⟩
def HLTH_WORD_OSC : Field := ⟨Reg.HLTH_WORD, 14, 1⟩
def HLTH_WORD_USER : Field := ⟨Reg.HLTH_WORD, 15, 1⟩
def HLTH_CFG_BUF : Field := ⟨Reg.HLTH_CFG, 0, 6⟩
def HLTH_CFG_EN : Field := ⟨Reg.HLTH_CFG, 7, 1⟩
def HLTH_CFG_BADBUF : Field := ⟨Reg.HLTH_CFG, 8, 1⟩
def HLTH_SET_OSC : Field := ⟨Reg.HLTH_SET, 0, 1⟩
def HLTH_SET_USER : Field := ⟨Reg.HLTH_SET, 1, 1⟩
def HLTH_HOURS_HOURS : Field := ⟨Reg.HLTH_HOURS, 0, 32⟩
def PLB_CFG_EN : Field := ⟨Reg.PLB_CFG, 0, 1⟩
def PLB_CFG_AUTOPRIME : Field := ⟨Reg.PLB_CFG, 1, 1⟩
def PLB_CFG_PERIOD : Field := ⟨Reg.PLB_CFG, 8, 8⟩
def PLB_CFG_WARN : Field := ⟨Reg.PLB_CFG, 16, 12⟩
def PLB_STAT_BASE : Field := ⟨Reg.PLB_STAT, 0, 1⟩
def PLB_STAT_BUSY : Field := ⟨Reg.PLB_STAT, 1, 1⟩
def PLB_STAT_BRES : Field := ⟨Reg.PLB_STAT, 2, 3⟩
def PLB_STAT_WORST : Field := ⟨Reg.PLB_STAT, 8, 4⟩
def PLB_STAT_SLOWMAX : Field := ⟨Reg.PLB_STAT, 16, 16⟩
def PLB_TEMP_TJ : Field := ⟨Reg.PLB_TEMP, 0, 10⟩
def PLB_BASECTL_KEY : Field := ⟨Reg.PLB_BASECTL, 16, 16⟩
def PLB_SPARE_RESIDX : Field := ⟨Reg.PLB_SPARE, 0, 3⟩
def PLB_SPARE_RETIDX : Field := ⟨Reg.PLB_SPARE, 4, 3⟩
def PLB_SPARE_PEND : Field := ⟨Reg.PLB_SPARE, 8, 1⟩
def PLB_SPARE_TPASS : Field := ⟨Reg.PLB_SPARE, 9, 1⟩
def PLB_SPARE_TFAIL : Field := ⟨Reg.PLB_SPARE, 10, 1⟩
def PLB_SPARE_RESBAD : Field := ⟨Reg.PLB_SPARE, 11, 1⟩
def PLB_SPARE_MRAMUSED : Field := ⟨Reg.PLB_SPARE, 16, 8⟩
def PLB_PRIME_OP : Field := ⟨Reg.PLB_PRIME, 0, 2⟩
def PLB_PRIME_KEY : Field := ⟨Reg.PLB_PRIME, 16, 16⟩
def PLB_SITE_SLOW (n : Nat) : Field := ⟨Reg.PLB_SITE n, 0, 16⟩
def PLB_SITE_REQW (n : Nat) : Field := ⟨Reg.PLB_SITE n, 16, 5⟩
def PLB_SITE_STATE (n : Nat) : Field := ⟨Reg.PLB_SITE n, 24, 2⟩
def PLB_ROWS_USED (n : Nat) : Field := ⟨Reg.PLB_ROWS n, 0, 7⟩
def PLB_ROWS_SPARES (n : Nat) : Field := ⟨Reg.PLB_ROWS n, 8, 7⟩
def PLB_ROWS_CORR (n : Nat) : Field := ⟨Reg.PLB_ROWS n, 16, 8⟩
def BRG_CATCHANG_ANG (n : Nat) : Field := ⟨Reg.BRG_CATCHANG n, 0, 32⟩
def BRG_CATCHT_T (n : Nat) : Field := ⟨Reg.BRG_CATCHT n, 0, 32⟩
def BRG_KENOM_KE (n : Nat) : Field := ⟨Reg.BRG_KENOM n, 0, 32⟩
def BRG_KEEST_KE (n : Nat) : Field := ⟨Reg.BRG_KEEST n, 0, 32⟩
def BRG_CRVIN_X (n : Nat) : Field := ⟨Reg.BRG_CRVIN n, 0, 16⟩
def ADC_SET_RES_RES (n : Nat) (i : Nat) : Field := ⟨Reg.ADC_SET_RES n i, 0, 32⟩
def COG_POS_VALUE (n : Nat) : Field := ⟨Reg.COG_POS n, 0, 32⟩
def COG_ANG_VALUE (n : Nat) : Field := ⟨Reg.COG_ANG n, 0, 32⟩
def COG_SPD_VALUE (n : Nat) : Field := ⟨Reg.COG_SPD n, 0, 32⟩
def COG_TEDGE_VALUE (n : Nat) : Field := ⟨Reg.COG_TEDGE n, 0, 32⟩
def COG_TIV_VALUE (n : Nat) : Field := ⟨Reg.COG_TIV n, 0, 32⟩
def COG_POSF_VALUE (n : Nat) : Field := ⟨Reg.COG_POSF n, 0, 32⟩
def COG_ANGF_VALUE (n : Nat) : Field := ⟨Reg.COG_ANGF n, 0, 32⟩
def COG_SPDF_VALUE (n : Nat) : Field := ⟨Reg.COG_SPDF n, 0, 32⟩
def COG_CMP_VAL_VALUE (n : Nat) (i : Nat) : Field := ⟨Reg.COG_CMP_VAL n i, 0, 32⟩
def COG_CMP_T_VALUE (n : Nat) (i : Nat) : Field := ⟨Reg.COG_CMP_T n i, 0, 32⟩
def COG_STATF_STILL (n : Nat) : Field := ⟨Reg.COG_STATF n, 0, 1⟩
def COG_STATF_UNSETTLED (n : Nat) : Field := ⟨Reg.COG_STATF n, 1, 1⟩
def COG_STATF_REVERSAL (n : Nat) : Field := ⟨Reg.COG_STATF n, 2, 1⟩
def COG_STATF_DIR (n : Nat) : Field := ⟨Reg.COG_STATF n, 3, 1⟩
def COG_STATF_WIRE (n : Nat) : Field := ⟨Reg.COG_STATF n, 4, 3⟩
def COG_STATF_WIRELOG (n : Nat) : Field := ⟨Reg.COG_STATF n, 8, 3⟩
def COG_STATF_ILLEGAL (n : Nat) : Field := ⟨Reg.COG_STATF n, 11, 1⟩
def COG_STATF_LIMIT_HELD (n : Nat) : Field := ⟨Reg.COG_STATF n, 12, 1⟩
def COG_STATF_REFD (n : Nat) : Field := ⟨Reg.COG_STATF n, 13, 1⟩
def COG_STATF_REFMIS (n : Nat) : Field := ⟨Reg.COG_STATF n, 14, 1⟩
def COG_STATF_CFGERR (n : Nat) : Field := ⟨Reg.COG_STATF n, 15, 1⟩
def COG_STATF_HALL (n : Nat) : Field := ⟨Reg.COG_STATF n, 16, 3⟩
def COG_STATF_ILLCNT (n : Nat) : Field := ⟨Reg.COG_STATF n, 24, 8⟩
def RACE_DBIN_VALUE (n : Nat) : Field := ⟨Reg.RACE_DBIN n, 0, 32⟩
def RACE_DBOUT_VALUE (n : Nat) : Field := ⟨Reg.RACE_DBOUT n, 0, 32⟩
def RACE_TRSTAGE_VALUE (n : Nat) : Field := ⟨Reg.RACE_TRSTAGE n, 0, 32⟩
def CAN_FLT_ID_ID (n : Nat) (i : Nat) : Field := ⟨Reg.CAN_FLT_ID n i, 0, 29⟩
def CAN_FLT_ID_XTD (n : Nat) (i : Nat) : Field := ⟨Reg.CAN_FLT_ID n i, 29, 1⟩
def CAN_FLT_ID_EN (n : Nat) (i : Nat) : Field := ⟨Reg.CAN_FLT_ID n i, 31, 1⟩
def CAN_FLT_MASK_MASK (n : Nat) (i : Nat) : Field := ⟨Reg.CAN_FLT_MASK n i, 0, 29⟩
def CAN_TXS_VALUE (n : Nat) (i : Nat) : Field := ⟨Reg.CAN_TXS n i, 0, 32⟩
def CAN_TXPUSH_PUSH (n : Nat) : Field := ⟨Reg.CAN_TXPUSH n, 0, 1⟩
def CAN_RXE_VALUE (n : Nat) (i : Nat) : Field := ⟨Reg.CAN_RXE n i, 0, 32⟩
def CAN_RXPOP_POP (n : Nat) : Field := ⟨Reg.CAN_RXPOP n, 0, 1⟩

end Fld

/-- The SYS registers. -/
def sysKinds : List Kind := [
  ⟨0x40000018, [], 0x0#32, [⟨0, 2, .rw⟩, ⟨4, 1, .ro⟩, ⟨5, 1, .ro⟩, ⟨6, 1, .ro⟩, ⟨7, 1, .ro⟩, ⟨8, 2, .ro⟩]⟩,
  ⟨0x40000010, [], 0x100#32, [⟨0, 4, .ro⟩, ⟨4, 4, .ro⟩, ⟨8, 8, .ro⟩, ⟨16, 2, .ro⟩, ⟨18, 1, .ro⟩, ⟨19, 1, .ro⟩, ⟨20, 1, .ro⟩, ⟨21, 3, .ro⟩, ⟨24, 3, .ro⟩]⟩,
  ⟨0x40000014, [], 0x0#32, [⟨0, 4, .wo⟩, ⟨16, 16, .wo⟩]⟩,
  ⟨0x40000000, [], 0x12960130#32, [⟨0, 2, .ro⟩, ⟨4, 4, .ro⟩, ⟨8, 8, .ro⟩, ⟨16, 16, .ro⟩]⟩,
  ⟨0x4000001c, [], 0x0#32, [⟨16, 16, .wo⟩]⟩,
  ⟨0x40000028, [], 0x0#32, [⟨0, 16, .wb⟩, ⟨31, 1, .wb⟩]⟩,
  ⟨0x4000002c, [], 0x0#32, [⟨0, 16, .wo⟩]⟩,
  ⟨0x40000030, [(4, 0x4)], 0x0#32, [⟨0, 4, .wb⟩, ⟨4, 4, .wb⟩, ⟨8, 4, .wb⟩, ⟨12, 4, .wb⟩, ⟨16, 4, .wb⟩, ⟨20, 4, .wb⟩, ⟨24, 4, .wb⟩, ⟨28, 4, .wb⟩]⟩,
  ⟨0x40000040, [(16, 0x4)], 0x0#32, [⟨0, 1, .wb⟩, ⟨1, 2, .wb⟩, ⟨8, 8, .ro⟩]⟩,
  ⟨0x40000020, [], 0x0#32, [⟨0, 16, .wo⟩]⟩,
  ⟨0x40000024, [], 0x0#32, [⟨0, 16, .ro⟩, ⟨16, 8, .ro⟩]⟩]
/-- The PWR registers. -/
def pwrKinds : List Kind := [
  ⟨0x40010000, [], 0x20#32, [⟨0, 7, .wb⟩, ⟨7, 1, .wb⟩, ⟨8, 5, .ro⟩, ⟨16, 1, .ro⟩]⟩,
  ⟨0x40010004, [], 0x14#32, [⟨0, 6, .rw⟩]⟩,
  ⟨0x40010008, [], 0x14001414#32, [⟨0, 6, .ro⟩, ⟨8, 6, .ro⟩, ⟨16, 1, .ro⟩, ⟨24, 6, .ro⟩]⟩,
  ⟨0x4001000c, [], 0x0#32, [⟨0, 16, .ro⟩, ⟨16, 16, .ro⟩]⟩,
  ⟨0x40010010, [], 0x0#32, [⟨0, 1, .w1c⟩, ⟨1, 1, .w1c⟩, ⟨2, 1, .w1c⟩, ⟨3, 1, .w1c⟩, ⟨4, 1, .ro⟩, ⟨8, 8, .ro⟩]⟩,
  ⟨0x40010014, [], 0x3200#32, [⟨0, 6, .wb⟩, ⟨8, 6, .wb⟩, ⟨16, 5, .ro⟩, ⟨21, 1, .ro⟩, ⟨24, 6, .ro⟩, ⟨31, 1, .rw⟩]⟩,
  ⟨0x40010018, [], 0x0#32, [⟨0, 1, .ro⟩, ⟨1, 1, .ro⟩, ⟨2, 1, .w1c⟩, ⟨3, 1, .w1c⟩, ⟨4, 1, .ro⟩, ⟨8, 8, .ro⟩, ⟨16, 8, .ro⟩]⟩]
/-- The CIS registers. -/
def cisKinds : List Kind := [
  ⟨0x40020000, [(4, 0x10)], 0x0#32, [⟨0, 3, .ro⟩, ⟨3, 1, .ro⟩, ⟨4, 3, .ro⟩, ⟨7, 1, .ro⟩]⟩,
  ⟨0x40020004, [(4, 0x10)], 0x0#32, [⟨0, 32, .ro⟩]⟩,
  ⟨0x40020040, [], 0x0#32, [⟨0, 2, .ro⟩, ⟨2, 1, .ro⟩, ⟨3, 1, .ro⟩, ⟨4, 1, .ro⟩, ⟨5, 1, .ro⟩, ⟨8, 8, .ro⟩]⟩,
  ⟨0x40020044, [], 0x0#32, [⟨0, 16, .ro⟩, ⟨16, 1, .ro⟩]⟩,
  ⟨0x40020048, [], 0x0#32, [⟨0, 4, .wo⟩, ⟨4, 2, .wo⟩, ⟨16, 16, .wo⟩]⟩,
  ⟨0x4002004c, [], 0x0#32, [⟨16, 16, .wo⟩]⟩,
  ⟨0x40020050, [], 0x0#32, [⟨0, 1, .ro⟩, ⟨1, 1, .w1c⟩, ⟨2, 1, .w1c⟩, ⟨3, 1, .ro⟩, ⟨4, 4, .ro⟩]⟩,
  ⟨0x40020054, [], 0x0#32, [⟨2, 22, .rw⟩]⟩,
  ⟨0x40020058, [], 0x0#32, [⟨0, 32, .rw⟩]⟩,
  ⟨0x4002005c, [], 0x0#32, [⟨0, 16, .rw⟩]⟩,
  ⟨0x40020060, [(8, 0x4)], 0x0#32, [⟨0, 32, .rw⟩]⟩,
  ⟨0x40020080, [], 0x0#32, [⟨0, 3, .ro⟩, ⟨4, 3, .ro⟩]⟩]
/-- The PROT registers. -/
def protKinds : List Kind := [
  ⟨0x40030000, [(16, 0x10)], 0x0#32, [⟨12, 20, .wb⟩]⟩,
  ⟨0x40030004, [(16, 0x10)], 0x0#32, [⟨12, 20, .wb⟩]⟩,
  ⟨0x40030008, [(16, 0x10)], 0x0#32, [⟨0, 1, .wb⟩, ⟨1, 1, .wb⟩, ⟨2, 1, .wb⟩, ⟨3, 1, .wb⟩, ⟨8, 1, .wb⟩, ⟨9, 1, .wb⟩, ⟨10, 1, .wb⟩, ⟨31, 1, .wb⟩]⟩,
  ⟨0x40030100, [], 0x0#32, [⟨0, 4, .wb⟩, ⟨4, 4, .wb⟩, ⟨8, 4, .wb⟩, ⟨12, 4, .wb⟩, ⟨16, 4, .wb⟩]⟩,
  ⟨0x40030104, [], 0xfff#32, [⟨0, 2, .wb⟩, ⟨2, 2, .wb⟩, ⟨4, 2, .wb⟩, ⟨6, 2, .wb⟩, ⟨8, 2, .wb⟩, ⟨10, 2, .wb⟩]⟩,
  ⟨0x40030120, [(8, 0x4)], 0x0#32, [⟨0, 32, .wb⟩]⟩,
  ⟨0x40030140, [(4, 0x8)], 0x0#32, [⟨12, 20, .wb⟩]⟩,
  ⟨0x40030144, [(4, 0x8)], 0x0#32, [⟨12, 19, .wb⟩, ⟨31, 1, .wb⟩]⟩,
  ⟨0x400301f0, [], 0x0#32, [⟨0, 1, .ro⟩, ⟨1, 1, .ro⟩, ⟨16, 16, .ro⟩]⟩]
/-- The CAT registers. -/
def catKinds : List Kind := [
  ⟨0x40040000, [(7, 0x4)], 0x0#32, [⟨0, 32, .ro⟩]⟩,
  ⟨0x40040020, [], 0x0#32, [⟨0, 8, .wo⟩, ⟨8, 4, .wo⟩]⟩,
  ⟨0x40040100, [(4, 0x40), (7, 0x4)], 0x0#32, [⟨0, 32, .rw⟩]⟩,
  ⟨0x40040120, [(4, 0x40)], 0x0#32, [⟨0, 7, .ro⟩]⟩,
  ⟨0x40040400, [(224, 0x4)], 0x0#32, [⟨0, 4, .ro⟩, ⟨4, 1, .w1c⟩, ⟨5, 1, .ro⟩, ⟨6, 1, .ro⟩]⟩]
/-- The WHD registers. -/
def whdKinds : List Kind := [
  ⟨0x40050040, [], 0x0#32, [⟨0, 2, .rw⟩, ⟨2, 2, .rw⟩, ⟨4, 1, .rw⟩, ⟨5, 1, .rw⟩, ⟨6, 1, .rw⟩]⟩,
  ⟨0x40050044, [], 0x0#32, [⟨0, 24, .rw⟩]⟩,
  ⟨0x40050048, [], 0x0#32, [⟨0, 4, .ro⟩, ⟨4, 4, .ro⟩, ⟨8, 1, .ro⟩, ⟨16, 16, .ro⟩]⟩,
  ⟨0x400500fc, [], 0x0#32, [⟨0, 1, .ro⟩]⟩,
  ⟨0x40050080, [(16, 0x4)], 0x0#32, [⟨0, 5, .rw⟩, ⟨5, 2, .rw⟩, ⟨8, 1, .ro⟩, ⟨9, 1, .ro⟩, ⟨10, 1, .ro⟩, ⟨12, 4, .ro⟩]⟩]
/-- The SLU registers. -/
def sluKinds : List Kind := [
  ⟨0x40100000, [(5, 0x10000)], 0x0#32, [⟨0, 1, .rw⟩]⟩,
  ⟨0x40100010, [(5, 0x10000), (4, 0x4)], 0x7000#32, [⟨0, 6, .rw⟩, ⟨8, 4, .rw⟩, ⟨12, 3, .rw⟩]⟩,
  ⟨0x40100020, [(5, 0x10000)], 0x0#32, [⟨0, 4, .wo⟩]⟩,
  ⟨0x40100004, [(5, 0x10000)], 0x0#32, [⟨0, 3, .ro⟩, ⟨3, 1, .ro⟩, ⟨4, 2, .ro⟩, ⟨8, 4, .ro⟩, ⟨12, 4, .ro⟩, ⟨16, 1, .w1c⟩, ⟨17, 1, .w1c⟩, ⟨24, 8, .ro⟩]⟩,
  ⟨0x40100024, [(5, 0x10000)], 0x0#32, [⟨0, 16, .ro⟩, ⟨16, 8, .ro⟩, ⟨24, 8, .ro⟩]⟩,
  ⟨0x40100028, [(5, 0x10000)], 0x3ff#32, [⟨0, 10, .rw⟩]⟩,
  ⟨0x4010002c, [(5, 0x10000)], 0x0#32, [⟨0, 16, .ro⟩, ⟨16, 16, .rw⟩]⟩,
  ⟨0x40100030, [(5, 0x10000)], 0x0#32, [⟨0, 1, .rw⟩, ⟨1, 1, .rw⟩, ⟨2, 1, .rw⟩]⟩,
  ⟨0x40100100, [(5, 0x10000), (16, 0x4)], 0x0#32, [⟨0, 32, .sh⟩]⟩,
  ⟨0x40100200, [(5, 0x10000), (16, 0x4)], 0x0#32, [⟨0, 32, .rw⟩]⟩,
  ⟨0x40100240, [(5, 0x10000), (16, 0x4)], 0x0#32, [⟨0, 32, .ro⟩]⟩]
/-- The MSP registers. -/
def mspKinds : List Kind := [
  ⟨0x40180000, [], 0x2#32, [⟨0, 1, .ro⟩, ⟨1, 1, .ro⟩, ⟨8, 6, .ro⟩, ⟨16, 1, .ro⟩]⟩,
  ⟨0x40180010, [(2, 0x4)], 0x0#32, [⟨0, 32, .ro⟩]⟩,
  ⟨0x40180018, [], 0x0#32, [⟨0, 32, .ro⟩]⟩,
  ⟨0x4018001c, [], 0x0#32, [⟨0, 32, .ro⟩]⟩,
  ⟨0x40180020, [], 0x0#32, [⟨0, 1, .ro⟩, ⟨1, 1, .ro⟩]⟩,
  ⟨0x40180024, [], 0x0#32, [⟨16, 16, .wo⟩]⟩,
  ⟨0x40180030, [], 0x0#32, [⟨16, 16, .wo⟩]⟩,
  ⟨0x40180034, [], 0x0#32, [⟨0, 1, .w1c⟩, ⟨8, 8, .ro⟩]⟩]
/-- The BRG registers, part 0. -/
def brgKinds0 : List Kind := [
  ⟨0x40200800, [(5, 0x1000)], 0xf1471e00#32, [⟨0, 1, .wb⟩, ⟨1, 1, .wb⟩, ⟨4, 3, .wb⟩, ⟨8, 8, .wb⟩, ⟨16, 4, .wb⟩, ⟨20, 8, .wb⟩, ⟨28, 4, .wb⟩]⟩,
  ⟨0x40200804, [(5, 0x1000)], 0x0#32, [⟨0, 2, .rw⟩]⟩,
  ⟨0x40200808, [(5, 0x1000)], 0x0#32, [⟨0, 3, .ro⟩, ⟨3, 1, .ro⟩, ⟨4, 3, .w1c⟩, ⟨8, 8, .ro⟩]⟩,
  ⟨0x40200840, [(5, 0x1000), (3, 0x10)], 0x3ff03ff#32, [⟨0, 10, .wb⟩, ⟨16, 10, .wb⟩]⟩,
  ⟨0x40200844, [(5, 0x1000), (3, 0x10)], 0x0#32, [⟨0, 2, .ro⟩, ⟨2, 1, .ro⟩, ⟨4, 2, .ro⟩]⟩,
  ⟨0x40200000, [(5, 0x1000)], 0x0#32, [⟨0, 1, .rw⟩]⟩,
  ⟨0x40200004, [(5, 0x1000)], 0x1720#32, [⟨0, 3, .wb⟩, ⟨3, 1, .wb⟩, ⟨4, 1, .wb⟩, ⟨5, 2, .wb⟩, ⟨8, 3, .wb⟩, ⟨12, 4, .wb⟩]⟩,
  ⟨0x40200008, [(5, 0x1000)], 0xc800#32, [⟨0, 20, .sh⟩]⟩,
  ⟨0x4020000c, [(5, 0x1000)], 0x0#32, [⟨0, 20, .wb⟩]⟩,
  ⟨0x40200010, [(5, 0x1000)], 0x2580040#32, [⟨0, 10, .wb⟩, ⟨16, 10, .wb⟩]⟩,
  ⟨0x40200020, [(5, 0x1000), (3, 0x4)], 0x0#32, [⟨0, 32, .rw⟩]⟩,
  ⟨0x40200030, [(5, 0x1000), (3, 0x4)], 0x0#32, [⟨0, 32, .sh⟩]⟩]
/-- The BRG registers, part 1. -/
def brgKinds1 : List Kind := [
  ⟨0x40200040, [(5, 0x1000)], 0x0#32, [⟨0, 20, .ro⟩, ⟨20, 3, .w1c⟩, ⟨23, 1, .ro⟩, ⟨24, 1, .w1c⟩, ⟨25, 1, .w1c⟩]⟩,
  ⟨0x40200044, [(5, 0x1000)], 0x0#32, [⟨0, 32, .rw⟩]⟩,
  ⟨0x40200060, [(5, 0x1000), (8, 0x4)], 0x0#32, [⟨0, 2, .sh⟩, ⟨2, 2, .sh⟩, ⟨4, 2, .sh⟩]⟩,
  ⟨0x40200100, [(5, 0x1000)], 0xc801413#32, [⟨0, 8, .rw⟩, ⟨8, 8, .rw⟩, ⟨16, 15, .rw⟩]⟩,
  ⟨0x40200104, [(5, 0x1000)], 0x0#32, [⟨0, 1, .wo⟩]⟩,
  ⟨0x40200108, [(5, 0x1000)], 0x0#32, [⟨0, 1, .ro⟩, ⟨1, 1, .ro⟩, ⟨4, 4, .ro⟩, ⟨8, 8, .ro⟩]⟩,
  ⟨0x40200110, [(5, 0x1000)], 0x0#32, [⟨0, 16, .ro⟩]⟩,
  ⟨0x40200180, [(5, 0x1000)], 0x906#32, [⟨0, 1, .rw⟩, ⟨1, 3, .rw⟩, ⟨8, 7, .rw⟩]⟩,
  ⟨0x4020018c, [(5, 0x1000)], 0x20003100#32, [⟨0, 1, .rw⟩, ⟨8, 8, .rw⟩, ⟨16, 16, .rw⟩]⟩,
  ⟨0x40200190, [(5, 0x1000)], 0x0#32, [⟨0, 1, .ro⟩, ⟨1, 1, .ro⟩, ⟨2, 1, .ro⟩, ⟨3, 1, .ro⟩]⟩,
  ⟨0x40200200, [(5, 0x1000)], 0x0#32, [⟨0, 1, .rw⟩, ⟨1, 1, .rw⟩, ⟨4, 4, .rw⟩, ⟨8, 2, .rw⟩]⟩,
  ⟨0x40200204, [(5, 0x1000)], 0xffff#32, [⟨0, 16, .sh⟩, ⟨16, 16, .sh⟩]⟩]
/-- The BRG registers, part 2. -/
def brgKinds2 : List Kind := [
  ⟨0x4020020c, [(5, 0x1000)], 0x0#32, [⟨0, 16, .ro⟩, ⟨16, 1, .ro⟩]⟩,
  ⟨0x40200210, [(5, 0x1000)], 0x0#32, [⟨0, 16, .ro⟩, ⟨16, 1, .ro⟩]⟩,
  ⟨0x40200240, [(5, 0x1000), (16, 0x4)], 0x0#32, [⟨0, 16, .sh⟩, ⟨16, 16, .sh⟩]⟩,
  ⟨0x4020010c, [(5, 0x1000)], 0x0#32, [⟨0, 32, .ro⟩]⟩,
  ⟨0x40200114, [(5, 0x1000)], 0x0#32, [⟨0, 32, .ro⟩]⟩,
  ⟨0x40200184, [(5, 0x1000)], 0x0#32, [⟨0, 32, .rw⟩]⟩,
  ⟨0x40200188, [(5, 0x1000)], 0x0#32, [⟨0, 32, .rw⟩]⟩,
  ⟨0x40200208, [(5, 0x1000)], 0x0#32, [⟨0, 16, .rw⟩]⟩]
/-- The BRG registers. -/
def brgKinds : List Kind := brgKinds0 ++ brgKinds1 ++ brgKinds2
/-- The DRV registers. -/
def drvKinds : List Kind := [
  ⟨0x40280000, [], 0x0#32, [⟨0, 1, .ro⟩, ⟨1, 1, .ro⟩, ⟨2, 1, .ro⟩, ⟨3, 1, .ro⟩, ⟨4, 1, .ro⟩, ⟨5, 1, .ro⟩, ⟨6, 1, .ro⟩, ⟨7, 1, .ro⟩, ⟨8, 1, .ro⟩, ⟨9, 1, .ro⟩, ⟨10, 1, .ro⟩, ⟨11, 1, .ro⟩, ⟨12, 1, .ro⟩, ⟨16, 10, .ro⟩]⟩,
  ⟨0x40280010, [], 0x9c1b4#32, [⟨0, 8, .wb⟩, ⟨8, 2, .wb⟩, ⟨12, 4, .wb⟩, ⟨16, 7, .wb⟩]⟩,
  ⟨0x40280014, [], 0x90f0300#32, [⟨0, 1, .wb⟩, ⟨8, 5, .wb⟩, ⟨16, 4, .wb⟩, ⟨24, 6, .wb⟩]⟩,
  ⟨0x40280018, [], 0x0#32, [⟨16, 16, .wo⟩]⟩,
  ⟨0x40280040, [(5, 0x4)], 0x0#32, [⟨0, 1, .ro⟩, ⟨1, 1, .ro⟩, ⟨2, 2, .ro⟩, ⟨4, 4, .ro⟩, ⟨8, 3, .ro⟩, ⟨11, 1, .ro⟩, ⟨12, 3, .ro⟩, ⟨15, 1, .ro⟩, ⟨16, 3, .ro⟩]⟩,
  ⟨0x40280060, [], 0x0#32, [⟨0, 8, .ro⟩, ⟨8, 8, .ro⟩, ⟨16, 8, .ro⟩, ⟨24, 8, .ro⟩]⟩]
/-- The COG registers, part 0. -/
def cogKinds0 : List Kind := [
  ⟨0x40300000, [(6, 0x1000)], 0xa7000#32, [⟨0, 3, .wb⟩, ⟨3, 1, .wb⟩, ⟨4, 1, .wb⟩, ⟨5, 1, .wb⟩, ⟨6, 1, .wb⟩, ⟨7, 1, .wb⟩, ⟨8, 4, .wb⟩, ⟨12, 4, .wb⟩, ⟨16, 2, .wb⟩, ⟨18, 2, .wb⟩]⟩,
  ⟨0x40300004, [(6, 0x1000)], 0x1000#32, [⟨0, 24, .wb⟩]⟩,
  ⟨0x40300008, [(6, 0x1000)], 0x310904#32, [⟨0, 8, .wb⟩, ⟨8, 8, .wb⟩, ⟨16, 10, .wb⟩]⟩,
  ⟨0x4030000c, [(6, 0x1000)], 0x64#32, [⟨0, 10, .sh⟩]⟩,
  ⟨0x40300010, [(6, 0x1000)], 0x80000000#32, [⟨0, 32, .wb⟩]⟩,
  ⟨0x40300014, [(6, 0x1000)], 0x7fffffff#32, [⟨0, 32, .wb⟩]⟩,
  ⟨0x40300018, [(6, 0x1000)], 0x0#32, [⟨0, 32, .rw⟩]⟩,
  ⟨0x4030001c, [(6, 0x1000)], 0x0#32, [⟨0, 1, .rw⟩]⟩,
  ⟨0x4030002c, [(6, 0x1000)], 0x1#32, [⟨0, 1, .ro⟩, ⟨1, 1, .ro⟩, ⟨2, 1, .ro⟩, ⟨3, 1, .ro⟩, ⟨4, 3, .ro⟩, ⟨8, 3, .w1c⟩, ⟨11, 1, .w1c⟩, ⟨12, 1, .ro⟩, ⟨13, 1, .ro⟩, ⟨14, 1, .w1c⟩, ⟨15, 1, .ro⟩, ⟨16, 3, .ro⟩, ⟨24, 8, .ro⟩]⟩,
  ⟨0x40300044, [(6, 0x1000), (2, 0x10)], 0x0#32, [⟨0, 1, .rw⟩, ⟨1, 2, .rw⟩, ⟨3, 1, .rw⟩, ⟨4, 1, .w1c⟩, ⟨5, 1, .w1c⟩]⟩,
  ⟨0x40308000, [(2, 0x4)], 0x7#32, [⟨0, 3, .rw⟩, ⟨3, 1, .rw⟩]⟩,
  ⟨0x40308010, [], 0x0#32, [⟨0, 3, .ro⟩, ⟨4, 3, .ro⟩]⟩]
/-- The COG registers, part 1. -/
def cogKinds1 : List Kind := [
  ⟨0x40300020, [(6, 0x1000)], 0x0#32, [⟨0, 32, .ro⟩]⟩,
  ⟨0x40300024, [(6, 0x1000)], 0x0#32, [⟨0, 32, .ro⟩]⟩,
  ⟨0x40300028, [(6, 0x1000)], 0x0#32, [⟨0, 32, .ro⟩]⟩,
  ⟨0x40300030, [(6, 0x1000)], 0x0#32, [⟨0, 32, .ro⟩]⟩,
  ⟨0x40300034, [(6, 0x1000)], 0x0#32, [⟨0, 32, .ro⟩]⟩,
  ⟨0x40300060, [(6, 0x1000)], 0x0#32, [⟨0, 32, .ro⟩]⟩,
  ⟨0x40300064, [(6, 0x1000)], 0x0#32, [⟨0, 32, .ro⟩]⟩,
  ⟨0x40300068, [(6, 0x1000)], 0x0#32, [⟨0, 32, .ro⟩]⟩,
  ⟨0x40300040, [(6, 0x1000), (2, 0x10)], 0x0#32, [⟨0, 32, .rw⟩]⟩,
  ⟨0x40300048, [(6, 0x1000), (2, 0x10)], 0x0#32, [⟨0, 32, .ro⟩]⟩,
  ⟨0x4030006c, [(6, 0x1000)], 0x1#32, [⟨0, 1, .ro⟩, ⟨1, 1, .ro⟩, ⟨2, 1, .ro⟩, ⟨3, 1, .ro⟩, ⟨4, 3, .ro⟩, ⟨8, 3, .ro⟩, ⟨11, 1, .ro⟩, ⟨12, 1, .ro⟩, ⟨13, 1, .ro⟩, ⟨14, 1, .ro⟩, ⟨15, 1, .ro⟩, ⟨16, 3, .ro⟩, ⟨24, 8, .ro⟩]⟩]
/-- The COG registers. -/
def cogKinds : List Kind := cogKinds0 ++ cogKinds1
/-- The ADC registers. -/
def adcKinds : List Kind := [
  ⟨0x40380000, [(16, 0x20)], 0x0#32, [⟨0, 2, .sh⟩, ⟨4, 3, .sh⟩, ⟨12, 20, .sh⟩]⟩,
  ⟨0x40380004, [(16, 0x20), (3, 0x4)], 0x0#32, [⟨0, 5, .sh⟩, ⟨8, 2, .sh⟩, ⟨15, 1, .sh⟩]⟩,
  ⟨0x4038001c, [(16, 0x20)], 0x0#32, [⟨0, 8, .ro⟩, ⟨8, 8, .ro⟩, ⟨16, 16, .ro⟩]⟩,
  ⟨0x40380010, [(16, 0x20), (3, 0x4)], 0x0#32, [⟨0, 32, .ro⟩]⟩]
/-- The KNR registers, part 0. -/
def knrKinds0 : List Kind := [
  ⟨0x40400000, [], 0x0#32, [⟨0, 1, .rw⟩, ⟨1, 1, .rw⟩, ⟨2, 1, .rw⟩, ⟨3, 1, .rw⟩, ⟨4, 1, .rw⟩, ⟨5, 1, .wo⟩, ⟨6, 1, .wo⟩]⟩,
  ⟨0x40400004, [], 0x0#32, [⟨0, 3, .ro⟩, ⟨3, 1, .ro⟩, ⟨4, 1, .ro⟩, ⟨5, 1, .ro⟩, ⟨6, 2, .ro⟩, ⟨8, 6, .ro⟩, ⟨16, 1, .ro⟩, ⟨17, 1, .ro⟩, ⟨18, 1, .ro⟩]⟩,
  ⟨0x40400008, [], 0x3e8#32, [⟨0, 15, .wb⟩, ⟨16, 5, .wb⟩, ⟨21, 1, .wb⟩, ⟨22, 1, .wb⟩, ⟨24, 2, .wb⟩]⟩,
  ⟨0x4040000c, [], 0x1021428#32, [⟨0, 8, .wb⟩, ⟨8, 8, .wb⟩, ⟨16, 4, .wb⟩, ⟨20, 7, .wb⟩]⟩,
  ⟨0x40400010, [], 0x1040a#32, [⟨0, 8, .wb⟩, ⟨8, 4, .wb⟩, ⟨12, 7, .wb⟩]⟩,
  ⟨0x40400014, [], 0x4000000#32, [⟨0, 15, .wb⟩, ⟨16, 8, .wb⟩, ⟨24, 4, .wb⟩]⟩,
  ⟨0x40400018, [], 0x104020#32, [⟨0, 8, .wb⟩, ⟨8, 8, .wb⟩, ⟨16, 6, .wb⟩]⟩,
  ⟨0x4040001c, [], 0x0#32, [⟨0, 8, .wb⟩, ⟨8, 8, .wb⟩]⟩,
  ⟨0x40400020, [], 0xf01#32, [⟨0, 3, .wb⟩, ⟨3, 1, .wb⟩, ⟨4, 4, .wb⟩, ⟨8, 8, .wb⟩]⟩,
  ⟨0x40400040, [(8, 0x4)], 0x0#32, [⟨0, 32, .wb⟩]⟩,
  ⟨0x40400080, [], 0x0#32, [⟨0, 15, .ro⟩, ⟨16, 6, .ro⟩]⟩,
  ⟨0x40400084, [], 0x0#32, [⟨0, 16, .ro⟩, ⟨16, 16, .ro⟩]⟩]
/-- The KNR registers, part 1. -/
def knrKinds1 : List Kind := [
  ⟨0x40400088, [], 0x0#32, [⟨0, 16, .ro⟩, ⟨16, 4, .ro⟩]⟩,
  ⟨0x4040008c, [], 0x0#32, [⟨0, 8, .ro⟩, ⟨8, 8, .ro⟩, ⟨16, 8, .ro⟩, ⟨24, 8, .ro⟩]⟩,
  ⟨0x40400090, [], 0x0#32, [⟨0, 8, .ro⟩, ⟨8, 8, .ro⟩, ⟨16, 8, .ro⟩, ⟨24, 8, .ro⟩]⟩,
  ⟨0x404000a0, [], 0x0#32, [⟨0, 6, .ro⟩]⟩,
  ⟨0x404000a4, [], 0x0#32, [⟨0, 8, .wo⟩, ⟨8, 7, .wo⟩]⟩,
  ⟨0x404000c0, [(16, 0x4)], 0x0#32, [⟨0, 32, .rw⟩]⟩,
  ⟨0x40401000, [(64, 0x10)], 0x0#32, [⟨0, 8, .rw⟩, ⟨8, 1, .rw⟩, ⟨9, 1, .rw⟩, ⟨10, 1, .rw⟩, ⟨11, 1, .rw⟩, ⟨12, 1, .rw⟩, ⟨13, 5, .rw⟩, ⟨18, 3, .rw⟩, ⟨21, 7, .sh⟩, ⟨28, 1, .sh⟩]⟩,
  ⟨0x40401004, [(64, 0x10)], 0x3f#32, [⟨0, 6, .ro⟩, ⟨6, 1, .ro⟩, ⟨7, 1, .ro⟩, ⟨8, 5, .ro⟩, ⟨13, 1, .ro⟩, ⟨14, 1, .ro⟩]⟩,
  ⟨0x40402000, [(64, 0x40), (16, 0x4)], 0x0#32, [⟨0, 32, .rw⟩]⟩]
/-- The KNR registers. -/
def knrKinds : List Kind := knrKinds0 ++ knrKinds1
/-- The LEAT registers, part 0. -/
def leatKinds0 : List Kind := [
  ⟨0x40480000, [], 0x29600#32, [⟨0, 1, .wb⟩, ⟨8, 8, .wb⟩, ⟨16, 4, .wb⟩]⟩,
  ⟨0x40480004, [], 0x0#32, [⟨0, 8, .wb⟩, ⟨8, 8, .wb⟩, ⟨16, 8, .wb⟩]⟩,
  ⟨0x40480008, [], 0x0#32, [⟨0, 1, .ro⟩, ⟨1, 1, .ro⟩, ⟨4, 1, .ro⟩, ⟨5, 1, .ro⟩, ⟨8, 3, .ro⟩, ⟨11, 1, .ro⟩, ⟨16, 8, .ro⟩]⟩,
  ⟨0x4048000c, [], 0x0#32, [⟨0, 2, .ro⟩, ⟨2, 1, .ro⟩, ⟨3, 1, .ro⟩, ⟨4, 3, .ro⟩, ⟨16, 16, .ro⟩]⟩,
  ⟨0x40480010, [], 0x0#32, [⟨0, 3, .ro⟩, ⟨8, 7, .ro⟩]⟩,
  ⟨0x40480014, [], 0x0#32, [⟨0, 32, .ro⟩]⟩,
  ⟨0x40480020, [], 0x0#32, [⟨2, 30, .rw⟩]⟩,
  ⟨0x40480024, [], 0x0#32, [⟨0, 1, .rw⟩, ⟨1, 1, .ro⟩, ⟨2, 1, .ro⟩, ⟨3, 1, .ro⟩, ⟨4, 1, .ro⟩, ⟨8, 2, .ro⟩]⟩,
  ⟨0x40480028, [(2, 0x4)], 0x0#32, [⟨2, 30, .wb⟩]⟩,
  ⟨0x40480030, [], 0x0#32, [⟨0, 1, .ro⟩, ⟨1, 1, .ro⟩, ⟨2, 1, .ro⟩, ⟨3, 1, .ro⟩, ⟨8, 8, .ro⟩, ⟨16, 8, .ro⟩]⟩,
  ⟨0x40480034, [], 0x0#32, [⟨2, 30, .rw⟩]⟩,
  ⟨0x40480038, [], 0x0#32, [⟨0, 1, .wo⟩]⟩]
/-- The LEAT registers, part 1. -/
def leatKinds1 : List Kind := [
  ⟨0x4048003c, [], 0x0#32, [⟨0, 1, .ro⟩, ⟨1, 2, .ro⟩, ⟨8, 8, .ro⟩, ⟨16, 12, .ro⟩]⟩,
  ⟨0x40480040, [(5, 0x4)], 0x0#32, [⟨0, 32, .ro⟩]⟩,
  ⟨0x40480054, [], 0x0#32, [⟨0, 2, .ro⟩, ⟨2, 2, .ro⟩, ⟨4, 2, .ro⟩, ⟨6, 2, .ro⟩, ⟨8, 2, .ro⟩]⟩,
  ⟨0x40480058, [(3, 0x4)], 0x0#32, [⟨0, 2, .ro⟩, ⟨2, 1, .ro⟩, ⟨3, 2, .ro⟩, ⟨5, 5, .ro⟩, ⟨10, 3, .ro⟩]⟩,
  ⟨0x40480064, [], 0x0#32, [⟨0, 2, .wo⟩, ⟨16, 16, .wo⟩]⟩,
  ⟨0x40480068, [], 0x0#32, [⟨16, 16, .wo⟩]⟩,
  ⟨0x4048006c, [], 0x0#32, [⟨0, 8, .ro⟩, ⟨8, 8, .ro⟩, ⟨16, 8, .ro⟩, ⟨24, 8, .ro⟩]⟩]
/-- The LEAT registers. -/
def leatKinds : List Kind := leatKinds0 ++ leatKinds1
/-- The SAFE registers. -/
def safeKinds : List Kind := [
  ⟨0x40500000, [], 0xc040900#32, [⟨0, 4, .wb⟩, ⟨4, 4, .wb⟩, ⟨8, 6, .wb⟩, ⟨16, 6, .wb⟩, ⟨24, 2, .wb⟩, ⟨26, 2, .wb⟩]⟩,
  ⟨0x40500004, [], 0x10000#32, [⟨0, 8, .ro⟩, ⟨8, 4, .ro⟩, ⟨12, 4, .ro⟩, ⟨16, 1, .ro⟩, ⟨17, 1, .ro⟩, ⟨18, 1, .ro⟩, ⟨19, 1, .ro⟩, ⟨20, 2, .ro⟩, ⟨22, 2, .ro⟩, ⟨24, 8, .ro⟩]⟩,
  ⟨0x40500008, [], 0x0#32, [⟨0, 2, .rw⟩]⟩,
  ⟨0x4050000c, [], 0x0#32, [⟨0, 8, .ro⟩, ⟨8, 1, .ro⟩, ⟨9, 4, .ro⟩]⟩,
  ⟨0x40500010, [], 0x0#32, [⟨0, 8, .ro⟩, ⟨8, 8, .ro⟩, ⟨16, 8, .ro⟩]⟩]
/-- The RACE registers. -/
def raceKinds : List Kind := [
  ⟨0x40580000, [], 0x800#32, [⟨0, 1, .rw⟩, ⟨8, 6, .rw⟩]⟩,
  ⟨0x40580004, [], 0x0#32, [⟨0, 1, .ro⟩, ⟨1, 1, .ro⟩, ⟨2, 4, .ro⟩, ⟨6, 4, .ro⟩, ⟨10, 1, .ro⟩, ⟨11, 1, .ro⟩, ⟨12, 1, .ro⟩, ⟨16, 16, .ro⟩]⟩,
  ⟨0x40580008, [], 0x0#32, [⟨0, 8, .ro⟩, ⟨8, 8, .ro⟩, ⟨16, 16, .ro⟩]⟩,
  ⟨0x40580100, [], 0x0#32, [⟨0, 5, .ro⟩, ⟨8, 1, .wo⟩, ⟨16, 5, .wo⟩]⟩,
  ⟨0x40580180, [], 0x0#32, [⟨0, 5, .wo⟩, ⟨8, 4, .wo⟩, ⟨16, 7, .ro⟩]⟩,
  ⟨0x40580040, [(16, 0x4)], 0x0#32, [⟨0, 32, .ro⟩]⟩,
  ⟨0x405800c0, [(16, 0x4)], 0x0#32, [⟨0, 32, .rw⟩]⟩,
  ⟨0x40580140, [(16, 0x4)], 0x0#32, [⟨0, 32, .rw⟩]⟩]
/-- The CAN registers. -/
def canKinds : List Kind := [
  ⟨0x40600000, [(2, 0x1000)], 0x0#32, [⟨0, 1, .rw⟩, ⟨1, 1, .rw⟩, ⟨2, 1, .rw⟩, ⟨3, 1, .rw⟩, ⟨4, 1, .rw⟩, ⟨5, 1, .wo⟩, ⟨6, 1, .wo⟩]⟩,
  ⟨0x40600004, [(2, 0x1000)], 0x306347#32, [⟨0, 5, .rw⟩, ⟨5, 8, .rw⟩, ⟨13, 7, .rw⟩, ⟨20, 7, .rw⟩, ⟨27, 1, .rw⟩, ⟨28, 4, .rw⟩]⟩,
  ⟨0x40600008, [(2, 0x1000)], 0x306347#32, [⟨0, 5, .rw⟩, ⟨5, 8, .rw⟩, ⟨13, 7, .rw⟩, ⟨20, 7, .rw⟩, ⟨27, 1, .rw⟩, ⟨28, 4, .rw⟩]⟩,
  ⟨0x4060000c, [(2, 0x1000)], 0x0#32, [⟨0, 2, .ro⟩, ⟨2, 1, .ro⟩, ⟨8, 8, .ro⟩, ⟨16, 8, .ro⟩]⟩,
  ⟨0x40600010, [(2, 0x1000)], 0x0#32, [⟨0, 8, .ro⟩, ⟨8, 8, .ro⟩, ⟨16, 7, .ro⟩, ⟨24, 5, .ro⟩]⟩,
  ⟨0x40600100, [(2, 0x1000), (32, 0x8)], 0x0#32, [⟨0, 29, .rw⟩, ⟨29, 1, .rw⟩, ⟨31, 1, .rw⟩]⟩,
  ⟨0x40600104, [(2, 0x1000), (32, 0x8)], 0x1fffffff#32, [⟨0, 29, .rw⟩]⟩,
  ⟨0x40600200, [(2, 0x1000), (19, 0x4)], 0x0#32, [⟨0, 32, .rw⟩]⟩,
  ⟨0x40600260, [(2, 0x1000)], 0x0#32, [⟨0, 1, .wo⟩]⟩,
  ⟨0x40600300, [(2, 0x1000), (19, 0x4)], 0x0#32, [⟨0, 32, .ro⟩]⟩,
  ⟨0x40600360, [(2, 0x1000)], 0x0#32, [⟨0, 1, .wo⟩]⟩]
/-- The PLB registers. -/
def plbKinds : List Kind := [
  ⟨0x40680000, [], 0xf60a00#32, [⟨0, 1, .wb⟩, ⟨1, 1, .wb⟩, ⟨8, 8, .wb⟩, ⟨16, 12, .wb⟩]⟩,
  ⟨0x40680004, [], 0x0#32, [⟨0, 1, .ro⟩, ⟨1, 1, .ro⟩, ⟨2, 3, .ro⟩, ⟨8, 4, .ro⟩, ⟨16, 16, .ro⟩]⟩,
  ⟨0x40680008, [], 0x0#32, [⟨0, 10, .ro⟩]⟩,
  ⟨0x4068000c, [], 0x0#32, [⟨16, 16, .wo⟩]⟩,
  ⟨0x40680010, [], 0x74#32, [⟨0, 3, .ro⟩, ⟨4, 3, .ro⟩, ⟨8, 1, .ro⟩, ⟨9, 1, .w1c⟩, ⟨10, 1, .w1c⟩, ⟨11, 1, .ro⟩, ⟨16, 8, .ro⟩]⟩,
  ⟨0x40680014, [], 0x0#32, [⟨0, 2, .wo⟩, ⟨16, 16, .wo⟩]⟩,
  ⟨0x40680040, [(12, 0x4)], 0x0#32, [⟨0, 16, .ro⟩, ⟨16, 5, .ro⟩, ⟨24, 2, .ro⟩]⟩,
  ⟨0x40680080, [(19, 0x4)], 0x0#32, [⟨0, 7, .ro⟩, ⟨8, 7, .ro⟩, ⟨16, 8, .ro⟩]⟩]
/-- The HLTH registers. -/
def hlthKinds : List Kind := [
  ⟨0x40700000, [], 0x0#32, [⟨0, 4, .ro⟩, ⟨4, 2, .ro⟩, ⟨6, 1, .ro⟩, ⟨7, 1, .ro⟩, ⟨8, 2, .ro⟩, ⟨10, 1, .ro⟩, ⟨11, 1, .ro⟩, ⟨12, 1, .ro⟩, ⟨13, 1, .ro⟩, ⟨14, 1, .ro⟩, ⟨15, 1, .ro⟩]⟩,
  ⟨0x40700004, [], 0x0#32, [⟨0, 6, .wb⟩, ⟨7, 1, .wb⟩, ⟨8, 1, .ro⟩]⟩,
  ⟨0x40700008, [], 0x0#32, [⟨0, 1, .rw⟩, ⟨1, 1, .rw⟩]⟩,
  ⟨0x4070000c, [], 0x0#32, [⟨0, 32, .ro⟩]⟩]

/-- The kinds of the block window that holds address `a` (R101). -/
def blockKinds (a : Nat) : List Kind :=
  if a < 0x40000000 then []
  else if a < 0x40010000 then sysKinds
  else if a < 0x40020000 then pwrKinds
  else if a < 0x40030000 then cisKinds
  else if a < 0x40040000 then protKinds
  else if a < 0x40050000 then catKinds
  else if a < 0x40100000 then whdKinds
  else if a < 0x40180000 then sluKinds
  else if a < 0x40200000 then mspKinds
  else if a < 0x40280000 then brgKinds
  else if a < 0x40300000 then drvKinds
  else if a < 0x40380000 then cogKinds
  else if a < 0x40400000 then adcKinds
  else if a < 0x40480000 then knrKinds
  else if a < 0x40500000 then leatKinds
  else if a < 0x40580000 then safeKinds
  else if a < 0x40600000 then raceKinds
  else if a < 0x40680000 then canKinds
  else if a < 0x40700000 then plbKinds
  else if a < 0x40780000 then hlthKinds
  else []

/-- The registers that B0 does not have: Ke supervision (R294) and the curve unit (R297). -/
def unfittedB0 (a : Nat) : Bool :=
  decide (0x40200180 ≤ a ∧ a < 0x4020018C) || decide (0x40200200 ≤ a ∧ a < 0x40200280)

/-- The register kind at an address: none at a reserved or unimplemented location (R8, R101). -/
def kindAt (a : Nat) : Option Kind :=
  if unfittedB0 a then none else (blockKinds a).find? (fun k => k.holds a)

/-- The Reset column's word of the register at `a`; zero at a reserved location (R8, R10). -/
def resetWord (a : Nat) : Word :=
  match kindAt a with
  | some k => k.rst
  | none   => 0

end Sys2Proof.Machine
end

