-- ==== Sys2Proof/Machine/Ops.lean ====
section
/-!
DEFINITION. The named operations over the state: sparse cells, registers and their fields, memory,
engines, free values, the Catchment's counts (R230, R231) and strobe groups (R110-R115).
-/

namespace Sys2Proof.Machine

/-- A meaning whose command may be ill-formed (WellFormed.lean) faults there. -/
def checked (ok : Bool) (s : State) : Host.Outcome State Fault Refusal :=
  if ok then .next s else .fault .illFormed

/-- `n / d` rounded to an integer, halves to even (R58, R166). -/
def halfEven (n d : Nat) : Nat :=
  let q := n / d
  let r := n % d
  if 2 * r < d then q else if d < 2 * r then q + 1 else q + q % 2

/-- An integer over `d` rounded, halves to even. -/
def halfEvenInt (n : Int) (d : Nat) : Int :=
  if n < 0 then -(halfEven n.natAbs d : Int) else (halfEven n.natAbs d : Int)

/-- The value at address `a`; `d` says what an unlisted address holds. -/
def Cells.get {α : Type} (d : Nat → α) : List (Nat × α) → Nat → α
  | [], a => d a
  | (b, w) :: r, a => if a = b then w else Cells.get d r a

/-- The cells without address `a`. -/
def Cells.erase {α : Type} : List (Nat × α) → Nat → List (Nat × α)
  | [], _ => []
  | (b, w) :: r, a => if a = b then Cells.erase r a else (b, w) :: Cells.erase r a

/-- `(a, v)` put at its place by address. -/
def Cells.insert {α : Type} (a : Nat) (v : α) : List (Nat × α) → List (Nat × α)
  | [] => [(a, v)]
  | (b, w) :: r => if a < b then (a, v) :: (b, w) :: r else (b, w) :: Cells.insert a v r

/-- Address `a` set to `v`; the value of an unlisted address removes the entry. -/
def Cells.set {α : Type} [DecidableEq α] (d : Nat → α) (m : List (Nat × α)) (a : Nat) (v : α) :
    List (Nat × α) :=
  if v = d a then Cells.erase m a else Cells.insert a v (Cells.erase m a)

/-- The canonical form: addresses strictly rising, no entry equal to what an unlisted address
holds. -/
abbrev Cells.wf {α : Type} (d : Nat → α) (m : List (Nat × α)) : Prop :=
  m.Pairwise (fun x y => x.1 < y.1) ∧ ∀ e ∈ m, e.2 ≠ d e.1

/-- What a byte of memory that nothing has written reads as (R123; DESIGN CHOICE, log entry 4). -/
def memDefault (_ : Nat) : Byte := 0

/-- The canonical form of a memory. -/
abbrev Memory.wf (m : Memory) : Prop := Cells.wf memDefault m

/-- The byte at an address. -/
def Memory.byte (m : Memory) (a : Nat) : Byte := Cells.get memDefault m a

/-- One byte written. -/
def Memory.setByte (m : Memory) (a : Nat) (v : Byte) : Memory := Cells.set memDefault m a v

/-- The little-endian number of the `n` bytes from `a` up (00_scope.md). -/
def Memory.read (m : Memory) (a : Nat) : Nat → Nat
  | 0 => 0
  | n + 1 => (m.byte a).toNat + 256 * Memory.read m (a + 1) n

/-- The `n` low bytes of `v` written little-endian from `a` up. -/
def Memory.write (m : Memory) (a : Nat) : Nat → Nat → Memory
  | 0, _ => m
  | n + 1, v => Memory.write (m.setByte a (BitVec.ofNat 8 v)) (a + 1) n (v / 256)

/-- The word at `a`. -/
def Memory.word (m : Memory) (a : Nat) : Word := BitVec.ofNat 32 (m.read a 4)

/-- Bytes written from `a` up. -/
def Memory.writeBytes (m : Memory) (a : Nat) : List Byte → Memory
  | [] => m
  | b :: r => Memory.writeBytes (m.setByte a b) (a + 1) r

/-- The `n` bytes from `a` up. -/
def Memory.bytes (m : Memory) (a : Nat) : Nat → List Byte
  | 0 => []
  | n + 1 => m.byte a :: Memory.bytes m (a + 1) n

/-- The register word held at address `a`, as far as the model stores it; `readReg` (Read.lean) says
what a read returns. -/
def State.reg (s : State) (a : Nat) : Word := Cells.get resetWord s.regs a

/-- The register word at `a` replaced. -/
def State.setReg (s : State) (a : Nat) (w : Word) : State :=
  { s with regs := Cells.set resetWord s.regs a w }

/-- The number in a field. -/
def State.f (s : State) (x : Field) : Nat := (s.reg x.addr).field x.lo x.w

/-- Whether a field is not zero. -/
def State.fb (s : State) (x : Field) : Bool := s.f x != 0

/-- A field set to the low bits of `v`. -/
def State.setF (s : State) (x : Field) (v : Nat) : State :=
  s.setReg x.addr ((s.reg x.addr).put x.lo x.w v)

/-- A one-bit field set. -/
def State.setB (s : State) (x : Field) (b : Bool) : State := s.setF x (Word.ofBool b)

/-- A field raised by `n`, saturating at its highest value. -/
def State.satAdd (s : State) (x : Field) (n : Nat) : State :=
  s.setF x (min (2 ^ x.w - 1) (s.f x + n))

/-- A field raised by 1 modulo its width. -/
def State.wrapInc (s : State) (x : Field) : State := s.setF x (s.f x + 1)

/-- The index of an engine's state. -/
def engIdx : Engine → Fin 9
  | .msp0 => 0 | .msp1 => 1 | .slu n => ⟨2 + n.val, by omega⟩ | .miller => 7 | .flume => 8

/-- An engine's state. -/
def State.eng (s : State) (e : Engine) : EngState := s.engs[(engIdx e).val]

/-- An engine's state replaced. -/
def State.setEng (s : State) (e : Engine) (x : EngState) : State :=
  { s with engs := s.engs.set (engIdx e).val x }

/-- A function applied to an engine's state. -/
def State.updEng (s : State) (e : Engine) (h : EngState → EngState) : State := s.setEng e (h (s.eng e))

/-- A function applied to a bridge's hidden state. -/
def State.updBrg (s : State) (b : Fin 5) (h : Bridge → Bridge) : State :=
  { s with brg := s.brg.set b.val (h s.brg[b.val]) }

/-- A bridge's hidden state. -/
def State.bridge (s : State) (b : Fin 5) : Bridge := s.brg[b.val]

/-- A leg of a bridge. -/
def State.leg (s : State) (b : Fin 5) (k : Fin 3) : Leg := (s.bridge b).legs[k.val]

/-- A function applied to a leg. -/
def State.updLeg (s : State) (b : Fin 5) (k : Fin 3) (h : Leg → Leg) : State :=
  s.updBrg b (fun x => { x with legs := x.legs.set k.val (h x.legs[k.val]) })

/-- A function applied to the state once for each element. -/
def State.each {α : Type} (s : State) (xs : List α) (h : State → α → State) : State := xs.foldl h s

/-- The five bridges. -/
def bridges : List (Fin 5) := [0, 1, 2, 3, 4]

/-- The three legs. -/
def legs3 : List (Fin 3) := [0, 1, 2]

/-- The next free word, and the state that has used it. -/
def State.takeWord (s : State) : Word × State := (Config.freeWord s.free, { s with free := s.free + 1 })

/-- The next free choice between two outcomes, and the state that has used it. -/
def State.takeBit (s : State) : Bool × State := (Config.freeBit s.free, { s with free := s.free + 1 })

/-- What the lane sends. -/
def State.send (s : State) (x : Sent) : State := { s with sent := s.sent ++ [x] }

/-- Whether a Catchment source is a level source (R229). -/
def isLevel (n : Nat) : Bool :=
  n == 3 || n == 8 || n == 12 || n == 13 || n == 14 ||
  (decide (32 ≤ n ∧ n < 62) && (n - 32) % 6 == 3) ||
  (decide (64 ≤ n ∧ n < 84) && ((n - 64) % 4 == 0 || (n - 64) % 4 == 2)) ||
  n == 85 || n == 86 || n == 87 || n == 88 ||
  (decide (96 ≤ n ∧ n < 126) && ((n - 96) % 5 == 2 || (n - 96) % 5 == 4)) || n == 126 ||
  n == 131 || n == 133 || n == 135 || n == 136 || n == 164 || n == 165 ||
  decide (180 ≤ n ∧ n < 184) || n == 185 || n == 186 || n == 187 ||
  n == 192 || n == 195 || n == 203 || n == 207

/-- Whether a Catchment source is assigned (R229). -/
def isSource (n : Nat) : Bool :=
  decide (n ≤ 25) || decide (32 ≤ n ∧ n ≤ 61) || decide (64 ≤ n ∧ n ≤ 90) && n != 91 ||
  decide (96 ≤ n ∧ n ≤ 126) || decide (128 ≤ n ∧ n ≤ 144) || decide (160 ≤ n ∧ n ≤ 168) ||
  decide (176 ≤ n ∧ n ≤ 187) || decide (192 ≤ n ∧ n ≤ 195) || decide (200 ≤ n ∧ n ≤ 214)

/-- Whether the lane is held in a reset (R119). -/
def State.inReset (s : State) : Bool := s.rst.asserted.isSome

/-- Whether the lane die is powered: not in reset and not in a low-power mode. -/
def State.live (s : State) : Bool :=
  !s.inReset && (s.whd.phase == .awake || s.whd.phase == .armed)

/-- One occurrence of an edge source (R230); nothing while the lane die is in reset or unpowered. -/
def State.raise (s : State) (n : Nat) : State :=
  if !s.live then s else
  let c := s.f (Fld.CAT_CNT_COUNT n)
  if c = 15 then s.setF (Fld.CAT_CNT_SAT n) 1 else s.setF (Fld.CAT_CNT_COUNT n) (c + 1)

/-- Several occurrences of an edge source. -/
def State.raiseN (s : State) (n : Nat) : Nat → State
  | 0 => s
  | k + 1 => (s.raise n).raiseN n k

/-- The present level of a level source (R231). -/
def State.level (s : State) (n : Nat) (on : Bool) : State :=
  if !s.live then s else
  let s1 := s.setB (Fld.CAT_CNT_NOW n) on
  if on then s1.setF (Fld.CAT_CNT_COUNT n) 1 else s1

/-- Whether a source is pending. -/
def State.isPending (s : State) (n : Nat) : Bool := s.fb (Fld.CAT_CNT_COUNT n)

/-- Word `n` of the pending bits (R229). -/
def State.pendWord (s : State) (n : Nat) : Word :=
  BitVec.ofNat 32 ((List.range 32).foldl
    (fun acc k => if s.isPending (32 * n + k) then acc + 2 ^ k else acc) 0)

/-- The Catchment target of an engine (R236). -/
def targetOf : Engine → Option Nat
  | .msp0 => some 0 | .miller => some 1 | .flume => some 2 | .msp1 => some 3 | .slu _ => none

/-- SUM of a target: bit n when an enabled source of word n is pending. -/
def State.catSum (s : State) (t : Nat) : Nat :=
  (List.range 7).foldl (fun acc n =>
    if (s.pendWord n &&& s.reg (Reg.CAT_TGT_EN t n)) != 0 then acc + 2 ^ n else acc) 0

/-- Whether a target has an event pending (R236). -/
def State.eventPending (s : State) (e : Engine) : Bool :=
  match targetOf e with
  | some t => s.catSum t != 0
  | none => false

/-- The strobe-group slot of the block instance that holds address `a` (R109). -/
def slotOf (a : Nat) : Option Nat :=
  if a < 0x40100000 then none
  else if a < 0x40150000 then some ((a - 0x40100000) / 0x10000)
  else if a < 0x40200000 then none
  else if a < 0x40205000 then some (5 + (a - 0x40200000) / 0x1000)
  else if a < 0x40300000 then none
  else if a < 0x40306000 then some (10 + (a - 0x40300000) / 0x1000)
  else if a < 0x40308000 then none
  else if a < 0x40309000 then some 16
  else if a < 0x40380000 then none
  else if a < 0x40400000 then some 17
  else if a < 0x40480000 then some 18
  else if a < 0x40500000 then some 19
  else if a < 0x40580000 then some 20
  else if a < 0x40600000 then some 21
  else if a < 0x40602000 then some (22 + (a - 0x40600000) / 0x1000)
  else if a < 0x40680000 then none
  else if a < 0x40700000 then some 24
  else none

/-- The strobe group that a slot is in (R109). -/
def State.groupOf (s : State) (slot : Nat) : Nat :=
  (s.reg (Reg.SYS_GRPSEL (slot / 8))).field (4 * (slot % 8)) 4

/-- Whether the buffered word at address `a` belongs to group `g`. -/
def State.inGroup (s : State) (g a : Nat) : Bool :=
  match slotOf a with
  | some k => s.groupOf k == g
  | none => false

/-- PEND of SYS_UPDSTAT: the groups that hold buffered writes (R110). -/
def State.pendGroups (s : State) : Nat :=
  (List.range 16).foldl (fun acc g =>
    if s.shadow.any (fun e => s.inGroup g e.1) then acc + 2 ^ g else acc) 0

/-- Whether a field spec is shadowed. -/
def FieldSpec.isSh (x : FieldSpec) : Bool := x.acc == .sh || x.acc == .shwb

/-- `old` with the fields of `xs` that `p` selects replaced from `new`. -/
def mergeFields (p : FieldSpec → Bool) (xs : List FieldSpec) (old new : Word) : Word :=
  xs.foldl (fun w x => if p x then w.put x.lo x.w (new.field x.lo x.w) else w) old

/-- Whether SEAL has been executed (R96). -/
def State.sealed (s : State) : Bool := s.fb Fld.PROT_SEAL_SEALED

/-- A plain write of a register's fields by their access codes (R103): RW takes the value, W1C
clears, WB takes it before SEAL only, SH goes to the buffer (R110). -/
def State.writeFields (s : State) (k : Kind) (a : Nat) (v : Word) : State :=
  let old := s.reg a
  let w1 := mergeFields (fun x => x.acc == .rw || (x.acc == .wb && !s.sealed)) k.fields old v
  let w2 := mergeFields (fun x => x.acc == .w1c) k.fields w1 (old &&& ~~~v)
  let s1 := s.setReg a w2
  if k.fields.any (fun x => x.acc == .sh || (x.acc == .shwb && !s.sealed)) then
    { s1 with shadow := Cells.insert a v (Cells.erase s1.shadow a) }
  else s1

/-- The engine's level is supervisor (R150; one-level engines hold PRIV = 1). -/
def State.super (s : State) (e : Engine) : Bool := (s.eng e).psw.bit 9

/-- Whether an engine is the Millstone pair, or core 0 of a split pair. -/
def isMsp0 : Engine → Bool
  | .msp0 => true | _ => false

/-- Whether an engine is a core of the pair. -/
def isMsp : Engine → Bool
  | .msp0 => true | .msp1 => true | _ => false

/-- Lane letters as SYS_ID.LANE codes them. -/
def laneCode : Lane → Nat
  | .A => 1 | .B => 2 | .C => 3

/-- Lane letters as indices 0-2. -/
def laneIdx : Lane → Fin 3
  | .A => 0 | .B => 1 | .C => 2

/-- The lane of a code. -/
def laneOfCode (n : Nat) : Option Lane :=
  if n = 1 then some .A else if n = 2 then some .B else if n = 3 then some .C else none

/-- The three lanes. -/
def lanes : List Lane := [.A, .B, .C]

/-- The lane at an index. -/
def laneAt (i : Fin 3) : Lane := lanes[i.val]'(by simp [lanes])

/-- Mode codes (01_lanes_and_modes.md). -/
def mBOOT : Nat := 0
def mCOMMISSION : Nat := 1
def mREADY : Nat := 2
def mTRIPLEX : Nat := 3
def mDUPLEX : Nat := 4
def mSIMPLEX : Nat := 5
def mSAFEHOLD : Nat := 6
def mSERVICE : Nat := 7
def mSTANDBY : Nat := 8
def mDORMANT : Nat := 9

/-- The present mode. -/
def State.md (s : State) : Nat := s.f Fld.SYS_MODE_MODE

/-- Whether a mode code is a RUN mode. -/
def isRun (m : Nat) : Bool := m == 3 || m == 4 || m == 5

/-- Whether the lane is in a RUN mode. -/
def State.inRun (s : State) : Bool := isRun s.md

/-- The stop causes of SYS_MODE.SCAUSE as CAUSE codes (R27). -/
def causeOfScause (n : Nat) : Nat :=
  if n = 1 then 0x30 else if n = 2 then 0x31 else if n = 3 then 0x32 else if n = 4 then 0x10 else 0x34

/-- The low bits of an L or g register file read as a word vector. -/
def State.getG (s : State) (e : Engine) (i : BitVec 5) : Word := (s.eng e).g[i.toNat]

end Sys2Proof.Machine
end

