-- ==== Sys2Proof/Machine/DriveOps.lean ====
section
/-!
DEFINITION. The drive die's shared operations (chapter 11): the configuration in force for a bridge
(R247, R259), the choice of its state (R258, R261), gates (R243-R245), drive fault latches (R262)
and FAULT_N (R266).
-/

namespace Sys2Proof.Machine

/-- The PCFG word in force: the one kept with a latch, otherwise the register (R259). -/
def State.pcfg (s : State) (b : Fin 5) : Word :=
  if (s.bridge b).latch.held then (s.bridge b).latch.pcfg else s.reg (Reg.BRG_PCFG b)

/-- SCLASS in force is MOTOR (R247). -/
def State.motor (s : State) (b : Fin 5) : Bool := (s.pcfg b).bit 0

/-- LEGMASK in force (R247). -/
def State.legMask (s : State) (b : Fin 5) : BitVec 3 := BitVec.ofNat 3 ((s.pcfg b).field 4 3)

/-- Whether a leg is in use (R247). -/
def State.legUsed (s : State) (b : Fin 5) (k : Fin 3) : Bool := (s.legMask b).getLsbD k

/-- The state of a bridge with its faults located, or with a latch of kind fault and none located
(R258, entries 5 and 6 of R261). -/
def latchedState (motor : Bool) (la : Latch) : BState :=
  if !motor then .inert
  else if la.locH = 0 then .lowerShort
  else if la.locL = 0 then .upperShort
  else .inert

/-- The OV2 reaction or SPILL_FAULT acts on a bridge: while it holds, and after it until the
bridge's next period start (R270, R272). -/
def State.ov2Acts (s : State) (b : Fin 5) : Bool :=
  s.fb Fld.DRV_STAT_OV2 || s.fb Fld.DRV_STAT_SPILL_FAULT || (s.bridge b).holdPeriod

/-- The state that decides a bridge: the first entry of R261 that applies. -/
def State.bstate (s : State) (b : Fin 5) : BState :=
  let la := (s.bridge b).latch
  if !s.drv.ena then .inert
  else if !s.drv.vdrvOk then .inert
  else if la.held && (la.unsh || la.ulost) then .inert
  else if (s.bridge b).locating then .locating
  else if (s.bridge b).vdsDue then .inert
  else if la.held && !la.resign then latchedState (s.motor b) la
  else if s.ov2Acts b then (if s.motor b then .lowerShort else .regenClamp)
  else if la.held then la.state
  else if s.f (Fld.BRG_PCMD_DEMAND b) = 1 then (if s.motor b then .lowerShort else .inert)
  else if s.f (Fld.BRG_PCMD_DEMAND b) = 2 then .inert
  else if s.fb (Fld.BRG_CTL_RUN b) then .driving
  else .inert

/-- What a leg is commanded to under a bridge state. -/
def legCommand (used : Bool) (st : BState) (pwm : Gate) (refresh : Bool) : Gate :=
  if !used then .inert
  else match st with
    | .inert => .inert
    | .locating => .inert
    | .lowerShort => .low
    | .upperShort => .high
    | .driving => if refresh then .low else pwm
    | .regenClamp => if pwm = .low then .low else .inert

/-- A leg that takes a command: the gate that is not commanded goes off at once, and a gate that is
turns on at its dead-time end (R244, R245). -/
def Leg.take (x : Leg) (c : Gate) : Leg :=
  { x with cmd := c, gate := if x.gate = c then x.gate else .inert }

/-- PSTAT.STATE codes. -/
def bstateCode : BState → Nat
  | .inert => 0 | .driving => 1 | .lowerShort => 2 | .upperShort => 3 | .locating => 4
  | .regenClamp => 5

/-- LEG.STAT.GATE codes. -/
def gateCode : Gate → Nat
  | .inert => 0 | .high => 1 | .low => 2

/-- A leg's GATE field kept equal to its gates. -/
def State.showGate (s : State) (b : Fin 5) (k : Fin 3) : State :=
  s.setF (Fld.BRG_LEG_STAT_GATE b k) (gateCode (s.leg b k).gate)

/-- What the PWM of a leg gives: its own pattern, under BLDC the code of the entry in force (R283), and
on leg V of a SOL bridge always low (R284). -/
def State.legPattern (s : State) (b : Fin 5) (k : Fin 3) : Gate :=
  if !(s.bridge b).counting then .inert
  else if s.f (Fld.BRG_CFG_TYPE b) = 2 then
    match (s.bridge b).hall with
    | none => .inert
    | some h =>
      let c := (s.reg (Reg.BRG_SIX b h.toNat)).field (2 * k.val) 2
      if c = 1 then (s.leg b k).pwm else if c = 2 then .low else .inert
  else if s.f (Fld.BRG_CFG_TYPE b) = 4 ∧ k = 1 then .low
  else (s.leg b k).pwm

/-- One leg brought to what its bridge's state commands. -/
def State.settleLeg (s : State) (b : Fin 5) (k : Fin 3) : State :=
  let g := s.legPattern b k
  (s.updLeg b k (fun x => x.take (legCommand (s.legUsed b k) (s.bstate b) g x.refresh))).showGate b k

/-- A bridge brought to the state that R261 decides, with its status shown. -/
def State.settle (s : State) (b : Fin 5) : State :=
  let st := s.bstate b
  let s1 := s.each legs3 (fun t k => t.settleLeg b k)
  (s1.setF (Fld.BRG_PSTAT_STATE b) (bstateCode st)).setB (Fld.BRG_PSTAT_LATCHED b)
    (s.bridge b).latch.held

/-- Every bridge settled. -/
def State.settleAll (s : State) : State := s.each bridges State.settle

/-- The bridge's owner's PWM ends: RUN clears, the period counter stops and no leg follows it. -/
def State.stopPwm (s : State) (b : Fin 5) : State :=
  ((s.setF (Fld.BRG_CTL_RUN b) 0).updBrg b (fun x =>
    { x with counting := false, startMark := false, holdPeriod := false,
             legs := x.legs.map (fun l => { l with pwm := .inert, refresh := false,
                                                   onMade := false, offMade := false, wait := none }) })).settle b

/-- A catch in progress ends at this instant with a result (R291, R293); 7 is ABORT. -/
def State.abortCatch (s : State) (b : Fin 5) : State :=
  if s.fb (Fld.BRG_CATCHST_BUSY b) then
    ((s.setF (Fld.BRG_CATCHST_BUSY b) 0).setF (Fld.BRG_CATCHST_RESULT b) 7).setReg (Reg.BRG_CATCHT b) s.tnow
  else s

/-- A latch with newly located faults; UNSHORTABLE sets when both sides are located (R258, R259). -/
def Latch.locate (la : Latch) (h l : BitVec 3) : Latch :=
  let h' := la.locH ||| h
  let l' := la.locL ||| l
  { la with locH := h', locL := l', unsh := la.unsh || (h' != 0 && l' != 0) }

/-- A drive fault sets or changes the latch of a bridge (R259, R262). -/
def State.latchFault (s : State) (b : Fin 5) (cause : Nat) (h l : BitVec 3) : State :=
  let la := (s.bridge b).latch
  let new : Latch :=
    if !la.held then
      { held := true, resign := false, cause := cause, pcfg := s.reg (Reg.BRG_PCFG b) }
    else if la.resign then { la with resign := false, cause := cause }
    else la
  let s1 := (s.updBrg b (fun x => { x with latch := new.locate h l })).abortCatch b
  let s2 := if la.held then s1 else s1.satAdd Fld.DRV_CNT_LATCNT 1
  (s2.level (64 + 4 * b) true).settle b

/-- A resign state or safe state sets a latch of kind resign on a bridge with a leg in use; a latch
already held stays as it is (R262). -/
def State.latchResign (s : State) (b : Fin 5) (st : BState) : State :=
  if s.legMask b = 0 || (s.bridge b).latch.held then s.settle b
  else
    let s1 := (s.updBrg b (fun x => { x with latch :=
      { held := true, resign := true, cause := 1, state := st, pcfg := s.reg (Reg.BRG_PCFG b) } })
      ).abortCatch b
    ((s1.satAdd Fld.DRV_CNT_LATCNT 1).level (64 + 4 * b) true).settle b

/-- The resign state of a bridge (R248). -/
def State.resignState (s : State) (b : Fin 5) : BState :=
  if s.motor b && !(s.pcfg b).bit 1 then .lowerShort else .inert

/-- The safe state of a bridge's type (R31, R262). -/
def State.safeState (s : State) (b : Fin 5) : BState := if s.motor b then .lowerShort else .inert

/-- Every bridge to its resign state (R30, R108, R372). -/
def State.resignBridges (s : State) : State := s.each bridges (fun t b => t.latchResign b (t.resignState b))

/-- Every bridge to the safe state of its type (R31, R204, R223). -/
def State.safeBridges (s : State) : State := s.each bridges (fun t b => t.latchResign b (t.safeState b))

/-- Every bridge's PWM ended, so that unlatched bridges are inert. -/
def State.inertBridges (s : State) : State := s.each bridges State.stopPwm

/-- A latch of kind fault holds some bridge. -/
def State.faultHeld (s : State) : Bool :=
  bridges.any (fun b => (s.bridge b).latch.held && !(s.bridge b).latch.resign)

/-- The lane die's pads are clamped or unpowered: from step 3 of low-power entry until the release of the clamps, they
show what R47 gives (R71). -/
def State.clamped (s : State) : Bool := !(s.whd.phase == .awake || s.whd.phase == .armed)

/-- FAULT_N is low (R47, R71, R95, R266). -/
def State.faultLow (s : State) : Bool :=
  s.inReset || s.clamped || s.rst.injHold || s.faultHeld || s.fb Fld.DRV_STAT_SPILL_FAULT ||
    s.f Fld.CIS_BOOTSTAT_HALT != 0

/-- The motor bridges of the lane in an active short, one bit each (R355, R379). -/
def State.shortedMask (s : State) : BitVec 5 :=
  BitVec.ofNat 5 (bridges.foldl (fun acc b =>
    if s.motor b && (s.bstate b == .lowerShort || s.bstate b == .upperShort) && s.legMask b != 0
    then acc + 2 ^ b.val else acc) 0)

/-- The state of each bridge as RESIGN and LEAVE carry it (R355): PSTAT.STATE, three bits each. -/
def State.bridgeStates (s : State) : BitVec 15 :=
  BitVec.ofNat 15 (bridges.foldl (fun acc b => acc + bstateCode (s.bstate b) * 8 ^ b.val) 0)

/-- The bridges held by any drive fault latch or a software demand, as RESIGN and LEAVE carry them (R355). -/
def State.heldStates (s : State) : BitVec 5 :=
  BitVec.ofNat 5 (bridges.foldl (fun acc b =>
    if (s.bridge b).latch.held || s.f (Fld.BRG_PCMD_DEMAND b) = 1 || s.f (Fld.BRG_PCMD_DEMAND b) = 2
    then acc + 2 ^ b.val else acc) 0)

/-- The motor bridges that a RESIGN or LEAVE shows in an active short (R379); every lane runs the same image, so the
lane's own PCFG says which they are. -/
def State.tokShorts (s : State) (tok : DepartTok) : BitVec 5 :=
  BitVec.ofNat 5 (bridges.foldl (fun acc b =>
    let c := tok.states.toNat / 8 ^ b.val % 8
    if s.motor b && s.legMask b != 0 && (c == 2 || c == 3) then acc + 2 ^ b.val else acc) 0)

/-- The bridges held by a latch of kind fault or by a software demand (R355, R378). -/
def State.heldMask (s : State) : BitVec 5 :=
  BitVec.ofNat 5 (bridges.foldl (fun acc b =>
    if ((s.bridge b).latch.held && !(s.bridge b).latch.resign) ||
       s.f (Fld.BRG_PCMD_DEMAND b) = 1 || s.f (Fld.BRG_PCMD_DEMAND b) = 2
    then acc + 2 ^ b.val else acc) 0)

/-- The state that a latch holds, as DRV_LATCH.STATE codes it. -/
def latchCode : BState → Nat
  | .lowerShort => 1 | .upperShort => 2 | _ => 0

/-- DRV_LATCH (R262). -/
def State.viewLatch (s : State) (b : Fin 5) : Word :=
  let la := (s.bridge b).latch
  if !la.held then 0
  else
    let st := if la.unsh || la.ulost then BState.inert else if la.resign then la.state
      else latchedState (s.motor b) la
    BitVec.ofNat 32 (1 + 2 * Word.ofBool la.resign + 4 * latchCode st + 2 ^ 4 * la.cause +
      2 ^ 8 * la.locH.toNat + 2 ^ 11 * Word.ofBool la.ulost + 2 ^ 12 * la.locL.toNat +
      2 ^ 15 * Word.ofBool la.unsh + 2 ^ 16 * la.untest.toNat)

/-- Every bridge is inert (R73). -/
def State.allInert (s : State) : Bool := bridges.all (fun b => s.bstate b == .inert)

/-- The spillway gate, with its turn-on counted under OV1 (R271). -/
def State.spillway (s : State) (on : Bool) : State := s.setB Fld.DRV_STAT_SPW_ON on

end Sys2Proof.Machine
end

