-- ==== Sys2Proof/Machine/LaneOps.lean ====
section
/-!
DEFINITION. What concerns the lane as a whole: what a reset clears (R119-R123), modes and their
transitions (R25-R34), roles and eligibility (R358-R360), tokens sent (R355), the safe inputs' state
(R393-R404), and the lane's reaction to a fault of its own (R30, R31, R204, R223, R371-R373).
-/

namespace Sys2Proof.Machine

/-- Precedence of the kinds of reset (R119), 0 highest. -/
def resetRank : ResetKind → Nat
  | .por => 0 | .rstN => 1 | .watchdog => 2 | .resign => 3 | .soft => 4

/-- CAUSE codes of the resets (R119). -/
def resetCause (k : ResetKind) : Nat := resetRank k + 1

/-- The kind recorded when a reset is asserted while another is in progress (R120). -/
def joinReset (old : Option ResetKind) (k : ResetKind) : ResetKind :=
  match old with
  | none => k
  | some o => if resetRank o ≤ resetRank k then o else k

/-- Whether a register word survives a reset or low-power state: Wellhead registers and the drive
die's latch status do, POR excepted (R121, R274). -/
def survives (a : Nat) : Bool :=
  decide (0x40050000 ≤ a ∧ a < 0x40060000) || a == 0x40280000 || a == 0x40280060

/-- The retention bank's addresses. -/
def isRetention (a : Nat) : Bool := decide (0x10200000 ≤ a ∧ a < 0x10240000)

/-- What of a bridge survives a lane reset: a latched bridge keeps its gate states and its latch,
every other leg is inert (R47, R121, R262). -/
def Bridge.cleared (x : Bridge) (por : Bool) : Bridge :=
  if x.latch.held && !por then { legs := x.legs, latch := x.latch, locating := x.locating } else {}

/-- 256 free bits, for the bits that an interrupted FUSE_KEY has programmed (R87). -/
def State.freeBits (s : State) : BitVec 256 :=
  (List.range 8).foldl (fun acc i =>
    acc ||| ((Config.freeWord (s.free + i)).setWidth 256 <<< (32 * i))) 0

/-- The key hash in CIS_KEYH (R87): byte i of the hash is byte i mod 4 of word i / 4. -/
def State.keyhReg (s : State) : BitVec 256 :=
  (List.range 8).foldl (fun acc i =>
    acc ||| ((s.reg (Reg.CIS_KEYH i)).setWidth 256 <<< (32 * i))) 0

/-- The bytes of a key hash in order (R87). -/
def hashBytes (h : BitVec 256) : List Byte := (List.range 32).map (fun i => BitVec.ofNat 8 (h.toNat / 256 ^ i))

/-- The CRC-32C that the key well keeps of a hash (R87). -/
def keyCrcOf (h : BitVec 256) : Word := BitVec.ofNat 32 (crc32c (hashBytes h))

/-- How many free values a reset uses on the Cistern: one for a data write that it cuts off, the well's bits of a
FUSE_KEY, or which way a change of the directory went. -/
def State.cisCutUses (s : State) : Nat :=
  (if s.cis.dataBusy then 1 else 0) +
  (match s.cis.running with
    | some .fuseKey => 10
    | some (.verify _) => 0
    | some _ => 1
    | none => 0)

/-- The key well after a FUSE_KEY that a reset has cut off (R87): hash, CRC and lock bit are programmed in this order,
so some bits of the hash stand, or all of it and some bits of the CRC; the lock bit does not (log entry 23). -/
def State.wellCut (s : State) : BitVec 256 × Word :=
  if s.cis.keyHash &&& ~~~s.keyhReg ≠ 0 ∨ s.cis.keyCrc &&& ~~~(keyCrcOf s.keyhReg) ≠ 0 then (s.cis.keyHash, s.cis.keyCrc)
  else if Config.freeBit (s.free + 8) then
    (s.keyhReg, s.cis.keyCrc ||| (keyCrcOf s.keyhReg &&& Config.freeWord (s.free + 9)))
  else (s.cis.keyHash ||| (s.keyhReg &&& s.freeBits), s.cis.keyCrc)

/-- The Cistern after a reset: a command or data write in progress is cut off (R81, R87, R90). A journal entry that was
being written may have become complete, which decides what the next boot finds; the word of a data write is a free
value (log entry 23). -/
def State.cisCleared (s : State) : Cistern :=
  let c := s.cis
  let w := Config.freeWord (s.free + s.cisCutUses - 1)
  { c with
    running := none, dataBusy := false, heldData := [], remapping := none,
    bytes := if c.dataBusy then c.bytes.write c.dataAt 4 w.toNat else c.bytes
    journal := if c.running.isSome && c.running ≠ some .fuseKey then
        c.journal.map (fun j => { j with complete := Config.freeBit s.free }) else c.journal
    keyHash := if c.running = some .fuseKey then s.wellCut.1 else c.keyHash
    keyCrc := if c.running = some .fuseKey then s.wellCut.2 else c.keyCrc }

/-- A channel is enabled in CHEN. -/
def State.chEn (s : State) (c : Fin 2) : Bool :=
  s.fb (if c = 0 then Fld.KNR_CTL_CHEN1 else Fld.KNR_CTL_CHEN2)

/-- The two channels. -/
def chans2 : List (Fin 2) := [0, 1]

/-- The channels on which Knaor is transmitting, a frame that the Weir lets out or a wake pattern. -/
def State.txChannels (s : State) : List (Fin 2) :=
  chans2.filter (fun c =>
    (s.chEn c && (match s.knr.sending with | some f => !f.high.isEmpty | none => false)) ||
      s.knr.waking.any (fun w => w.1 == c))

/-- TXEN falls on them before their end (R320, R321). -/
def State.cutSent (s : State) : List Sent := s.sent ++ s.txChannels.map Sent.txenCut

/-- The state that a reset or a low-power entry leaves of the lane die: everything marked L in R121
at its Reset value, what is marked S kept. The spillway goes off with DRV_SPWCFG.EN (R271). -/
def State.cleared (s : State) (por keepRet : Bool) : State :=
  State.setF (x := Fld.DRV_STAT_SPW_ON) (v := 0)
  { lane := s.lane, variant := s.variant, pending := s.pending, sent := s.cutSent
    free := s.free + s.cisCutUses
    regs := if por then [] else s.regs.filter (fun e => survives e.1)
    mem := if keepRet then s.mem.filter (fun e => isRetention e.1) else []
    ecc := if keepRet then s.ecc.filter isRetention else []
    rst := { s.rst with phase0 := false, injHold := true, core1Entry := 0, succ := 0, wdgOn := false, wdgT0 := 0 }
    whd := if por then {} else s.whd
    cis := s.cisCleared
    drv := { s.drv with posted := [], ov2 := s.drv.ov2 && !por }
    brg := s.brg.map (fun x => x.cleared por)
    safe := { levels := if por then Vector.replicate 9 none else s.safe.levels }
    tap := if por then .testLogicReset else s.tap
    plb := { log := s.plb.kept, kept := s.plb.kept } }

/-- The level sources whose condition holds at the release are pending after the clearing (R235): what
the drive die holds through the reset, VANA's undervoltage (R54), and the links, which are down (R356, R412). -/
def State.relevel (s : State) : State :=
  let s1 := s.each bridges (fun t b => t.level (64 + 4 * b) (t.bridge b).latch.held)
  let s2 := (((s1.level 85 (s.fb Fld.DRV_STAT_OV2)).level 86 (s.fb Fld.DRV_STAT_OV3)).level 87
    (s.fb Fld.DRV_STAT_SPILL_FAULT)).level 88 (!s.drv.vdrvOk)
  let s3 := (s2.setB Fld.PWR_BOW_VANA_UV s.rst.vanaUv).level 3 s.rst.vanaUv
  ((s3.level 164 true).level 165 true).level 192 true

/-- A reset is asserted (R119, R120). -/
def State.assertReset (s : State) (k : ResetKind) : State :=
  let kind := joinReset s.rst.asserted k
  let pw := decide (s.whd.phase ≠ .awake ∧ s.whd.phase ≠ .armed)
  let c := s.cleared (k == ResetKind.por) (k == ResetKind.soft && !s.inReset && !pw)
  let s1 := { c with rst := { c.rst with asserted := some kind, porHold := c.rst.porHold || (k == ResetKind.por) },
                     whd := { c.whd with phase := .awake, wakeSrc := none, tries := 0, target := 0,
                                             sameEdge := false, xtalOn := false, xtalOk := false } }
  (s1.each (List.range 7) (fun t n => t.setF (Fld.WHD_WATCH_ARMED n) 0)).settleAll

/-! ### Safe inputs as the lane reads them -/

/-- What a pair reads (R393): none before both lines have a level. -/
inductive PairRead where
  | normal | demand | equal
deriving DecidableEq, Repr

/-- The reading of safe-input pair `i`. -/
def State.pairRead (s : State) (i : Fin 4) : Option PairRead :=
  match s.safe.levels[2 * i.val], s.safe.levels[2 * i.val + 1] with
  | some a, some b => some (if a && !b then .normal else if !a && b then .demand else .equal)
  | _, _ => none

/-- A bit of a field. -/
def State.fbit (s : State) (x : Field) (i : Nat) : Bool := s.f x / 2 ^ i % 2 == 1

/-- The pair is used (R394). -/
def State.pairUsed (s : State) (i : Fin 4) : Bool := s.fbit Fld.SAFE_CFG_USE i
/-- The pair is of kind PARK (R394). -/
def State.pairPark (s : State) (i : Fin 4) : Bool := s.fbit Fld.SAFE_CFG_PARK i

/-- The four pairs. -/
def pairs : List (Fin 4) := [0, 1, 2, 3]

/-- STOPDEM: 1 before SEAL, then the OR of the latches of the used STOP pairs (R394, R397). -/
def State.stopDem (s : State) : Bool :=
  !s.sealed || pairs.any (fun i => s.pairUsed i && !s.pairPark i && s.fbit Fld.SAFE_STAT_LATCH i)

/-- OK: the safe inputs are normal and acknowledged (R399). -/
def State.safeOk (s : State) : Bool :=
  s.sealed && pairs.any (fun i => s.pairUsed i && !s.pairPark i) &&
  pairs.all (fun i => !(s.pairUsed i && !s.pairPark i) ||
    (s.pairRead i == some .normal && !s.fbit Fld.SAFE_STAT_LATCH i && !s.fbit Fld.SAFE_STAT_DISCF i))

/-- PARKED: the park input is asserted (R403). -/
def State.parked (s : State) : Bool :=
  s.sealed && pairs.any (fun i => s.pairUsed i && s.pairPark i) &&
  pairs.all (fun i => !(s.pairUsed i && s.pairPark i) ||
    (s.pairRead i == some .demand && !s.fbit Fld.SAFE_STAT_DISCF i))

/-- Output pair `k` is energised (R404). -/
def State.outOn (s : State) (k : Fin 2) : Bool :=
  s.sealed && s.fbit Fld.SAFE_CFG_OUTUSE k && s.fbit Fld.SAFE_OUT_RUN k &&
  !s.fbit Fld.SAFE_STAT_RBF k &&
  (!s.fbit Fld.SAFE_CFG_FOLLOW k ||
    (!s.stopDem && !s.fb Fld.SYS_MODE_STOPPING && s.md != mSAFEHOLD))

/-- The stop pairs that this lane cannot read: used, of kind STOP, with DISCF set (R395, R396). -/
def State.unreadable (s : State) : BitVec 4 :=
  BitVec.ofNat 4 (pairs.foldl (fun acc i =>
    if s.pairUsed i && !s.pairPark i && s.fbit Fld.SAFE_STAT_DISCF i then acc + 2 ^ i.val else acc) 0)

/-! ### Modes -/

/-- REQST set. -/
def State.reqst (s : State) (v : Nat) : State := s.setF Fld.SYS_MODE_REQST v

/-- A core that SLEEP has suspended continues (R147). -/
def EngState.wakeUp (x : EngState) : EngState :=
  if x.run = .sleeping then { x with run := .running } else x

/-- The pair continues after SLEEP. -/
def State.endSleep (s : State) : State :=
  (s.updEng .msp0 EngState.wakeUp).updEng .msp1 EngState.wakeUp

/-- The pending request ends with a result (R28), and SLEEP with it; source 7 says that it was evaluated, which a
superseded one is not (R229). -/
def State.endRequest (s : State) (v : Nat) : State :=
  let s1 := { s with mode := { s.mode with request := none, marks := 0, lpWait := false } }.reqst v
  (if v = 5 then s1 else s1.raise 7).endSleep

/-- Baselining ends without a baseline (R431). -/
def State.abortBaseline (s : State) : State :=
  if s.fb Fld.PLB_STAT_BUSY then (s.setF Fld.PLB_STAT_BUSY 0).setF Fld.PLB_STAT_BRES 5 else s

/-- The reserve's self-test runs only in SERVICE (R26). -/
def State.endSelfTest (s : State) : State := { s with plb := { s.plb with selfTest := false } }

/-- A mode transition with its cause (R26, R27): the catch units abort, RUN of every bridge clears
outside the driving modes (R277), and leaving SAFE-HOLD clears SCAUSE (R34). -/
def State.setMode (s : State) (m cause : Nat) : State :=
  let old := s.md
  let s1 := ((s.setF Fld.SYS_MODE_PREV old).setF Fld.SYS_MODE_MODE m).setF Fld.SYS_MODE_CAUSE cause
  let s2 := s1.each bridges State.abortCatch
  let s3 := if isRun m || m == mSAFEHOLD || m == mSERVICE then s2 else s2.inertBridges
  let s4 := if old == mSAFEHOLD then s3.setF Fld.SYS_MODE_SCAUSE 0
    else if old == mSERVICE then s3.abortBaseline.endSelfTest else s3
  let s5 := if m == mSAFEHOLD || !isRun m then
      { s4.setF Fld.SYS_MODE_STOPPING 0 with mode := { s4.mode with stopDone := false } } else s4
  s5.raise 6

/-- A role set, with its source (R358). -/
def State.setRole (s : State) (r : Nat) : State :=
  if s.f Fld.SYS_MODE_ROLE = r then s else (s.setF Fld.SYS_MODE_ROLE r).raise 168

/-- The stop program starts with its cause; a later trigger does not change SCAUSE (R32, R34). -/
def State.setStopping (s : State) (scause : Nat) : State :=
  if s.fb Fld.SYS_MODE_STOPPING then s
  else ({ s with mode := { s.mode with stopDone := false } }.setF Fld.SYS_MODE_SCAUSE scause).setF
    Fld.SYS_MODE_STOPPING 1

/-- Knaor STATE codes (R336). -/
def State.knrState (s : State) : Nat := s.f Fld.KNR_STAT_STATE

/-- The lane has turn marks: Knaor ACTIVE, PASSIVE or HOLD (R334). -/
def State.hasMarks (s : State) : Bool := decide (4 ≤ s.knrState)

/-- KSYNC (R336): in ACTIVE and PASSIVE, and in INTEGRATING after the first consistent turn. -/
def State.ksync (s : State) : Bool :=
  s.knrState == 4 || s.knrState == 5 || (s.knrState == 3 && s.knr.ksyncSeen)

/-- Both Knaor channels of the lane are lost (R342). -/
def State.bothLost (s : State) : Bool := s.fb Fld.KNR_STAT_K1LOST && s.fb Fld.KNR_STAT_K2LOST

/-! ### Leats and roles -/

/-- The peer at an end of a Leat (R353). -/
def State.peerAt (s : State) (i : Fin 2) : Lane :=
  match s.lane, i with
  | .A, 0 => .B | .A, _ => .C | .B, 0 => .C | .B, _ => .A | .C, 0 => .A | .C, _ => .B

/-- Whether a Leat exists: on the FPX-2L1296 only A-B does (R353). -/
def State.leatExists (s : State) (i : Fin 2) : Bool :=
  match s.variant with
  | .fpx3 => true
  | .fpx2 => (s.lane == .A && i == 0) || (s.lane == .B && i == 1)

/-- Whether a Leat is up. -/
def State.leatUp (s : State) (i : Fin 2) : Bool :=
  s.fb (if i = 0 then Fld.LEAT_LINK_UP0 else Fld.LEAT_LINK_UP1)

/-- What the lane holds of a peer. -/
def State.peer (s : State) (l : Lane) : Peer := s.leat.peers[(laneIdx l).val]

/-- A function applied to what the lane holds of a peer. -/
def State.updPeer (s : State) (l : Lane) (h : Peer → Peer) : State :=
  { s with leat := { s.leat with peers := s.leat.peers.set (laneIdx l).val (h (s.peer l)) } }

/-- The end that goes directly to a lane. -/
def State.endTo (s : State) (l : Lane) : Fin 2 := if s.peerAt 0 = l then 0 else 1

/-- Whether a lane is connected (R357): over its own Leat, or through the third lane, whose STATUS
reports its Leat to that lane healthy. -/
def State.connected (s : State) (l : Lane) : Bool :=
  if l = s.lane then true
  else
    let i := s.endTo l
    let j : Fin 2 := if i = 0 then 1 else 0
    s.leatUp i ||
    (s.leatUp j &&
      match (s.peer (s.peerAt j)).status with
      | some t => if i = 0 then t.rxOk1 else t.rxOk0
      | none => false)

/-- CONN (R357, LEAT_LINK): the lane's own bit reads 1 once EN = 1. -/
def State.connBits (s : State) : Nat :=
  lanes.foldl (fun acc l =>
    if (if l = s.lane then s.fb Fld.LEAT_CFG_EN else s.connected l) then acc + 2 ^ (laneIdx l).val
    else acc) 0

/-- The peer lanes. -/
def State.peers (s : State) : List Lane := lanes.filter (fun l => l ≠ s.lane)

/-- Whether the lane itself counts as driving: lead or follower, in a RUN mode or in SAFE-HOLD, where roles, copies
and comparison carry on under the same rules (R358; DEDUCED, log entry 63). -/
def State.drives (s : State) : Bool := (s.inRun || s.md = mSAFEHOLD) && decide (2 ≤ s.f Fld.SYS_MODE_ROLE)

/-- The lanes driving (LEAT_ROLE.DRIVING), bits A, B, C. -/
def State.drivingBits (s : State) : Nat :=
  lanes.foldl (fun acc l =>
    if (if l = s.lane then s.drives else (s.peer l).driving) then acc + 2 ^ (laneIdx l).val else acc) 0

/-- CIS_VERCMP.EQ of a lane. -/
def State.versionEq (s : State) (l : Lane) : Bool :=
  l == s.lane || s.fbit Fld.CIS_VERCMP_EQ (laneIdx l)

/-- The lane is lead-eligible (R359), which a lane that has lost both Knaor channels never is (R388). -/
def State.eligible (s : State) : Bool :=
  !s.fb Fld.SYS_MODE_SPLIT && decide (2 ≤ s.f Fld.SYS_MODE_ROLE) && s.knrState == 4 && !s.bothLost &&
  s.peers.all (fun l => !(s.peer l).driving || s.versionEq l) &&
  (s.fb Fld.LEAT_ROLE_FOUNDER || decide (1000 ≤ s.f Fld.LEAT_ROLE_CLEAN))

/-- A peer's eligibility as the lane reads it (R359): a STATUS sent before the turn mark that gave
the peer its role is read as reporting that role and the eligibility that follows from it. -/
def State.peerElig (s : State) (l : Lane) : Bool :=
  match (s.peer l).given with
  | some (_, e) => e
  | none => match (s.peer l).status with
    | some t => t.elig
    | none => false

/-- Whether a lane counts as driving or holding with a role: the lane itself, or a peer that is a
member. -/
def State.member (s : State) (l : Lane) : Bool :=
  if l = s.lane then s.drives
  else (s.peer l).driving

/-- The eligibility of any lane. -/
def State.eligOf (s : State) (l : Lane) : Bool := if l = s.lane then s.eligible else s.peerElig l

/-- The eligibility of a lane in its latest STATUS (R359, R376); of the lane itself, as it stands before it has sent one. -/
def State.statusElig (s : State) (l : Lane) : Bool :=
  if l = s.lane then s.leat.ownElig.getD s.eligible else s.peerElig l

/-- The lanes that are lead-eligible in their latest STATUS, bits A, B, C. -/
def State.eligMask (s : State) : BitVec 3 :=
  BitVec.ofNat 3 (lanes.foldl (fun acc l => if s.statusElig l then acc + 2 ^ (laneIdx l).val else acc) 0)

/-- A peer's role as the lane reads it. -/
def State.peerRole (s : State) (l : Lane) : Nat :=
  match (s.peer l).given with
  | some (r, _) => r.toNat
  | none => match (s.peer l).status with
    | some t => t.role.toNat
    | none => 0

/-- The lane may become a forming lead: lockstep and Knaor ACTIVE (R361). -/
def State.mayLead (s : State) : Bool := !s.fb Fld.SYS_MODE_SPLIT && s.knrState == 4

/-- The lane runs on the Knaor-corrected timebase, as every RUN mode requires (R20). -/
def State.onKnaor (s : State) : Bool := s.f Fld.SYS_TBSEL_ACTIVE == 2

/-- The lane qualifies under R20 and R29 as far as it alone decides: Knaor-corrected timebase, ENA high, free of
drive fault latches, safe inputs normal. -/
def State.selfQualifies (s : State) : Bool :=
  s.onKnaor && s.drv.ena && bridges.all (fun b => !(s.bridge b).latch.held) && s.safeOk

/-- The succession order of the running image (R83; A, B, C when none is set): kept beside the
registers as the image's SUCC byte. -/
def orderOfSucc (b : Nat) : List Lane :=
  if b = 0 then lanes else ([b % 4, b / 4 % 4, b / 16 % 4].filterMap laneOfCode)

/-- The count of the lane's latest turn mark. -/
def State.markCount (s : State) : BitVec 6 :=
  BitVec.ofNat 6 (if s.knr.marked then s.f Fld.KNR_TIME_TURN else s.f Fld.KNR_TIME_TURN + 63)

/-- The lane's role becomes none (R360): what hangs on it ends, a yield that is due, a promotion that is due and
founding membership (R359, R361; DEDUCED, log entry 63). -/
def State.dropRole (s : State) : State :=
  let s1 := (s.setRole 0).setF Fld.LEAT_ROLE_FOUNDER 0
  { s1 with leat := { s1.leat with leaving := none, promote := false } }

/-- A token sent on every up Leat (R355, R372). -/
def State.sendUp (s : State) (h : Fin 2 → Sent) : State :=
  s.each [0, 1] (fun t i => if t.leatUp i then t.send (h i) else t)

/-- The turn count of the lane's next turn mark: TURN has advanced to it already once macrotick 0 has
passed. -/
def State.nextMark (s : State) : Nat :=
  if s.knr.marked then s.f Fld.KNR_TIME_TURN + 1 else s.f Fld.KNR_TIME_TURN

/-- The first turn count at least 10 µs ahead (R373): the next mark, or the one after where the next
lies nearer than that, which no command tells (DEDUCED, log entry 11). -/
def State.takeTgt (s : State) : BitVec 6 × State :=
  let (late, s1) := s.takeBit
  (BitVec.ofNat 6 (s.nextMark + if late then 1 else 0), s1)

/-- RESIGN by a lead, LEAVE by a follower or observer, on every up Leat (R372, R373). -/
def State.sendDepart (s : State) (k : DepKind) : State :=
  let role := s.f Fld.SYS_MODE_ROLE
  let (tgt, s1) := s.takeTgt
  let tok : DepartTok := ⟨s.lane, k, tgt, s1.bridgeStates, s1.heldStates⟩
  let s2 := { s1 with leat := { s1.leat with departed := some (BitVec.ofNat 2 role, tok) } }
  if role = 3 then s2.sendUp (fun i => .resign i tok)
  else if role = 0 then s
  else s2.sendUp (fun i => .leave i tok)

/-- A resignation or a leaving stops a block in transit (R365). -/
def State.cutCopy (s : State) : State :=
  if s.fb Fld.LEAT_TXCTL_BUSY then (s.sendUp Sent.copyCut).setF Fld.LEAT_TXCTL_BUSY 0 else s

/-- A lane that departs with kind FAULT: a resign or leave with its latches, then the record window
with `ack` as the reset that ends it (R371, R372). A block in transit stops (R365). -/
def State.depart (s : State) (latch : State → State) : State :=
  let s1 := (latch s).inertBridges
  let s2 := (s1.sendDepart .fault).cutCopy.dropRole
  { s2 with
    mode := { s2.mode with window := some .resign, request := none, forming := none } }

/-- The Millstone pair can run the stop program: it compares cleanly and has taken no double fault
(R31). -/
def State.pairClean (s : State) : Bool := !s.fb Fld.MSP_MMSTAT_VALID && !s.mode.dblFault

/-- The lane's reaction to a fault of its own in a RUN mode (R30, R31, R371). -/
def State.ownFault (s : State) : State :=
  if s.mode.window.isSome then s
  else if s.md = mSIMPLEX then
    if s.pairClean then
      { s.setStopping 5 with mode := { (s.setStopping 5).mode with ownFault := true } }
    else s.depart State.safeBridges
  else if s.inRun then s.depart State.resignBridges
  else s

/-- A fault that takes a lane from its role by the rules of roles, copies and comparison (R368, R370, R371, R374),
which SAFE-HOLD keeps (R358). -/
def State.roleFault (s : State) : State :=
  if s.mode.window.isSome then s
  else if s.inRun then s.ownFault
  else s.depart State.resignBridges

/-- Service functions abort with the bridges inert (R29, R223, R398): baselining and the reserve's self-test are
two of them (R26). -/
def State.abortService (s : State) : State := s.inertBridges.abortBaseline.endSelfTest

/-- The reaction to a mismatch or a double fault of the pair, by mode (R156, R223). -/
def State.pairFault (s : State) : State :=
  if s.mode.window.isSome then s
  else if s.md = mTRIPLEX || s.md = mDUPLEX then s.depart State.resignBridges
  else if s.md = mSIMPLEX || s.md = mSAFEHOLD then s.depart State.safeBridges
  else s.depart State.abortService

/-- The owner code of a bridge (PROT_OWNBRG); codes outside the list read as 0, and the engine in
RESERVE owns nothing (R98, R193). -/
def State.ownerOf (s : State) (b : Fin 5) : Nat :=
  let c := (s.reg Reg.PROT_OWNBRG).field (4 * b) 4
  if c = 8 then 8
  else if 1 ≤ c ∧ c ≤ 5 ∧ s.f (Fld.SLU_STAT_STATE (c - 1)) ≠ 4 then c else 0

/-- Whether an engine owns a bridge (R97, R227). -/
def State.owns (s : State) (e : Engine) (b : Fin 5) : Bool :=
  match e with
  | .slu n => s.ownerOf b == n.val + 1
  | .msp0 => s.ownerOf b == 8
  | _ => false

/-- Whether an engine owns any bridge. -/
def State.ownsAny (s : State) (e : Engine) : Bool := bridges.any (fun b => s.owns e b)

/-- The reaction to LOOP_OVERRUN (R202): counted in the health word, then by mode. -/
def State.loopOverrun (s : State) (n : Fin 5) : State :=
  let s1 := (s.raise 5).setF Fld.HLTH_WORD_OVRN 1
  if s1.inRun then s1.ownFault
  else if s1.md = mSERVICE then
    s1.each bridges (fun t b => if t.owns (.slu n) b then t.stopPwm b else t)
  else s1

/-- A function applied to a Sluice unit. -/
def State.updSlu (s : State) (n : Fin 5) (h : Sluice → Sluice) : State :=
  { s with slu := s.slu.set n.val (h s.slu[n.val]) }

/-- The reserve can take an engine's place (R436, R438). -/
def State.reserveFree (s : State) : Bool :=
  s.f Fld.PLB_SPARE_RESIDX != 7 && !s.fb Fld.PLB_SPARE_RESBAD && s.plb.priming.isNone &&
    s.f Fld.PLB_SPARE_RETIDX == 7

/-- Priming in place of a halted engine is decided on (R436): it takes the reserve from a wear
retirement that is pending for another engine, which becomes worn. -/
def State.startPrime (s : State) (n : Fin 5) : State :=
  if !s.reserveFree || s.f (Fld.SLU_STAT_STATE n) != 3 then s
  else
    let s1 := match s.plb.pendSite with
      | some m =>
        let t := s.setF Fld.PLB_SPARE_PEND 0
        if m = n then t else t.setF (Fld.PLB_SITE_STATE (2 + m.val)) 3
      | none => s
    { s1 with plb := { s1.plb with priming := some n, pendSite := none, retireDue := false } }

/-- The lane's reaction to the halt of an engine that owns a bridge (R204). -/
def State.haltReact (s : State) (n : Fin 5) : State :=
  if !s.ownsAny (.slu n) then s
  else if s.inRun then s.ownFault
  else if s.md = mSAFEHOLD then
    s.each bridges (fun t b => if t.owns (.slu n) b then (t.latchResign b (t.safeState b)).stopPwm b else t)
  else if s.md = mSERVICE then
    s.each bridges (fun t b => if t.owns (.slu n) b then t.stopPwm b else t)
  else s

/-- A Sluice engine halts (R204); AUTOPRIME primes the reserve at once (R436). -/
def State.haltSluice (s : State) (n : Fin 5) (cause : Nat) : State :=
  let s1 := (s.updEng (.slu n) (fun x => { x with run := .halted }))
  let s2 := s1.updSlu n (fun x => { x with
    inputs := x.inputs.map (fun i => { i with pend := false, filling := false, ready := false, due := 0 }) })
  let s3 := (((s2.setF (Fld.SLU_STAT_STATE n) 3).setF (Fld.SLU_STAT_EVAL n) 0).setF
    (Fld.SLU_STAT_PEND n) 0).setF (Fld.SLU_STAT_HCAUSE n) cause
  let s4 := s3.level (32 + 6 * n.val + 3) true
  (if s4.fb Fld.PLB_CFG_AUTOPRIME then s4.startPrime n else s4).haltReact n

end Sys2Proof.Machine
end

