-- ==== Sys2Proof/Machine/Except.lean ====
section
/-!
DEFINITION. The address map as an engine sees it (R138, R190, R191, R213), the region check (R97),
taking an exception (R152-R156) and the return from one (R157), and what lets an engine issue.
-/

namespace Sys2Proof.Machine

/-- The pair runs in lockstep: before SEAL, and after it in a lane that is not split (R99, R227). -/
def State.lockstep (s : State) : Bool := !s.fb Fld.SYS_MODE_SPLIT

/-- Where an engine's address lies: memory at a lane address (`shared` says the lane's SRAM or the
retention bank, `own` the engine's local memory, `sine` the read-only sine area), the register
space, a reserved range that reads zero (R213), or nowhere. -/
inductive Loc where
  | mem (lane : Nat) (shared own sine : Bool)
  | regs
  | zero
  | none
deriving DecidableEq, Repr

/-- The lane address space but for an engine's local view. -/
def laneLoc (lockstep : Bool) (a : Nat) : Loc :=
  if 0x10000000 ≤ a ∧ a < 0x10240000 then .mem a true false false
  else if 0x20000000 ≤ a ∧ a < 0x200A0000 then
    let off := (a - 0x20000000) % 0x20000
    if off < 0x17000 then .mem a false false false
    else if off < 0x18000 then .mem a false false true
    else .none
  else if 0x20100000 ≤ a ∧ a < 0x20147000 then .mem a false false false
  else if 0x20147000 ≤ a ∧ a < 0x20148000 then .mem a false false true
  else if 0x20180000 ≤ a ∧ a < 0x201C8000 then
    if lockstep then .zero
    else .mem a false false (decide (0x201C7000 ≤ a))
  else if 0x40000000 ≤ a ∧ a < 0x40780000 then .regs
  else .none

/-- Where an engine's own address lies (R190, R191, R213). -/
def State.locate (s : State) (e : Engine) (a : Nat) : Loc :=
  match e with
  | .slu n =>
    let base := 0x20000000 + n.val * 0x20000
    if a < 0x17000 then .mem (base + a) false true false
    else if a < 0x18000 then .mem (base + a) false true true
    else if a < 0x18100 then .mem (base + a) false true true
    else if 0x40000000 ≤ a ∧ a < 0x40780000 then .regs
    else .none
  | .msp0 =>
    if a < 0x47000 then .mem (0x20100000 + a) false true false
    else if a < 0x48000 then .mem (0x20100000 + a) false true true
    else laneLoc s.lockstep a
  | .msp1 =>
    if a < 0x47000 then .mem (0x20180000 + a) false true false
    else if a < 0x48000 then .mem (0x20180000 + a) false true true
    else laneLoc s.lockstep a
  | _ => laneLoc s.lockstep a

/-- The kinds of access that regions grant (R98). -/
inductive AccKind where
  | rd | wr | ex
deriving DecidableEq, Repr

/-- Region `n` contains the address and grants the engine the access at its level (R97, R98). -/
def State.regionGrants (s : State) (e : Engine) (k : AccKind) (a n : Nat) : Bool :=
  let at_ := s.reg (Reg.PROT_REGION_ATTR n)
  at_.bit 31 &&
  decide ((s.reg (Reg.PROT_REGION_BASE n)).field 12 20 ≤ a / 4096) &&
  decide (a / 4096 ≤ (s.reg (Reg.PROT_REGION_LIMIT n)).field 12 20) &&
  (match k with | .rd => at_.bit 0 | .wr => at_.bit 1 | .ex => at_.bit 2) &&
  (at_.bit 3 || s.super e) &&
  (match e with
    | .msp0 => at_.bit 8 | .msp1 => at_.bit 8 | .miller => at_.bit 9
    | .flume => at_.bit 10 && !(decide (0x40500000 ≤ a ∧ a < 0x40580000))
    | .slu _ => false)

/-- The regions permit an access (R97; before SEAL none is checked, R96; they do not apply to a
Sluice engine, R191). -/
def State.permits (s : State) (e : Engine) (k : AccKind) (a : Nat) : Bool :=
  match e with
  | .slu _ => true
  | _ => !s.sealed || (List.range 16).any (fun n => s.regionGrants e k a n)

/-- Whether a location is checked against the regions: everything but the engine's local memory, and an address in no
memory, which no region covers (R97, R138). -/
def Loc.checked : Loc → Bool
  | .mem _ _ own _ => !own
  | .none => false
  | _ => true

/-- A load from another place than the engine's own memory is an asynchronous input (R216). -/
def Loc.outside : Loc → Bool
  | .mem _ _ own _ => !own
  | .regs => true
  | _ => false

/-- An exception as it is raised: CODE, INFO, what cw.badaddr takes, and where cw.epc points. -/
structure Exc where
  code : Nat
  info : Nat := 0
  bad  : Option Word := none
  epcOff : Nat := 0
deriving DecidableEq, Repr

/-- Whether an engine has two levels (R125). -/
def twoLevel : Engine → Bool
  | .msp0 => true | .msp1 => true | .miller => true | _ => false

/-- The entry of an exception or event (R153): the registers saved, the level raised, the pc at the
vector. -/
def EngState.enter (x : EngState) (two : Bool) (c : Exc) : EngState :=
  let fromTask := !x.psw.bit 9
  let psw1 := (x.psw.put 10 1 1).put 8 1 0
  { x with
    epsw := x.psw
    epc := x.pc + BitVec.ofNat 32 c.epcOff
    cause := BitVec.ofNat 32 (c.code + c.info % 4096 * 256 + (if fromTask then 2 ^ 31 else 0))
    badaddr := c.bad.getD x.badaddr
    psw := if two then psw1.put 9 1 1 else psw1
    pc := x.vec + (if c.code = 0x10 then 0x80 else 0) }

/-- Both Millstone cores stop issuing (R222). -/
def State.stopPair (s : State) : State :=
  (s.updEng .msp0 (fun x => { x with run := .stopped })).updEng .msp1 (fun x => { x with run := .stopped })

/-- A double fault (R156). -/
def State.doubleFault (s : State) (e : Engine) (code : Nat) : State :=
  match e with
  | .slu n => s.haltSluice n code
  | .miller => (s.updEng .miller (fun x => { x with run := .halted })).level 12 true
  | .flume => ((s.updEng .flume (fun x => { x with run := .halted })).level 13 true).ownFault
  | _ =>
    let s1 := { s with mode := { s.mode with dblFault := true } }
    s1.stopPair.pairFault

/-- Taking an exception (R153), or the double fault where EXL = 1 (R156). -/
def State.takeExc (s : State) (e : Engine) (c : Exc) : State :=
  if (s.eng e).psw.bit 10 then s.doubleFault e c.code
  else s.updEng e (fun x => x.enter (twoLevel e) c)

/-- The return from an exception (R157). -/
def EngState.rett (x : EngState) (two : Bool) : EngState :=
  { x with pc := x.epc, psw := if two then x.epsw else x.epsw.put 9 1 1, retired := x.retired + 1 }

/-- An EVENT entry is due: IE = 1 and an enabled source is pending (R155). -/
def State.eventDue (s : State) (e : Engine) : Bool := (s.eng e).psw.bit 8 && s.eventPending e

/-- A CIS_DATA write of the engine is held until the Cistern can take it (R90). -/
def State.held (s : State) (e : Engine) : Bool := s.cis.heldData.any (fun x => x.1 == e)

/-- The engine issues its next instruction: the lane is powered and out of reset, the engine runs
(core 1 only in a split pair, R215), no access of it is held (R90), and no EVENT entry comes first (R155). -/
def State.canIssue (s : State) (e : Engine) : Bool :=
  s.live && (s.eng e).run == .running && !(e == .msp1 && s.lockstep) && !s.held e && !s.eventDue e

/-! ### Uncorrectable errors (R152, R214) -/

/-- The word that holds a byte of memory. -/
def wordBase (la : Nat) : Nat := la / 4 * 4

/-- The word at a lane address holds an uncorrectable error, in the copy that a read returns. -/
def State.bad0 (s : State) (la : Nat) : Bool := s.ecc.contains (wordBase la)

/-- The word holds one in core 1's copy. -/
def State.bad1 (s : State) (la : Nat) : Bool := s.ecc1.contains (wordBase la)

/-- The memories of which each core of the pair has a copy, at core 0's lane addresses (R213). -/
def inPair (la : Nat) : Bool := decide (0x20100000 ≤ la ∧ la < 0x20148000)

/-- The engine is the pair in lockstep. -/
def State.paired (s : State) (e : Engine) : Bool := isMsp0 e && s.lockstep

/-- The pair's two copies of a word differ in whether they hold an uncorrectable error, so that one core alone would
raise ECC (R214). -/
def State.oneCopy (s : State) (e : Engine) (la : Nat) : Bool :=
  s.paired e && inPair la && (s.bad0 la != s.bad1 la)

/-- What a fetch of one word at `a` raises: BUS or ECC, then FETCH_PROT (R152, R154). -/
def State.fetchWordExc (s : State) (e : Engine) (a : Word) : Option Exc :=
  match s.locate e a.toNat with
  | .none => some { code := 8, info := 0, bad := some a }
  | l =>
    let spoiled := match l with
      | .mem la _ _ _ => s.bad0 la
      | _ => false
    if spoiled then some { code := 0x0A, info := 0, bad := some a }
    else if l.checked && !s.permits e .ex a.toNat then some { code := 3, bad := some a }
    else none

/-- What the fetch of an instruction of `n` words raises. -/
def State.fetchExc (s : State) (e : Engine) (n : Nat) : Option Exc :=
  let pc := (s.eng e).pc
  match s.fetchWordExc e pc with
  | some c => some c
  | none => if n = 2 then s.fetchWordExc e (pc + 4) else none

/-- A word of the instruction holds an error in one copy only. -/
def State.fetchOneCopy (s : State) (e : Engine) (n : Nat) : Bool :=
  let one (a : Word) : Bool := match s.locate e a.toNat with
    | .mem la _ _ _ => s.oneCopy e la
    | _ => false
  one (s.eng e).pc || (n == 2 && one ((s.eng e).pc + 4))

/-- A pc that is not word-aligned raises ALIGN_FETCH (R157). -/
def State.alignFetch (s : State) (e : Engine) : Option Exc :=
  let pc := (s.eng e).pc
  if pc.toNat % 4 ≠ 0 then some { code := 6, bad := some pc } else none

/-- An instruction retires: the pc moves past its `n` words and cw.retired counts it (R136). -/
def EngState.next (x : EngState) (n : Nat) : EngState :=
  { x with pc := x.pc + BitVec.ofNat 32 (4 * n), retired := x.retired + 1 }

end Sys2Proof.Machine
end

