-- ==== Sys2Proof/Machine/Flags.lean ====
section
/-!
DEFINITION. The integer flags (R128) and the results that write them: additions, subtractions,
shifts, products, divisions and counts (R132-R134). An `AluFn` takes both operands and PSW and gives
the result with the new PSW.
-/

namespace Sys2Proof.Machine

/-- Operand a, operand b and PSW to the result and the new PSW. -/
abbrev AluFn := Word → Word → Word → Word × Word

/-- PSW with one flag replaced; N is bit 0, Z 1, C 2, V 3, Q 4, SAT 5. -/
def setFlag (psw : Word) (i : Nat) (b : Bool) : Word := psw.put i 1 (Word.ofBool b)

/-- N and Z from a result (R128). -/
def flagsNZ (psw r : Word) : Word := setFlag (setFlag psw 0 (r.bit 31)) 1 (r == 0)

/-- N, Z, C and V. -/
def flagsNZCV (psw r : Word) (c v : Bool) : Word := setFlag (setFlag (flagsNZ psw r) 2 c) 3 v

/-- a + b + cin with its carry and signed overflow (R128). -/
def addFlags (cin : Bool) : AluFn := fun a b psw =>
  let t := a.toNat + b.toNat + Word.ofBool cin
  let r := BitVec.ofNat 32 t
  let z := a.toInt + b.toInt + (if cin then 1 else 0)
  (r, flagsNZCV psw r (decide (2 ^ 32 ≤ t)) (decide (r.toInt ≠ z)))

/-- a - b - (1 - cin): C is 1 when no borrow occurred (R128). -/
def subFlags (cin : Bool) : AluFn := fun a b psw =>
  let bor := if cin then 0 else 1
  let r := a - b - BitVec.ofNat 32 bor
  let z := a.toInt - b.toInt - bor
  (r, flagsNZCV psw r (decide (b.toNat + bor ≤ a.toNat)) (decide (r.toInt ≠ z)))

/-- A signed number held to the 32-bit range, and whether it had to be. -/
def sat32 (z : Int) : Word × Bool :=
  if z < -(2 ^ 31) then (0x80000000, true)
  else if 2 ^ 31 - 1 < z then (0x7FFFFFFF, true)
  else (BitVec.ofInt 32 z, false)

/-- N and Z from a saturated result; Q sets where it saturated and never clears (R132). -/
def satFlags (psw : Word) (rs : Word × Bool) : Word × Word :=
  let p := flagsNZ psw rs.1
  (rs.1, if rs.2 then setFlag p 4 true else p)

/-- ADDS. -/
def addsFn : AluFn := fun a b psw => satFlags psw (sat32 (a.toInt + b.toInt))
/-- SUBS. -/
def subsFn : AluFn := fun a b psw => satFlags psw (sat32 (a.toInt - b.toInt))

/-- A result that writes N and Z only. -/
def nzFn (h : Word → Word → Word) : AluFn := fun a b psw => (h a b, flagsNZ psw (h a b))
/-- A result that writes Z only. -/
def zFn (h : Word → Word → Word) : AluFn := fun a b psw => (h a b, setFlag psw 1 (h a b == 0))
/-- A result that writes no flag. -/
def plainFn (h : Word → Word → Word) : AluFn := fun a b psw => (h a b, psw)

/-- A shift by `n`: N and Z from the result, C the last bit shifted out, unchanged for n = 0
(R132). -/
def shiftFlags (r psw : Word) (n : Nat) (out : Bool) : Word × Word :=
  (r, if n = 0 then flagsNZ psw r else setFlag (flagsNZ psw r) 2 out)

/-- SHL: the last bit out of the top is bit 32 - n. -/
def shlFn : AluFn := fun a b psw =>
  let n := b.field 0 5
  shiftFlags (a <<< n) psw n (a.bit (32 - n))
/-- SHR: the last bit out of the bottom is bit n - 1. -/
def shrFn : AluFn := fun a b psw =>
  let n := b.field 0 5
  shiftFlags (a >>> n) psw n (a.bit (n - 1))
/-- SAR. -/
def sarFn : AluFn := fun a b psw =>
  let n := b.field 0 5
  shiftFlags (a.sshiftRight n) psw n (a.bit (n - 1))
/-- ROR: the last bit that leaves the bottom is bit n - 1. -/
def rorFn : AluFn := fun a b psw =>
  let n := b.field 0 5
  shiftFlags (a.rotateRight n) psw n (a.bit (n - 1))

/-- The high word of the signed product. -/
def mulhsW (a b : Word) : Word := BitVec.ofInt 32 (a.toInt * b.toInt / 2 ^ 32)
/-- The high word of the unsigned product. -/
def mulhuW (a b : Word) : Word := BitVec.ofNat 32 (a.toNat * b.toNat / 2 ^ 32)

/-- A signed division's exceptional cases (R133). -/
def divExc (a b : Word) : Bool := b == 0 || (a == 0x80000000 && b == 0xFFFFFFFF)

/-- DIV (R133). -/
def divFn : AluFn := fun a b psw =>
  let r : Word := if b = 0 then (if a.bit 31 then 0x80000000 else 0x7FFFFFFF)
    else if a = 0x80000000 ∧ b = 0xFFFFFFFF then 0x7FFFFFFF
    else BitVec.ofInt 32 (a.toInt.tdiv b.toInt)
  (r, setFlag (flagsNZ psw r) 3 (divExc a b))
/-- DIVU (R133). -/
def divuFn : AluFn := fun a b psw =>
  let r : Word := if b = 0 then 0xFFFFFFFF else BitVec.ofNat 32 (a.toNat / b.toNat)
  (r, setFlag (flagsNZ psw r) 3 (b == 0))
/-- REM (R133). -/
def remFn : AluFn := fun a b psw =>
  let r : Word := if b = 0 then a
    else if a = 0x80000000 ∧ b = 0xFFFFFFFF then 0
    else BitVec.ofInt 32 (a.toInt.tmod b.toInt)
  (r, setFlag (flagsNZ psw r) 3 (divExc a b))
/-- REMU (R133). -/
def remuFn : AluFn := fun a b psw =>
  let r : Word := if b = 0 then a else BitVec.ofNat 32 (a.toNat % b.toNat)
  (r, setFlag (flagsNZ psw r) 3 (b == 0))

/-- Leading zeros from bit `n - 1` down. -/
def clzFrom (a : Word) : Nat → Nat
  | 0 => 0
  | n + 1 => if a.bit n then 0 else 1 + clzFrom a n
/-- Trailing zeros from bit `i` up, `n` bits. -/
def ctzFrom (a : Word) (i : Nat) : Nat → Nat
  | 0 => 0
  | n + 1 => if a.bit i then 0 else 1 + ctzFrom a (i + 1) n
/-- Set bits among the low `n`. -/
def popFrom (a : Word) : Nat → Nat
  | 0 => 0
  | n + 1 => (if a.bit n then 1 else 0) + popFrom a n

/-- The bytes in reverse order (REV). -/
def revW (a : Word) : Word :=
  BitVec.ofNat 32 (a.field 0 8 * 2 ^ 24 + a.field 8 8 * 2 ^ 16 + a.field 16 8 * 2 ^ 8 + a.field 24 8)

end Sys2Proof.Machine
end

