-- ==== Sys2Proof/Machine/CogOps.lean ====
section
/-!
DEFINITION. What a Cog channel shows (chapter 13): whether it is configured (R298, R299), its angle
(R309) and its speed (R310-R313) at the present instant, and the repeaters (R317).
-/

namespace Sys2Proof.Machine

/-- The six Cog channels. -/
def cogs : List (Fin 6) := [0, 1, 2, 3, 4, 5]

/-- A channel's hidden state. -/
def State.cogOf (s : State) (c : Fin 6) : Cog := s.cog[c.val]

/-- A function applied to a channel's hidden state. -/
def State.updCog (s : State) (c : Fin 6) (h : Cog → Cog) : State :=
  { s with cog := s.cog.set c.val (h s.cog[c.val]) }

/-- MODE in force: codes outside the table are read as OFF (R298). -/
def State.cogMode (s : State) (c : Fin 6) : Nat :=
  let m := s.f (Fld.COG_CFG_MODE c)
  if m ≤ 4 then m else 0

/-- The channel is configured (R298). -/
def State.cogOn (s : State) (c : Fin 6) : Bool := s.cogMode c != 0

/-- GAPN in force. -/
def State.gapn (s : State) (c : Fin 6) : Nat := max 1 (s.f (Fld.COG_CFG_GAPN c))

/-- Counts per revolution. -/
def State.cpr (s : State) (c : Fin 6) : Nat := s.f (Fld.COG_CPR_CPR c)

/-- CFGERR (R298, R299). -/
def State.cogBad (s : State) (c : Fin 6) : Bool :=
  decide (4 < s.f (Fld.COG_CFG_MODE c)) ||
  (s.cogOn c && (s.cpr c == 0 ||
    decide ((s.reg (Reg.COG_LIMHI c)).toInt < (s.reg (Reg.COG_LIMLO c)).toInt) ||
    (s.cogMode c == 3 && decide (s.cpr c < s.gapn c + 4))))

/-- The pairs that a channel's mode uses, A, B, Z as bits 0-2 (R298). -/
def State.cogPairs (s : State) (c : Fin 6) : Nat :=
  let m := s.cogMode c
  if m = 0 then 0
  else if m = 3 then (if s.fb (Fld.COG_CFG_TDIR c) then 3 else 1)
  else if m = 4 then 7
  else if s.fb (Fld.COG_CFG_ZEN c) then 7 else 3

/-- A wire fault is present. -/
def State.cogWire (s : State) (c : Fin 6) : Bool := s.fb (Fld.COG_STAT_WIRE c)

/-- The channel counts: configured, consistent and without a wire fault. -/
def State.cogCounts (s : State) (c : Fin 6) : Bool := s.live && s.cogOn c && !s.cogBad c && !s.cogWire c

/-- Class S: speed by interval timing (R310). -/
def State.classS (s : State) (c : Fin 6) : Bool := decide (s.cpr c ≤ 4096)

/-- The channel is measured to move: neither still nor unsettled, and free of faults. -/
def State.cogMoves (s : State) (c : Fin 6) : Bool :=
  s.cogOn c && !s.cogBad c && !s.cogWire c && !s.fb (Fld.COG_STAT_STILL c) && !s.fb (Fld.COG_STAT_UNSETTLED c)

/-- Intervals averaged (R312). -/
def avgOf (n : Nat) : Nat := if n = 0 then 1 else if n = 1 then 2 else if n = 2 then 4 else 6

/-- The stamp of an edge of this instant, at the resolution of the filter's sample period (R303): 1/64 µs on the RC
timebase, else 1/256 µs. That the samples fall on whole periods of cw.tnow is DEDUCED, log entry 71. -/
def State.cogStampNow (s : State) : Word :=
  if s.f Fld.SYS_TBSEL_ACTIVE = 0 then s.tnow &&& 0xFFFFFFF0 else s.tnow &&& 0xFFFFFFFC

/-- The time since the latest counted edge, in 1/1024 µs. -/
def State.sinceEdge (s : State) (c : Fin 6) : Nat := (s.tnow - s.reg (Reg.COG_TEDGE c)).toNat

/-- That time at the latest evaluation of the decaying bound (R312): at a capture the present instant, else the latest
of the 1 µs boundary, the latest capture and the edge itself. -/
def State.judgedEdge (s : State) (c : Fin 6) (capture : Bool) : Nat :=
  if capture then s.sinceEdge c
  else
    let boundary := s.tnow.toNat % 1024
    let back := match (s.cogOf c).seen with
      | some t => min boundary (s.age - t)
      | none => boundary
    s.sinceEdge c - back

/-- A capture of the channel's speed: the bound is evaluated again (R312). -/
def State.cogSeen (s : State) (c : Fin 6) : State :=
  let now := s.age
  s.updCog c (fun x => { x with seen := some now })

/-- The magnitude of a class S speed at the present instant, in counts per twelfth of 1/1024 µs, as a
numerator and a denominator (R312); 0 / 1 while no interval is held. -/
def State.countRate (s : State) (c : Fin 6) (capture : Bool) : Nat × Nat :=
  let iv := (s.cogOf c).ivals.take (avgOf (s.f (Fld.COG_CFG_AVG c)))
  let dt := 12 * s.judgedEdge c capture
  match iv with
  | [] => (0, 1)
  | t1 :: _ => if dt ≤ t1 then (iv.length, max 1 (iv.foldl (· + ·) 0)) else (1, dt)

/-- A speed of `num / den` revolutions per second as the Q1.31 word of R311. -/
def State.speedWord (s : State) (c : Fin 6) (neg : Bool) (num den : Nat) : Word :=
  let n := halfEven (num * 2 ^ 31) (den * 2 ^ s.f (Fld.COG_CFG_SCL c))
  (sat32 (if neg then -(n : Int) else n)).1

/-- SPD at the present instant, or as a capture of this instant takes it (R302, R311-R313). -/
def State.cogSpeedAt (s : State) (c : Fin 6) (capture : Bool) : Word :=
  if s.classS c then
    if s.cogMoves c then
      let r := s.countRate c capture
      s.speedWord c (s.fb (Fld.COG_STAT_DIR c)) (r.1 * 12288000000) (s.cpr c * r.2)
    else 0
  else if s.cogOn c && !s.cogBad c && !s.cogWire c then s.reg (Reg.COG_SPD c) else 0

/-- SPD as it reads. -/
def State.cogSpeed (s : State) (c : Fin 6) : Word := s.cogSpeedAt c false

/-- The floor of the part of one count passed since the latest edge, times 2^32 / CPR (R309). -/
def State.interpolated (s : State) (c : Fin 6) (capture : Bool) : Nat :=
  let r := s.countRate c capture
  let dt := 12 * s.sinceEdge c
  -- min (rate * dt, 1 - 2^-10)
  if r.1 * dt * 1024 ≤ 1023 * r.2 then r.1 * dt * 2 ^ 32 / (r.2 * s.cpr c)
  else 1023 * 2 ^ 32 / (1024 * s.cpr c)

/-- ANG at the present instant, or as a capture of this instant takes it (R309). -/
def State.cogAngleAt (s : State) (c : Fin 6) (capture : Bool) : Word :=
  if s.cpr c = 0 then Config.angleNoCpr (s.reg (Reg.COG_POS c))
  else
    let m := (s.reg (Reg.COG_POS c)).toInt % (s.cpr c : Int)
    let a : Int := m * 2 ^ 32 / (s.cpr c : Int)
    let a1 : Int :=
      if s.fb (Fld.COG_CFG_INTERP c) && s.classS c && s.cogMoves c then
        (if s.fb (Fld.COG_STAT_DIR c) then a - s.interpolated c capture else a + s.interpolated c capture)
      else a
    BitVec.ofInt 32 ((s.f (Fld.COG_CFG_AMUL c) + 1) * a1)

/-- ANG as it reads. -/
def State.cogAngle (s : State) (c : Fin 6) : Word := s.cogAngleAt c false

/-- The Hall state of the filter outputs (R305). -/
def Cog.hall (x : Cog) : BitVec 3 :=
  BitVec.ofNat 3 (4 * Word.ofBool x.z + 2 * Word.ofBool x.b + Word.ofBool x.a)

/-- A Hall state that stands for a position. -/
def hallValid (h : BitVec 3) : Bool := h != 0 && h != 7

/-- The repeaters' faults and source 126 (R317). -/
def State.rptUpdate (s : State) : State :=
  let flt (p : Nat) : Nat :=
    if s.fb (Fld.COG_RPT_P_EN p) then
      match cogs.find? (fun c => c.val == s.f (Fld.COG_RPT_P_SRC p)) with
      | some c => if s.cogOn c then s.f (Fld.COG_STAT_WIRE c) else 0
      | none => 0
    else 0
  let s1 := (s.setF Fld.COG_RPT_STAT_RFLT0 (flt 0)).setF Fld.COG_RPT_STAT_RFLT1 (flt 1)
  s1.level 126 (flt 0 + flt 1 != 0)

end Sys2Proof.Machine
end

