-- ==== Sys2Proof/Machine/SluiceOps.lean ====
section
/-!
DEFINITION. The Sluice units' shared operations (chapter 08): source events and triggers (R194-R198),
overruns and the governor's signal (R200-R202, R64, R65), acceptance by WTRG (R197, R199, R201), and
the tail registers (R209).
-/

namespace Sys2Proof.Machine

/-- The four trigger inputs. -/
def inputs4 : List (Fin 4) := [0, 1, 2, 3]

/-- The five physical engines. -/
def sluAll : List (Fin 5) := [0, 1, 2, 3, 4]

/-- A Sluice unit. -/
def State.unit (s : State) (n : Fin 5) : Sluice := s.slu[n.val]

/-- A trigger input. -/
def State.input (s : State) (n : Fin 5) (k : Fin 4) : TrigInput := (s.unit n).inputs[k.val]

/-- A function applied to a trigger input. -/
def State.updInput (s : State) (n : Fin 5) (k : Fin 4) (h : TrigInput → TrigInput) : State :=
  s.updSlu n (fun x => { x with inputs := x.inputs.set k.val (h x.inputs[k.val]) })

/-- The engine's state code (R199). -/
def State.sluState (s : State) (n : Fin 5) : Nat := s.f (Fld.SLU_STAT_STATE n)

/-- The engine takes triggers: EXECUTING or WAITING (R198). -/
def State.sluTakes (s : State) (n : Fin 5) : Bool := s.live && (s.sluState n == 1 || s.sluState n == 2)

/-- The pending bits shown in STAT (R198). -/
def State.showPend (s : State) (n : Fin 5) : State :=
  s.setF (Fld.SLU_STAT_PEND n)
    (inputs4.foldl (fun acc k => if (s.input n k).pend then acc + 2 ^ k.val else acc) 0)

/-- An event of the source of input k: each (DIV + 1)th is a trigger (R195). -/
def State.inputEvent (s : State) (n : Fin 5) (k : Fin 4) : State :=
  s.updInput n k (fun x =>
    if x.divCnt < s.f (Fld.SLU_TRIG_DIV n k) then { x with divCnt := x.divCnt + 1 }
    else { x with divCnt := 0, due := x.due + 1 })

/-- An event of a trigger source (R194): every input that names it counts it. -/
def State.sourceEvent (s : State) (src : Nat) : State :=
  s.each sluAll (fun t n =>
    if !t.sluTakes n then t
    else t.each inputs4 (fun u k => if u.f (Fld.SLU_TRIG_SRC n k) = src then u.inputEvent n k else u))

/-- A signal of eight overruns (R64, R65); during baselining it does nothing (R431). -/
def State.governorSignal (s : State) (n : Fin 5) : State :=
  if s.fb Fld.PLB_STAT_BUSY then s
  else
    let raw := 20 + s.f Fld.PWR_GOV_WEAR + s.f Fld.PWR_GOV_OVR
    let ceil := s.f Fld.PWR_GOV_CEIL
    let target := min ceil (max (s.f Fld.PWR_GOV_FLOOR) raw)
    if !s.fb Fld.PWR_GOV_EN || s.fb Fld.PWR_STAT_PMBUS_TIMEOUT || s.fb Fld.PWR_STAT_PMBUS_ERR ||
        target = ceil || ceil < raw + 5 then s.loopOverrun n
    else s.setF Fld.PWR_GOV_OVR (min 50 (s.f Fld.PWR_GOV_OVR + 5))

/-- An overrun (R200, R201): every eighth since CONS last cleared is a signal. -/
def State.overrun (s : State) (n : Fin 5) : State :=
  let s1 := (s.satAdd (Fld.SLU_OVRN_TOTAL n) 1).satAdd (Fld.SLU_OVRN_CONS n) 1
  let s2 := s1.setF (Fld.SLU_OVRN_CONSMAX n) (max (s1.f (Fld.SLU_OVRN_CONSMAX n)) (s1.f (Fld.SLU_OVRN_CONS n)))
  let c := (s.unit n).overCnt + 1
  let s3 := s2.updSlu n (fun x => { x with overCnt := c })
  if c % 8 = 0 then s3.governorSignal n else s3

/-- The source of an input is a sampling set (R194). -/
def State.fromSet (s : State) (n : Fin 5) (k : Fin 4) : Bool :=
  let src := s.f (Fld.SLU_TRIG_SRC n k)
  decide (1 ≤ src ∧ src ≤ 16)

/-- The channel that TRIG[k].COG names. -/
def State.trigChannel (s : State) (n : Fin 5) (k : Fin 4) : Option (Fin 6) :=
  cogs.find? (fun c => c.val == s.f (Fld.SLU_TRIG_COG n k))

/-- Its angle and its speed, captured at this instant (R197, R314). -/
def State.trigCog (s : State) (n : Fin 5) (k : Fin 4) : Word × Word :=
  match s.trigChannel n k with
  | some c => (s.cogAngleAt c true, s.cogSpeedAt c true)
  | none => (0, 0)

/-- The capture noted (R312). -/
def State.trigSeen (s : State) (n : Fin 5) (k : Fin 4) : State :=
  match s.trigChannel n k with
  | some c => s.cogSeen c
  | none => s

/-- A trigger of input k at this instant (R196, R200): its back buffer is replaced, and an input that
was filling, pending or being evaluated counts an overrun. -/
def State.trigger (s : State) (n : Fin 5) (k : Fin 4) (vmot : Word) : State :=
  let x := s.input n k
  let busy := x.filling || x.pend
  let isOver := busy || (s.fb (Fld.SLU_STAT_EVAL n) && s.f (Fld.SLU_STAT_CUR n) == k.val)
  let cog := s.trigCog n k
  let back : Vector Word 8 := #v[0, 0, 0, cog.1, cog.2, vmot, s.tnow, x.count + 1]
  let s1 := ((s.updInput n k (fun y => { y with
    filling := true
    ready := !s.fromSet n k
    pend := false
    back := back
    count := y.count + 1
    coal := (y.coal && busy) || y.pend })).showPend n).trigSeen n k
  let s2 := if busy then s1.setF { addr := Reg.SLU_STAT n, lo := 12 + k.val, w := 1 } 1 else s1
  if isOver then s2.overrun n else s2

/-- The lane address of a word of the intake page (R190). -/
def intakeAddr (n : Fin 5) (i : Nat) : Nat := 0x20018000 + n.val * 0x20000 + 4 * i

/-- A word of the intake page written. -/
def State.putIntake (s : State) (n : Fin 5) (i : Nat) (w : Word) : State :=
  { s with mem := s.mem.write (intakeAddr n i) 4 w.toNat, ecc := s.ecc.filter (fun x => x != intakeAddr n i) }

/-- The lowest pending input of a mask (R187). -/
def State.lowestPending (s : State) (n : Fin 5) (mask : BitVec 4) : Option (Fin 4) :=
  inputs4.find? (fun k => mask.getLsbD k && (s.input n k).pend)

/-- An L register written. -/
def EngState.setL (x : EngState) (i : BitVec 4) (w : Word) : EngState :=
  { x with l := x.l.set i.toNat w i.isLt }

/-- An L register. -/
def EngState.getL (x : EngState) (i : BitVec 4) : Word := x.l[i.toNat]

/-- The information word of WTRG (R187). -/
def infoWord (k : Fin 4) (coal : Bool) : Word := BitVec.ofNat 32 (k.val + 4 * Word.ofBool coal)

/-- WTRG accepts input k (R187, R197, R199): the buffer and the set-points in force go to the intake page
in one step, and an evaluation starts. -/
def State.accept (s : State) (n : Fin 5) (k : Fin 4) (ld : BitVec 4) : State :=
  let x := s.input n k
  let s1 := (List.range 8).foldl (fun t i => t.putIntake n i (x.back[i]?.getD 0)) s
  let s2 := (List.range 16).foldl (fun t i => t.putIntake n (16 + i) (s.reg (Reg.SLU_SP n i))) s1
  let stamp := x.back[6]
  let s3 := (s2.updInput n k (fun y => { y with pend := false, coal := false })).showPend n
  let s4 := (((s3.setF { addr := Reg.SLU_STAT n, lo := 12 + k.val, w := 1 } 0).setF
    (Fld.SLU_STAT_EVAL n) 1).setF (Fld.SLU_STAT_CUR n) k.val).setF (Fld.SLU_STAT_STATE n) 1
  let s5 := s4.updSlu n (fun y => { y with emitSeen := false, longSeen := false, t0 := stamp })
  s5.updEng (.slu n) (fun e =>
    { ((e.setL ld stamp).setL (ld + 1) (infoWord k x.coal)).next 1 with run := .running })

/-- The engine's stores to TAIL become visible together (R209). -/
def State.showTail (s : State) (n : Fin 5) : State :=
  let s1 := (s.unit n).tailBuf.foldl (fun t e => t.setReg (Reg.SLU_TAIL n e.1) e.2) s
  s1.updSlu n (fun x => { x with tailBuf := [] })

/-- A duty in force is measured from the trigger of its evaluation (R208). -/
def State.measure (s : State) (n : Fin 5) : State :=
  if !s.fb (Fld.SLU_STAT_EVAL n) || (s.unit n).emitSeen then s
  else
    let d := min 0xFFFF (s.tnow - (s.unit n).t0).toNat
    let s1 := (s.updSlu n (fun x => { x with emitSeen := true })).setF (Fld.SLU_LAT_LAST n) d
    if s1.f (Fld.SLU_LAT_MAX n) < d then s1.setF (Fld.SLU_LAT_MAX n) d else s1

end Sys2Proof.Machine
end

