-- ==== Sys2Proof/Machine/BridgeOps.lean ====
section
/-!
DEFINITION. The bridges' shared operations (chapter 12): duties and edges (R185, R279-R282, R289), the
Hall entry of a BLDC bridge (R283), configuration errors (R276, R288), locked-rotor detection (R295),
Ke supervision (R294) and the pump speed curve (R297).
-/

namespace Sys2Proof.Machine

/-- PER in force (R278). -/
def State.per (s : State) (b : Fin 5) : Nat := max 10240 (s.f (Fld.BRG_PER_PER b))

/-- MINP in force (R280). -/
def State.minp (s : State) (b : Fin 5) : Nat := max 40 (s.f (Fld.BRG_TIMING_MINP b))

/-- The least low-side interval of R251. -/
def State.lmin (s : State) (b : Fin 5) : Nat :=
  let tref := min 200 (max 30 (s.f (Fld.BRG_PCFG_TREF b)))
  max (s.minp b) ((1024 * tref + 99) / 100)

/-- The bridge is under the duty limit of R251: B1-B4, and B0 in CP_FAIL (R252). -/
def State.dutyLimited (s : State) (b : Fin 5) : Bool := b != 0 || s.fb Fld.DRV_STAT_CP_FAIL

/-- D of a duty word, in units of 2^-31 (R185). -/
def dutyOf (w : Word) : Nat :=
  if w.toInt ≤ 0 then 0 else if w = 0x7FFFFFFF then 2 ^ 31 else w.toNat

/-- The on-time of a duty and whether step 1 of R280 lowered it (R279, R280). -/
def State.onTime (s : State) (b : Fin 5) (w : Word) : Nat × Bool :=
  let per := s.per b
  let t := halfEven (dutyOf w * per) (2 ^ 31)
  let t1 := if s.dutyLimited b then min t (per - s.lmin b)
    else if per - t < s.minp b then per else t
  (if t1 < s.minp b then 0 else t1, s.dutyLimited b && decide (t1 < t))

/-- The edges of an on-time (R279): the high side is on for p < E_off and for p ≥ E_on. -/
def State.edgesOf (s : State) (b : Fin 5) (t : Nat) : Nat × Nat :=
  if s.fb (Fld.BRG_CFG_ALIGN b) then (t, s.per b)
  else (t / 2, s.per b - (t - t / 2))

/-- Whether set `k` is of kind SINGLE on bridge b, both its ranks enabled (R288, R289). -/
def State.isSingle (s : State) (b : Fin 5) (k : Nat) : Bool :=
  s.f (Fld.ADC_SET_CFG_KIND k) == 2 && s.f (Fld.ADC_SET_CFG_BRG k) == b.val && b != 0 &&
    s.fb (Fld.ADC_SET_RANK_EN k 0) && s.fb (Fld.ADC_SET_RANK_EN k 1)

/-- The sixteen sampling sets. -/
def sets16 : List Nat := List.range 16

/-- A single-shunt set names the bridge, in centre alignment (R289). -/
def State.singleShunt (s : State) (b : Fin 5) : Bool :=
  !s.fb (Fld.BRG_CFG_ALIGN b) && sets16.any (s.isSingle b)

/-- The legs by E_on, earliest first, ties in the order U, V, W (R289). -/
def legOrder (e : Fin 3 → Nat) : Fin 3 × Fin 3 × Fin 3 :=
  let before (i j : Fin 3) : Bool := decide (e i < e j) || (e i == e j && decide (i < j))
  let x : Fin 3 := if before 0 1 && before 0 2 then 0 else if before 1 2 then (if before 0 1 then 0 else 1) else
    (if before 0 2 then 0 else 2)
  let z : Fin 3 := if before 1 0 && before 2 0 then 0 else if before 2 1 then (if before 0 1 then 1 else 0) else
    (if before 0 2 then 2 else 0)
  (x, 3 - x - z, z)

/-- The shift of one leg to T_min after the one before it (R289): made only where the low-side interval
still meets R280 and ends within the period. -/
def shiftLeg (per lmin tmin prev : Nat) (e : Nat × Nat) : Nat × Nat :=
  if prev + tmin ≤ e.2 then e
  else
    let d := prev + tmin - e.2
    if e.2 + d ≤ per ∧ lmin ≤ e.2 - e.1 then (e.1 + d, e.2 + d) else e

/-- The edges that the on-times of the three legs call for, with the single-shunt shifts (R279, R289);
the second part says whether a shift was made. -/
def State.targets (s : State) (b : Fin 5) : (Fin 3 → Nat × Nat) × Bool :=
  let base (k : Fin 3) := s.edgesOf b (s.leg b k).tOn
  if !s.singleShunt b then (base, false)
  else
    let (x, y, z) := legOrder (fun k => (base k).2)
    let tmin := s.f (Fld.BRG_TIMING_SSDLY b) + 64
    let ey := shiftLeg (s.per b) (s.lmin b) tmin (base x).2 (base y)
    let ez := shiftLeg (s.per b) (s.lmin b) tmin ey.2 (base z)
    (fun k => if k = y then ey else if k = z then ez else base k, ey != base y || ez != base z)

/-- The side that the edges made call for (R279). -/
def Leg.side (x : Leg) : Gate := if x.offMade && !x.onMade then .low else .high

/-- The leg changes to the side that its edges call for, at position p: at once, where the interval that ends has lasted
MINP, or L_min for a low-side interval under R251, and otherwise as soon as it has (R280, R281). -/
def Leg.aim (x : Leg) (p minH minL : Nat) : Leg :=
  if x.pwm = x.side then { x with wait := none }
  else if x.pwm = .inert then { x with pwm := x.side, since := p, wait := none }
  else
    let q := x.since + (if x.pwm = .low then minL else minH)
    if q ≤ p then { x with pwm := x.side, since := p, wait := none } else { x with wait := some q.toNat }

/-- A leg at p = 0 of a period with these edges (R279), after a period of `was` steps. -/
def Leg.start (x : Leg) (e : Nat × Nat) (was minH minL : Nat) : Leg :=
  { x with
    eOff := e.1, eOn := e.2, onMade := false, offMade := e.1 == 0 && e.1 != e.2
    since := x.since - was, wait := none }.aim 0 minH minL

/-- The next edge of the period that a leg has yet to make: its position, and whether it is the rise (R279). -/
def Leg.nextMade (x : Leg) (per : Nat) : Option (Nat × Bool) :=
  if x.eOn ≤ x.eOff then (if x.offMade && !x.onMade && x.eOn < per then some (x.eOn, true) else none)
  else if !x.offMade then (if x.eOff < per then some (x.eOff, false) else none)
  else if !x.onMade && x.eOn < per then some (x.eOn, true)
  else none

/-- The next edge of a leg in its period: its position, and whether it is the rise; none for one that has waited. -/
def Leg.nextEdge (x : Leg) (per : Nat) : Option (Nat × Option Bool) :=
  match x.wait, x.nextMade per with
  | none, none => none
  | none, some (p, r) => some (p, some r)
  | some q, none => if q < per then some (q, none) else none
  | some q, some (p, r) => if q ≤ p then some (q, none) else some (p, some r)

/-- An edge of the period is made. -/
def Leg.mark (x : Leg) (rise : Bool) : Leg := if rise then { x with onMade := true } else { x with offMade := true }

/-- The leg with its next edge made, at position p. -/
def Leg.makeEdge (x : Leg) (r : Option Bool) (p minH minL : Nat) : Leg :=
  match r with
  | some rise => (x.mark rise).aim p minH minL
  | none => x.aim p minH minL

/-- The edges of a new duty placed at position p_w (R281), and whether one was made at once. -/
def Leg.place (x : Leg) (e : Nat × Nat) (pw minH minL : Nat) : Leg × Bool :=
  let y := { x with eOff := if x.offMade then x.eOff else e.1, eOn := if x.onMade then x.eOn else e.2 }
  let done (z : Leg) : Leg × Bool := (z.aim pw minH minL, true)
  if e.2 ≤ e.1 then
    -- no low interval any more: a leg that is low rises at the new edge, or at once
    if x.offMade && !x.onMade && decide (e.2 ≤ pw) then done (y.mark true) else (y, false)
  else if !x.offMade && decide (e.1 ≤ pw) then
    let z := y.mark false
    if !x.onMade && decide (e.2 ≤ pw) then done (z.mark true) else done z
  else if x.offMade && !x.onMade && decide (e.2 ≤ pw) then done (y.mark true)
  else (y, false)

/-- The least interval of the high side, and that of the low side (R280, R281). -/
def State.minHigh (s : State) (b : Fin 5) : Nat := s.minp b
def State.minLow (s : State) (b : Fin 5) : Nat := if s.dutyLimited b then s.lmin b else s.minp b

/-- The position of the counter now: no command tells it, so it is free between the last position known
and the next edge of a leg (DESIGN CHOICE, log entry 18). -/
def State.position (s : State) (b : Fin 5) : Nat × State :=
  let per := s.per b
  let lo := (s.bridge b).posLo
  let hi := legs3.foldl (fun acc k =>
    match (s.leg b k).nextEdge per with | some (p, _) => min acc p | none => acc) per
  let (w, s1) := s.takeWord
  let p := if lo < hi then lo + w.toNat % (hi - lo) else lo
  (p, s1.updBrg b (fun x => { x with posLo := p }))

/-- A duty latched (R185, R251): the word, its on-time, and the count where the limit lowered it. -/
def State.latchDuty (s : State) (b : Fin 5) (k : Fin 3) (w : Word) : State :=
  let (t, cut) := s.onTime b w
  let s1 := (s.setReg (Reg.BRG_DUTY b k) w).updLeg b k (fun x => { x with tOn := t })
  if cut then (s1.satAdd (Fld.BRG_PSTAT_CLAMPCNT b) 1).raise (64 + 4 * b + 3) else s1

/-- A period in which a shift was made counts once in the single-shunt sets of its bridge (R289, R290). -/
def State.countShift (s : State) (b : Fin 5) : State :=
  if (s.bridge b).shifted then s
  else
    (s.updBrg b (fun x => { x with shifted := true })).each sets16 (fun t k =>
      if t.isSingle b k then t.satAdd (Fld.ADC_SET_STAT_SHIFT k) 1 else t)

/-- The edges of the duties now latched take their place in the period in progress (R281). -/
def State.placeEdges (s : State) (b : Fin 5) : State :=
  if !(s.bridge b).counting then s
  else
    let (pw, s1) := s.position b
    let (tg, shifted) := s1.targets b
    let s2 := if shifted then s1.countShift b else s1
    (s2.each legs3 (fun t k =>
      let r := (t.leg b k).place (tg k) pw (t.minHigh b) (t.minLow b)
      let t1 := t.updLeg b k (fun _ => r.1)
      if r.2 then t1.setF (Fld.BRG_PWMSTAT_LATE b)
        ((BitVec.ofNat 3 (t1.f (Fld.BRG_PWMSTAT_LATE b)) ||| BitVec.ofNat 3 (2 ^ k.val)).toNat) else t1)).settle b

/-- New duties for some legs at one instant (R185, R186, R281). -/
def State.newDuties (s : State) (b : Fin 5) (ds : List (Fin 3 × Word)) : State :=
  (s.each ds (fun t d => t.latchDuty b d.1 d.2)).placeEdges b

/-- A period starts after one of `was` steps: edges from the duties in the latches, the limits and PER (R278, R279,
R289). -/
def State.startPeriod (s : State) (b : Fin 5) (was : Nat) : State :=
  let s1 := s.each legs3 (fun t k =>
    t.updLeg b k (fun x => { x with tOn := (t.onTime b (t.reg (Reg.BRG_DUTY b k))).1 }))
  let (tg, shifted) := s1.targets b
  let s2 := (s1.updBrg b (fun x => { x with shifted := false })).each legs3 (fun t k =>
    t.updLeg b k (fun x => x.start (tg k) was (t.minHigh b) (t.minLow b)))
  if shifted then s2.countShift b else s2

/-! ### Configuration -/

/-- TYPE, LEGMASK and SCLASS agree with their row of R276, and no SINGLE set names B0 (R288). -/
def State.brgCfgOk (s : State) (b : Fin 5) : Bool :=
  let ty := s.f (Fld.BRG_CFG_TYPE b)
  let lm := s.f (Fld.BRG_PCFG_LEGMASK b)
  let mot := s.fb (Fld.BRG_PCFG_SCLASS b)
  let row := if ty = 0 then lm == 0
    else if ty = 1 ∨ ty = 2 then lm == 7 && mot
    else if ty = 3 ∨ ty = 4 then b != 0 && lm == 3 && !mot
    else false
  row && !(b == 0 && sets16.any (fun k =>
    s.f (Fld.ADC_SET_CFG_KIND k) == 2 && s.f (Fld.ADC_SET_CFG_BRG k) == 0))

/-- CFGERR as it reads: what R276 and R288 say of the present configuration, or a refusal of R278. -/
def State.cfgErr (s : State) (b : Fin 5) : Bool := !s.brgCfgOk b || s.fb (Fld.BRG_PWMSTAT_CFGERR b)

/-- The turn length in grid steps is a whole multiple of a PER (R278). -/
def State.perFits (s : State) (p : Nat) : Bool := s.f Fld.KNR_CFG0_TL * 1024 % p == 0

/-- A firing arms a PER (R113, R278): on a running bridge with SYNC one that does not divide the turn is not applied. -/
def State.armPer (s : State) (b : Fin 5) (v : Word) : State :=
  if s.fb (Fld.BRG_CTL_RUN b) && s.fb (Fld.BRG_CFG_SYNC b) && !s.perFits (max 10240 (v.field 0 20)) then
    s.setF (Fld.BRG_PWMSTAT_PERREJ b) 1
  else s.updBrg b (fun x => { x with perArmed := some v })

/-- The PER that the next period start would apply. -/
def State.perNext (s : State) (b : Fin 5) : Nat :=
  match (s.bridge b).perArmed with
  | some v => max 10240 (v.field 0 20)
  | none => s.per b

/-! ### Six-step commutation and locked rotor -/

/-- The Cog channel that a bridge names (R283, R292, R295). -/
def State.brgCog (s : State) (b : Fin 5) : Option (Fin 6) :=
  cogs.find? (fun c => c.val == s.f (Fld.BRG_CFG_COG b))

/-- The bridge is a BLDC bridge. -/
def State.isBldc (s : State) (b : Fin 5) : Bool := s.f (Fld.BRG_CFG_TYPE b) == 2

/-- A commutation event on B0 (R295): the timer starts again and LOCKED clears. -/
def State.commutation (s : State) : State :=
  let s1 := s.updBrg 0 (fun x => { x with lockT0 := x.lockT0.map (fun _ => s.tnow) })
  if s1.fb (Fld.BRG_SUPSTAT_LOCKED 0) then (s1.setF (Fld.BRG_SUPSTAT_LOCKED 0) 0).level 66 false else s1

/-- The Hall state that a bridge acts on (R283): an invalid one floats every leg. -/
def State.hallSet (s : State) (b : Fin 5) (h : Option (BitVec 3)) : State :=
  let s1 := s.updBrg b (fun x => { x with hall := h })
  (if h.isNone then s1.setF (Fld.BRG_PWMSTAT_HALLERR b) 1 else s1).settle b

/-- A Hall state reported to a bridge (R283); a new valid one is a commutation event on B0 (R295). -/
def State.hallTo (s : State) (b : Fin 5) (h : Option (BitVec 3)) : State :=
  let s1 := if h.isSome && b = 0 && s.fb (Fld.BRG_LOCKCFG_EN 0) then s.commutation else s
  s1.hallSet b h

/-- A channel reports a Hall state to every BLDC bridge that names it (R283, R302, R305). -/
def State.hallReport (s : State) (c : Fin 6) (h : Option (BitVec 3)) : State :=
  s.each bridges (fun t b => if t.isBldc b && t.brgCog b == some c then t.hallTo b h else t)

/-- The Hall state that a bridge finds when it starts (R283). -/
def State.hallNow (s : State) (b : Fin 5) : Option (BitVec 3) :=
  match s.brgCog b with
  | some c =>
    let h := (s.cogOf c).hall
    if s.cogMode c == 4 && s.cogCounts c && hallValid h then some h else none
  | none => none

/-- The 60° sector of the electrical angle of B0 (R295). -/
def State.lockSector (s : State) : Nat :=
  let th := match s.brgCog 0 with
    | some c => s.cogAngle c
    | none => s.reg (Reg.BRG_ANG 0)
  let pp := max 1 (s.f (Fld.BRG_CFG_PP 0))
  (pp * th.toNat % 2 ^ 32) * 6 / 2 ^ 32

/-- A PMSM on B0 that has entered another sector has a commutation event (R295). -/
def State.sectorCheck (s : State) : State :=
  let n := s.lockSector
  if n = (s.bridge 0).sector then s
  else
    let s1 := s.updBrg 0 (fun x => { x with sector := n })
    if s.f (Fld.BRG_CFG_TYPE 0) = 1 && s.fb (Fld.BRG_LOCKCFG_EN 0) then s1.commutation else s1

/-- A set of B0's leg-shunt results (R295): the timer runs while the largest exceeds ILOCK. -/
def State.lockCurrent (s : State) (rs : List Word) : State :=
  if rs.isEmpty || !s.fb (Fld.BRG_LOCKCFG_EN 0) then s
  else
    let big := rs.foldl (fun acc r => max acc r.toInt.natAbs) 0
    if s.f (Fld.BRG_LOCKCFG_ILOCK 0) * 2 ^ 15 < big then
      s.updBrg 0 (fun x => { x with lockT0 := some (x.lockT0.getD s.tnow) })
    else s.updBrg 0 (fun x => { x with lockT0 := none })

/-! ### The pump speed curve -/

/-- The last of positions `lo` to `hi` whose breakpoint x has reached, by the bisection of R176. -/
def bisect (x : Int) (pt : Nat → Int) : Nat → Nat → Nat → Nat
  | 0, lo, _ => lo
  | fuel + 1, lo, hi =>
    if hi - lo ≤ 1 then lo
    else
      let mid := (lo + hi) / 2
      if pt mid ≤ x then bisect x pt fuel mid hi else bisect x pt fuel lo mid

/-- The procedure of R176 over points 0 to `last`: an exact value as numerator and denominator. -/
def interpolate (x : Int) (xs gs : Nat → Int) (last : Nat) : Int × Nat :=
  if x ≤ xs 0 then (gs 0, 1)
  else if xs last ≤ x then (gs last, 1)
  else
    let lo := bisect x xs 8 0 last
    let hi := lo + 1
    if xs hi ≤ xs lo then (gs lo, 1)
    else (gs lo * (xs hi - xs lo) + (gs hi - gs lo) * (x - xs lo), (xs hi - xs lo).toNat)

/-- The input of the curve unit that comes from a sampling set (R297). -/
def State.curveSetInput (s : State) (b : Fin 5) : Nat :=
  let rank := s.f (Fld.BRG_CRVCFG_RANK b)
  let r := s.reg (Reg.ADC_SET_RES (s.f (Fld.BRG_CRVCFG_SET b)) (if rank = 3 then 0 else rank))
  if r.bit 31 then 0 else r.field 16 16

/-- The curve unit evaluates its input (R297). -/
def State.curve (s : State) (b : Fin 5) : State :=
  if b = 0 || !s.fb (Fld.BRG_CRVCFG_EN b) then s
  else
    let x := if s.fb (Fld.BRG_CRVCFG_SW b) then s.f (Fld.BRG_CRVIN_X b) else s.curveSetInput b
    let xon := s.f (Fld.BRG_CRVON_XON b)
    let was := s.fb (Fld.BRG_CRVOUT_ON b)
    let on := if was then !decide (x < xon - s.f (Fld.BRG_CRVON_XHYS b)) else decide (xon < x)
    let y := interpolate x (fun k => s.f (Fld.BRG_CRVPT_X b k)) (fun k => s.f (Fld.BRG_CRVPT_Y b k)) 15
    (s.setB (Fld.BRG_CRVOUT_ON b) on).setF (Fld.BRG_CRVOUT_Y b)
      (if on then (halfEvenInt y.1 y.2).toNat else 0)

end Sys2Proof.Machine
end

