-- ==== Sys2Proof/Machine/Access.lean ====
section
/-!
DEFINITION. A register write by an engine: what lets it through (R97, R191, R227, R406), who may
write what (R97, R150), and the exceptions it raises.
-/

namespace Sys2Proof.Machine

/-- What a register's own rule makes of a write: the state after it, or PRIV. -/
inductive WOut where
  | done (s : State)
  | priv

/-- The owner code of a peripheral field of PROT_OWNPER: 0 Millstone, 1 Miller, 2 Flume, 3 none. -/
def ownerIs (e : Engine) (code : Nat) : Bool :=
  match e with
  | .msp0 => code == 0
  | .miller => code == 1
  | .flume => code == 2
  | _ => false

/-- The safe outputs' owner: codes other than 0b00 are read as none (R98). -/
def soutOwner (code : Nat) : Nat := if code = 0 then 0 else 3

/-- The engine may write the register at `a` under the ownership tables; before SEAL none is
checked (R96, R97). -/
def State.ownerOk (s : State) (e : Engine) (a : Nat) : Bool :=
  if !s.sealed then true
  else if 0x40200000 ≤ a ∧ a < 0x40205000 then
    bridges.any (fun b => decide (a / 0x1000 = 0x40200 + b.val) && s.owns e b)
  else if 0x40600000 ≤ a ∧ a < 0x40601000 then ownerIs e (s.f Fld.PROT_OWNPER_CAN0)
  else if 0x40601000 ≤ a ∧ a < 0x40602000 then ownerIs e (s.f Fld.PROT_OWNPER_CAN1)
  else if 0x40580000 ≤ a ∧ a < 0x40600000 then ownerIs e (s.f Fld.PROT_OWNPER_RACE)
  else if 0x40308000 ≤ a ∧ a < 0x40309000 then ownerIs e (s.f Fld.PROT_OWNPER_RPT)
  else if 0x40300000 ≤ a ∧ a < 0x40306000 ∧ 0x40 ≤ a % 0x1000 ∧ a % 0x1000 < 0x60 then
    ownerIs e (s.f Fld.PROT_OWNPER_COGCMP)
  else if a = 0x40500008 then ownerIs e (soutOwner (s.f Fld.PROT_OWNPER_SOUT))
  else true

/-- A Sluice engine stores only to its own SLU block and to BRG blocks (R191). -/
def sluMayStore (n : Fin 5) (a : Nat) : Bool :=
  a / 0x10000 == 0x4010 + n.val || decide (0x40200000 ≤ a ∧ a < 0x40205000)

/-- What keeps a register write from its register's rule: an exception, or nothing but an event. -/
inductive Gate1 where
  | pass | exc (c : Exc) | dropped (src : Nat) | notOwner
deriving DecidableEq, Repr

/-- The checks before a register write, in the order of R154; ownership comes last. -/
def State.writeGate (s : State) (e : Engine) (a : Nat) : Gate1 :=
  match e with
  | .slu n =>
    if !sluMayStore n a then .exc { code := 5, bad := some (BitVec.ofNat 32 a) }
    else if !s.ownerOk e a then .notOwner else .pass
  | .flume =>
    if !s.permits e .wr a then .dropped 11
    else if !s.ownerOk e a then .notOwner else .pass
  | _ =>
    if !s.permits e .wr a then .exc { code := 5, bad := some (BitVec.ofNat 32 a) }
    else if !s.ownerOk e a then .notOwner else .pass

/-- A write refused by the ownership rule: ignored, source 10, VIOL (R97). -/
def State.refuseOwner (s : State) : State := (s.raise 10).satAdd Fld.PROT_SEAL_VIOL 1

/-- A register write's effect: PRIV before the region's refusal (R154), then the gate, then the
register's own rule `h`. -/
def State.writeEff (s : State) (e : Engine) (a : Nat) (h : State → WOut) : State ⊕ Exc :=
  match h s with
  | .priv => .inr { code := 2, info := 3, bad := some (BitVec.ofNat 32 a) }
  | .done t =>
    match s.writeGate e a with
    | .pass => .inl t
    | .exc c => .inr c
    | .dropped n => .inl (s.raise n)
    | .notOwner => .inl s.refuseOwner

/-- A write reserved to supervisor-level Millstone code of core 0: task level and core 1 raise PRIV,
every other engine's write is ignored (R28, R89, R106, R150, R227). -/
def State.mspOnly (s : State) (e : Engine) (h : State) : WOut :=
  if !s.super e then .priv
  else match e with
    | .msp0 => .done h
    | .msp1 => .priv
    | _ => .done s

/-- As `mspOnly`, but either core of a split pair may write (R192). -/
def State.mspEither (s : State) (e : Engine) (h : State) : WOut :=
  if !s.super e then .priv
  else if isMsp e then .done h else .done s

/-- A write taken from the Miller core only; any other is ignored. -/
def State.millerOnly (s : State) (e : Engine) (h : State) : WOut :=
  .done (match e with | .miller => h | _ => s)

/-- A plain write (R103). -/
def State.plainWrite (s : State) (a : Nat) (v : Word) : State :=
  match kindAt a with
  | some k => s.writeFields k a v
  | none => s

end Sys2Proof.Machine
end

