-- ==== Sys2Proof/Machine/CisOps.lean ====
section
/-!
DEFINITION. The Cistern: image validity (R83-R85), directory and journal (R81, R88), what its
commands change (R86, R87, R89, R91) and the registers that show it.
-/

namespace Sys2Proof.Machine

/-- The Cistern address of a slot (R80). -/
def slotBase (n : Nat) : Nat := n * 0x300000

/-- A number of `n` bytes in the Cistern, little-endian. -/
def Cistern.num (c : Cistern) (a n : Nat) : Nat := c.bytes.read a n

/-- The header's fields (R83), by slot. -/
def Cistern.version (c : Cistern) (n : Nat) : Nat := c.num (slotBase n + 8) 4
def Cistern.flags (c : Cistern) (n : Nat) : Nat := c.num (slotBase n + 6) 2
def Cistern.imageLen (c : Cistern) (n : Nat) : Nat := c.num (slotBase n + 12) 4
def Cistern.ph0Off (c : Cistern) (n : Nat) : Nat := c.num (slotBase n + 16) 4
def Cistern.ph0Len (c : Cistern) (n : Nat) : Nat := c.num (slotBase n + 20) 4
def Cistern.ph0Load (c : Cistern) (n : Nat) : Nat := c.num (slotBase n + 24) 4
def Cistern.ph0Entry (c : Cistern) (n : Nat) : Nat := c.num (slotBase n + 28) 4
def Cistern.core1 (c : Cistern) (n : Nat) : Nat := c.num (slotBase n + 32) 4
def Cistern.succ (c : Cistern) (n : Nat) : Nat := c.num (slotBase n + 36) 1

/-- IMAGE_HASH as 32 bytes in output order. -/
def Cistern.hash (c : Cistern) (n : Nat) : List Byte := c.bytes.bytes (slotBase n + 0x80) 32

/-- Every byte of a range is zero. -/
def Cistern.zero (c : Cistern) (a n : Nat) : Bool := (c.bytes.bytes a n).all (· == 0)

/-- SUCC is 0 or names each lane exactly once (R84). -/
def succOk (b : Nat) : Bool :=
  b == 0 || (decide (b < 64) &&
    (let x := b % 4; let y := b / 4 % 4; let z := b / 16 % 4
     x != 0 && y != 0 && z != 0 && x != y && y != z && x != z))

/-- MAGIC, HDR_VER, the reserved bytes and the limits of the header (R83, R84). -/
def Cistern.headerOk (c : Cistern) (n : Nat) : Bool :=
  let b := slotBase n
  let len := c.imageLen n
  c.num b 4 == 0x49585046 && c.num (b + 4) 2 == 1 && decide (c.flags n < 8) && c.flags n != 7 &&
  c.zero (b + 0x25) 27 && c.zero (b + 0xA0) 32 &&
  len % 4 == 0 && decide (4 ≤ len) && decide (len ≤ 3145472) &&
  c.ph0Off n % 4 == 0 && decide (c.ph0Len n ≤ 131072) && decide (c.ph0Off n + c.ph0Len n ≤ len) &&
  succOk (c.succ n)

/-- The key hash of PUBKEY equals the key well's (R84); a well whose lock bit is 0 holds no key (R87). -/
def Cistern.keyOk (c : Cistern) (n : Nat) : Bool :=
  c.keyLock && BitVec.ofNat 256 (leNat (sha256 (c.bytes.bytes (slotBase n + 0x40) 64))) == c.keyHash

/-- SIG is valid under PUBKEY over header bytes 0x000-0x0BF (R84). -/
def Cistern.sigOk (c : Cistern) (n : Nat) : Bool :=
  let b := slotBase n
  ecdsaVerify (beNat (c.bytes.bytes (b + 0x40) 32)) (beNat (c.bytes.bytes (b + 0x60) 32))
    (beNat (sha256 (c.bytes.bytes b 0xC0)))
    (beNat (c.bytes.bytes (b + 0xC0) 32)) (beNat (c.bytes.bytes (b + 0xE0) 32))

/-- The digest of the body equals IMAGE_HASH (R84). -/
def Cistern.bodyOk (c : Cistern) (n : Nat) : Bool :=
  sha256 (c.bytes.bytes (slotBase n + 0x100) (c.imageLen n)) == c.hash n

/-- The image is valid (R84). -/
def Cistern.valid (c : Cistern) (n : Nat) : Bool :=
  c.headerOk n && c.keyOk n && c.sigOk n && c.bodyOk n

/-- The directory in force: the valid copy with the higher sequence number (R81). -/
def Cistern.dir (c : Cistern) : Directory :=
  if c.dir0.valid && (!c.dir1.valid || decide (c.dir1.seq ≤ c.dir0.seq)) then c.dir0 else c.dir1

/-- The image is at or above the floor (R85). -/
def Cistern.aboveFloor (c : Cistern) (n : Nat) : Bool :=
  decide (c.dir.floor.toNat ≤ c.version n / 65536)

/-- A change of the directory through the journal and both copies (R81). -/
def Cistern.putDir (c : Cistern) (h : Directory → Directory) : Cistern :=
  let d := c.dir
  let d' := { h d with seq := d.seq + 1, valid := true }
  { c with dir0 := d', dir1 := d', journal := none }

/-- A slot's state and mark set. -/
def Directory.setSlot (d : Directory) (n : Fin 4) (st : BitVec 3) (booted : Bool) : Directory :=
  { d with slots := d.slots.set n.val ⟨st, booted⟩ }

/-- The slot numbers. -/
def slots4 : List (Fin 4) := [0, 1, 2, 3]

/-- Slot state codes (R88). -/
def sEMPTY : BitVec 3 := 0
def sSTAGED : BitVec 3 := 1
def sTRIAL : BitVec 3 := 2
def sACTIVE : BitVec 3 := 3
def sPREVIOUS : BitVec 3 := 4
def sREJECTED : BitVec 3 := 5

/-- The slot in a state, if any (R88). -/
def Directory.find (d : Directory) (st : BitVec 3) : Option (Fin 4) :=
  slots4.find? (fun n => d.slots[n.val].state == st)

/-- The state of a slot. -/
def Directory.stateOf (d : Directory) (n : Fin 4) : BitVec 3 := d.slots[n.val].state

/-- Every slot in state `a` becomes `b`. -/
def Directory.move (d : Directory) (a b : BitVec 3) : Directory :=
  { d with slots := d.slots.map (fun x => if x.state = a then ⟨b, false⟩ else x) }

/-- CIS_STAT.RESULT codes. -/
def rOK : Nat := 0
def rBUSY : Nat := 1
def rMODE : Nat := 2
def rSTATE : Nat := 3
def rSIG : Nat := 4
def rFLOOR : Nat := 5
def rHEADER : Nat := 6
def rKEYCONFLICT : Nat := 7
def rNOTTRIAL : Nat := 8

/-- The CIS registers that show the directory and the key well (R100). -/
def State.showCis (s : State) : State :=
  let d := s.cis.dir
  let s1 := s.each slots4 (fun t n =>
    let e := d.slots[n.val]
    let empty := e.state == sEMPTY
    ((((t.setF (Fld.CIS_SLOT_STATE_STATE n) e.state.toNat).setB (Fld.CIS_SLOT_STATE_BOOTED n) e.booted
      ).setF (Fld.CIS_SLOT_STATE_SPLIT n) (if empty then 0 else t.cis.flags n)
      ).setB (Fld.CIS_SLOT_STATE_BELOW n) (!empty && !t.cis.aboveFloor n)
      ).setReg (Reg.CIS_SLOT_VER n) (if empty then 0 else BitVec.ofNat 32 (t.cis.version n)))
  let s2 := (s1.setF Fld.CIS_FLOOR_FLOOR d.floor.toNat).setB Fld.CIS_FLOOR_KEY_LOCK s.cis.keyLock
  if s.cis.keyLock then
    s2.each (List.range 8) (fun t i =>
      t.setReg (Reg.CIS_KEYH i) (BitVec.ofNat 32 (s.cis.keyHash.toNat / 2 ^ (32 * i))))
  else s2

/-- A command or confirmation ends with a result: DONE sets and source 15 is raised (R89). -/
def State.cisEnd (s : State) (r : Nat) : State :=
  ((s.setF Fld.CIS_STAT_RESULT r).setF Fld.CIS_STAT_DONE 1).raise 15

/-- VERSION and IMAGE_HASH of the lane's ACTIVE image (R100, R364), zero where no slot is ACTIVE, as while a TRIAL image
runs (log entry 14). -/
def State.activeVersion (s : State) : Nat :=
  match s.cis.dir.find sACTIVE with | some n => s.cis.version n | none => 0
def State.activeHash (s : State) : List Byte :=
  match s.cis.dir.find sACTIVE with | some n => s.cis.hash n | none => List.replicate 32 0

/-- The VERSION token of the lane (R100, R355). -/
def State.versionTok (s : State) : VersionTok :=
  ⟨s.lane, BitVec.ofNat 32 s.activeVersion, BitVec.ofNat 256 (leNat s.activeHash), s.fb Fld.CIS_BOOTSTAT_TRIALRUN⟩

/-- Two lanes have equal versions (R100). -/
def versionsEqual (a b : VersionTok) : Bool :=
  a.version == b.version && a.hash == b.hash && !a.trial && !b.trial

/-- CIS_VERCMP.EQ as the versions received and the lane's own give it (R100). -/
def State.showVersions (s : State) : State :=
  s.each s.peers (fun t l =>
    match (t.peer l).version with
    | some v => t.setB ⟨Reg.CIS_VERCMP, 4 + (laneIdx l).val, 1⟩ (versionsEqual s.versionTok v)
    | none => t)

/-- A dip is present (R69, R70). -/
def State.dip (s : State) : Bool := s.fb Fld.PWR_BOW_VIO_BOW || s.fb Fld.PWR_BOW_VCORE_BOW

/-- The Cistern refuses new writes: a dip holds it (R69), or low-power entry has begun (R73). -/
def State.cisHeld (s : State) : Bool := s.dip || s.whd.phase != .awake

/-- No Cistern write is in progress. -/
def State.cisIdle (s : State) : Bool :=
  s.cis.running.isNone && !s.cis.dataBusy && s.cis.remapping.isNone

/-- The Cistern takes a write of the Miller core's (R69, R90, R390). -/
def State.cisFree (s : State) : Bool := s.cisIdle && !s.cisHeld

/-- CMD and BUSY kept equal to what runs. -/
def State.showCisBusy (s : State) : State :=
  (s.setB Fld.CIS_STAT_CMD s.cis.running.isSome).setB Fld.CIS_STAT_BUSY
    (s.cis.running.isSome || s.cis.dataBusy || s.cis.remapping.isSome)

/-- Why a command is refused (R86, R87, R89); none when it may run. Which RESULT code gives the reason the spec leaves
open: FLOOR for a raise without an ACTIVE image or out of bounds, STATE for a well that is locked (DESIGN CHOICE, log
entry 23). -/
def State.cisRefusal (s : State) (op : CisOp) : Option Nat :=
  let d := s.cis.dir
  if s.md ≠ mCOMMISSION then some rMODE
  else match op with
    | .verify n => if d.stateOf n = sEMPTY then none else some rSTATE
    | .activate n =>
      if d.stateOf n = sSTAGED ∧ (d.find sTRIAL).isNone then
        (if s.cis.aboveFloor n then none else some rFLOOR) else some rSTATE
    | .rollback =>
      match d.find sPREVIOUS with
      | none => some rSTATE
      | some n => if (d.find sTRIAL).isSome then some rSTATE
                  else if s.cis.aboveFloor n then none else some rFLOOR
    | .erase n =>
      if d.stateOf n = sTRIAL ∨ d.stateOf n = sACTIVE then some rSTATE else none
    | .raiseFloor v =>
      if (d.find sTRIAL).isSome then some rSTATE
      else match d.find sACTIVE with
        | none => some rFLOOR
        | some n =>
          if d.floor.toNat < v.toNat ∧ v.toNat ≤ s.cis.version n / 65536 then none else some rFLOOR
    | .fuseKey => if s.cis.keyLock then some rSTATE else none

/-- The directory that a command leaves, for the commands whose change is known as they start (R86, R89). -/
def Cistern.change (c : Cistern) (op : CisOp) : Option (Directory → Directory) :=
  match op with
  | .verify _ => none
  | .activate n => some (fun d => ((d.move sPREVIOUS sEMPTY).move sACTIVE sPREVIOUS).setSlot n sTRIAL false)
  | .rollback => (c.dir.find sPREVIOUS).map (fun n => fun d => (d.move sACTIVE sPREVIOUS).setSlot n sTRIAL false)
  | .erase n => some (fun d => d.setSlot n sEMPTY false)
  | .raiseFloor v => some (fun d => { d with floor := v })
  | .fuseKey => none

/-- The journal entry of a change, not complete yet: a change is written there first and then applied to both copies
(R81). -/
def Cistern.openEntry (c : Cistern) (op : CisOp) : Option Journal :=
  (c.change op).map (fun h => { dir := { h c.dir with seq := c.dir.seq + 1, valid := true }, complete := false })

/-- A command starts, or ends at once with its refusal (R89, R90). -/
def State.cisCommand (s : State) (op : CisOp) : State :=
  if s.cis.running.isSome then s.setF Fld.CIS_STAT_BUSYREF 1
  else if s.cisHeld then s.cisEnd rBUSY
  else match s.cisRefusal op with
    | some r => s.cisEnd r
    | none => { s with cis := { s.cis with running := some op, journal := s.cis.openEntry op } }.showCisBusy

/-- What VERIFY finds (R84, R85, R89): where several checks fail, HEADER comes before SIG, which also stands for the
key and the body's digest, and SIG before FLOOR (DESIGN CHOICE, log entry 23). -/
def Cistern.verdict (c : Cistern) (n : Nat) : Nat :=
  if !c.headerOk n then rHEADER
  else if !(c.keyOk n && c.sigOk n && c.bodyOk n) then rSIG
  else if !c.aboveFloor n then rFLOOR
  else rOK

/-- The change of a command applied to both copies (R81). -/
def Cistern.apply (c : Cistern) (op : CisOp) : Cistern :=
  match c.change op with
  | some h => c.putDir h
  | none => c

/-- The effect of a command that ran (R86, R87, R89), with its result. FUSE_KEY takes CIS_KEYH as it stands at its end
(DESIGN CHOICE, log entry 23). -/
def State.cisEffect (s : State) (op : CisOp) : Cistern × Nat :=
  let c := s.cis
  match op with
  | .verify n =>
    let r := c.verdict n
    (c.putDir (fun d => d.setSlot n (if r = rOK then sSTAGED else sREJECTED) false), r)
  | .activate _ => (c.apply op, rOK)
  | .rollback => (c.apply op, if (c.dir.find sPREVIOUS).isSome then rOK else rSTATE)
  | .erase n =>
    let c1 := c.apply op
    let b := slotBase n.val
    ({ c1 with bytes := c1.bytes.filter (fun e => !(decide (b ≤ e.1 ∧ e.1 < b + 4096))) }, rOK)
  | .raiseFloor _ => (c.apply op, rOK)
  | .fuseKey =>
    let k := s.keyhReg
    if c.keyHash &&& ~~~k = 0 ∧ c.keyCrc &&& ~~~(keyCrcOf k) = 0 then
      ({ c with keyHash := k, keyCrc := keyCrcOf k, keyLock := true }, rOK)
    else (c, rKEYCONFLICT)

/-- The areas of the Cistern that the data port reads as bytes; the journal, the directory, the baseline
and the spare table give free values (DESIGN CHOICE, log entry 9) and the reserved area zero (R80). -/
inductive CisArea where
  | slot (n : Nat) | log | table | spare | opaqueArea | reserved
deriving DecidableEq, Repr

/-- The area of a Cistern address (R80). -/
def cisArea (a : Nat) : CisArea :=
  if a < 0xC00000 then .slot (a / 0x300000)
  else if a < 0xD00000 then .opaqueArea
  else if 0xE00000 ≤ a ∧ a < 0xE04000 then .table
  else if a < 0xF00000 then .log
  else if a < 0xF10000 then .opaqueArea
  else if a < 0xF5C000 then .reserved
  else .spare

/-- Why a CIS_DATA write is ignored (R82): the slots only in COMMISSION and only while EMPTY, the
logs at any time, nothing else (DEDUCED, log entry 10). -/
def State.cisDataRefusal (s : State) (a : Nat) : Option Nat :=
  match cisArea a with
  | .log => none
  | .table => none
  | .slot n =>
    if s.md ≠ mCOMMISSION then some rMODE
    else if (s.cis.dir.slots[n]?.map (·.state)) = some sEMPTY then none else some rSTATE
  | _ => if s.md ≠ mCOMMISSION then some rMODE else some rSTATE

/-- CIS_ADDR advanced by a word. -/
def State.cisAdvance (s : State) : State := s.setF Fld.CIS_ADDR_ADDR (s.f Fld.CIS_ADDR_ADDR + 1)

/-- A CIS_DATA word that the port takes now (R82, R90). -/
def State.cisTake (s : State) (v : Word) : State :=
  let a := 4 * s.f Fld.CIS_ADDR_ADDR
  match s.cisDataRefusal a with
  | some r => (s.setF Fld.CIS_STAT_RESULT r).cisAdvance
  | none =>
    ({ s with cis := { s.cis with bytes := s.cis.bytes.write a 4 v.toNat, dataBusy := true, dataAt := a } }
      ).cisAdvance.showCisBusy

/-- The word that a CIS_DATA read gives, with its state (R104): the address advances. -/
def State.cisRead (s : State) : Word × State :=
  let a := 4 * s.f Fld.CIS_ADDR_ADDR
  match cisArea a with
  | .opaqueArea => let (w, s1) := s.takeWord; (w, s1.cisAdvance)
  | .table => let (w, s1) := s.takeWord; (w, s1.cisAdvance)
  | .reserved => (0, s.cisAdvance)
  | _ => (s.cis.bytes.word a, s.cisAdvance)

end Sys2Proof.Machine
end

