-- ==== Sys2Proof/Machine/Can.lean ====
section
/-!
DEFINITION. The CAN FD controllers (R422-R426). The counts of error confinement and the order of
arbitration follow ISO 11898-1, which R422 names (PRESUMED, log entry 32).
-/

namespace Sys2Proof.Machine

/-- A controller's hidden state. -/
def State.canUnit (s : State) (n : Fin 2) : Can := s.can[n.val]

/-- A function applied to a controller's hidden state. -/
def State.updCan (s : State) (n : Fin 2) (h : Can → Can) : State :=
  { s with can := s.can.set n.val (h s.can[n.val]) }

/-- The controller takes part in the bus: EN set and in effect, which needs a timebase beyond RC (R423), no
low-power entry begun, not bus-off (R426). -/
def State.canOn (s : State) (n : Fin 2) : Bool :=
  s.live && s.whd.phase == .awake && s.fb (Fld.CAN_CTL_EN n) && s.f Fld.SYS_TBSEL_ACTIVE != 0 &&
  s.f (Fld.CAN_STAT_STATE n) != 3

/-! ### Frames -/

/-- The fields of words 0 and 1. -/
def canExt (f : CanFrame) : Bool := f.w0.bit 29
def canFd (f : CanFrame) : Bool := f.w0.bit 30
def canRtr (f : CanFrame) : Bool := f.w1.bit 5 && !(canFd f)

/-- The data bytes that a DLC stands for. -/
def dlcLen (fd : Bool) (dlc : Nat) : Nat :=
  if dlc ≤ 8 then dlc
  else if !fd then 8
  else [12, 16, 20, 24, 32, 48, 64].getD (dlc - 9) 64

/-- The data of a frame: none in a remote frame. -/
def canBytes (f : CanFrame) : List Byte :=
  if (canRtr f) then [] else f.data.take (dlcLen (canFd f) (f.w1.field 0 4))

/-- A frame as it goes over the bus (R426's layout, log entry 32): a base ID has 11 bits, BRS and ESI belong
to FD frames, RTR to classical ones, and the data are those of the DLC. -/
def canWire (f : CanFrame) : CanFrame :=
  let id : Word := if canExt f then 0x3FFFFFFF else 0x1FFC0000
  { w0 := f.w0 &&& (id ||| if canFd f then 0xC0000000 else 0)
    w1 := f.w1 &&& (if canFd f then 0x1F else 0x2F)
    data := canBytes f }

/-- The bits of arbitration in the order sent, as a number: the lower goes first. -/
def canPrio (f : CanFrame) : Nat :=
  let base := f.w0.field 18 11
  let head := if (canExt f) then 3 else Word.ofBool (canRtr f) * 2
  let tail := if (canExt f) then f.w0.field 0 18 * 2 + Word.ofBool (canRtr f) else 0
  ((base * 4 + head) * 2 ^ 19 + tail) * 2 + Word.ofBool (canFd f)

/-- The controller can send a frame: FD frames need FDE, and LISTEN sends nothing. -/
def State.canMaySend (s : State) (n : Fin 2) (f : CanFrame) : Bool :=
  s.canOn n && !s.fb (Fld.CAN_CTL_LISTEN n) && (!(canFd f) || s.fb (Fld.CAN_CTL_FDE n))

/-- Of two frames in push order, the one that goes first (R425). -/
def canFirst (best : Option CanFrame) (f : CanFrame) : Option CanFrame :=
  match best with
  | some b => if (canPrio f) < (canPrio b) then some f else some b
  | none => some f

/-- The frame that goes next: of the queue in order of bus priority, ties in push order. -/
def State.canPick (s : State) (n : Fin 2) : State :=
  s.updCan n (fun c => { c with cur := (c.tx.filter (s.canMaySend n)).foldl canFirst none })

/-- RXFILL, TXFILL and the oldest entry kept equal to what is stored. -/
def State.showCan (s : State) (n : Fin 2) : State :=
  let c := s.canUnit n
  let s1 := (s.setF (Fld.CAN_CNT_RXFILL n) c.rx.length).setF (Fld.CAN_CNT_TXFILL n) c.tx.length
  let bytes : List Byte := match c.rx with
    | e :: _ => (canBytes e.frame) ++ List.replicate (64 - (canBytes e.frame).length) 0
    | [] => List.replicate 64 0
  let head : List Word := match c.rx with
    | e :: _ => [e.frame.w0, (e.frame.w1 &&& 0x3F) ||| BitVec.ofNat 32 (e.filter * 256), e.stamp]
    | [] => [0, 0, 0]
  let ws := head ++ (List.range 16).map (fun i => BitVec.ofNat 32 (leNat ((bytes.drop (4 * i)).take 4)))
  s1.each ws.zipIdx (fun t (e : Word × Nat) => t.setReg (Reg.CAN_RXE n e.2) e.1)

/-! ### Receiving (R424) -/

/-- A frame matches an enabled filter. -/
def State.filterHit (s : State) (n : Fin 2) (f : CanFrame) (k : Nat) : Bool :=
  let m := s.reg (Reg.CAN_FLT_MASK n k) &&& 0x1FFFFFFF
  let id := s.reg (Reg.CAN_FLT_ID n k)
  id.bit 31 && id.bit 29 == (canExt f) && (f.w0 &&& m) == (id &&& m)

/-- A valid frame that the controller has received. One that only ACCALL accepts matches no filter, and
its index is not stated. -/
def State.canTake (s : State) (n : Fin 2) (f : CanFrame) : State :=
  let hit := (List.range 32).find? (s.filterHit n f)
  if hit.isNone && !s.fb (Fld.CAN_CTL_ACCALL n) then s
  else if 64 ≤ (s.canUnit n).rx.length then s.satAdd (Fld.CAN_CNT_RXLOST n) 1
  else
    let (k, s1) : Nat × State := match hit with
      | some k => (k, s)
      | none => (s.takeWord.1.toNat % 32, s.takeWord.2)
    let e : CanEntry := { frame := f, filter := k, stamp := s1.tnow }
    ((s1.updCan n (fun c => { c with rx := c.rx ++ [e] })).showCan n).raise (200 + 4 * n.val)

/-- The error state that the counts give, but for bus-off. -/
def State.canConfine (s : State) (n : Fin 2) : State :=
  let st := if 127 < s.f (Fld.CAN_STAT_TEC n) ∨ 127 < s.f (Fld.CAN_STAT_REC n) then 2 else 1
  if s.f (Fld.CAN_STAT_STATE n) = st then s
  else (s.setF (Fld.CAN_STAT_STATE n) st).raise (200 + 4 * n.val + 2)

/-- REC after a successful reception: down by 1, or from above 127 to a value between 119 and 127. -/
def State.recDown (s : State) (n : Fin 2) : State :=
  let r := s.f (Fld.CAN_STAT_REC n)
  if 127 < r then
    let (w, s1) := s.takeWord
    s1.setF (Fld.CAN_STAT_REC n) (119 + w.toNat % 9)
  else s.setF (Fld.CAN_STAT_REC n) (r - 1)

/-- CAN_FRAME_RECEIVED (R424): an FD frame with FDE = 0 is a form error, not a valid frame (R422). -/
def execCanFrameReceived (n : Fin 2) (f : CanFrame) (s : State) : Host.Outcome State Fault Refusal :=
  checked (WellFormed.canOk f) (
    if !s.canOn n || ((canFd f) && !s.fb (Fld.CAN_CTL_FDE n)) then s
    else ((s.canTake n f).recDown n).canConfine n)

/-- CAN_RXPOP's rule (R424). -/
def State.wRxpop (s : State) (n : Fin 2) (v : Word) : State :=
  if v.bit 0 then (s.updCan n (fun c => { c with rx := c.rx.drop 1 })).showCan n else s

/-! ### Sending (R425) -/

/-- The staged entry. -/
def State.canStaged (s : State) (n : Fin 2) : CanFrame :=
  { w0 := s.reg (Reg.CAN_TXS n 0), w1 := s.reg (Reg.CAN_TXS n 1)
    data := wordBytes ((List.range 16).map (fun i => s.reg (Reg.CAN_TXS n (3 + i)))) }

/-- The frame that goes next after a push: the earlier choice stands where its transmission has begun,
which no command tells, so that a frame of higher priority may or may not still come first. -/
def State.canRepick (s : State) (n : Fin 2) : State :=
  match (s.canUnit n).cur with
  | none => s.canPick n
  | some f =>
    if ((s.canPick n).canUnit n).cur = some f then s
    else
      let (begun, s1) := s.takeBit
      if begun then s1 else s1.canPick n

/-- The rule of TXPUSH (R425). -/
def State.wTxpush (s : State) (n : Fin 2) (v : Word) : State :=
  if !v.bit 0 then s
  else if 16 ≤ (s.canUnit n).tx.length then s.satAdd (Fld.CAN_CNT_TXREJ n) 1
  else
    let f := s.canStaged n
    ((s.updCan n (fun c => { c with tx := c.tx ++ [f] })).canRepick n).showCan n

/-- CAN_TX_DONE (R425): the frame that was going is complete. With LOOP it is received and TX stays
recessive (R422). -/
def execCanTxDone (n : Fin 2) (s : State) : Host.Outcome State Fault Refusal :=
  .next (
    match (s.canUnit n).cur with
    | none => s
    | some f =>
      if !s.canMaySend n f then s
      else
        let s1 := s.updCan n (fun c => { c with tx := c.tx.erase f, cur := none })
        let s2 := s1.setF (Fld.CAN_STAT_TEC n) (s.f (Fld.CAN_STAT_TEC n) - 1)
        let s3 := if s.fb (Fld.CAN_CTL_LOOP n) then s2.canTake n (canWire f) else s2.send (.can n (canWire f))
        (((s3.raise (200 + 4 * n.val + 1)).canConfine n).canPick n).showCan n)

/-- TXABORT (R425): every queued frame but one in transmission goes. Whether the frame that is next is
in transmission, no command tells. -/
def State.canAbort (s : State) (n : Fin 2) : State :=
  match (s.canUnit n).cur with
  | none => (s.updCan n (fun c => { c with tx := [] })).showCan n
  | some f =>
    let (begun, s1) := s.takeBit
    (s1.updCan n (fun c => { c with
      tx := if begun then [f] else [], cur := if begun then some f else none })).showCan n

/-! ### On, off and errors (R423, R426) -/

/-- The bit timing is valid (R423): the fields hold their values minus 1, DBT's TSEG1 and TSEG2 in fewer
bits. -/
def State.canTimingOk (s : State) (n : Fin 2) : Bool :=
  let nbt := s.reg (Reg.CAN_NBT n)
  let dbt := s.reg (Reg.CAN_DBT n)
  let t1 := nbt.field 5 8 + 1
  let t2 := nbt.field 13 7 + 1
  let d1 := dbt.field 5 5 + 1
  let d2 := dbt.field 13 4 + 1
  decide (64 ≤ (nbt.field 0 5 + 1) * (1 + t1 + t2)) && decide (8 ≤ (dbt.field 0 5 + 1) * (1 + d1 + d2)) &&
  decide (2 ≤ t1) && decide (2 ≤ t2) && decide (nbt.field 20 7 + 1 ≤ t2) && decide (dbt.field 20 7 + 1 ≤ d2)

/-- The controller stops at once (R426); a frame in transmission is cut and stays queued. -/
def State.canHalt (s : State) (n : Fin 2) : State :=
  ((s.setF (Fld.CAN_STAT_STATE n) 0).updCan n (fun c =>
    { c with cur := none, recover := false })).level (200 + 4 * n.val + 3) false

/-- EN clears. -/
def State.canStop (s : State) (n : Fin 2) : State := (s.setF (Fld.CAN_CTL_EN n) 0).canHalt n

/-- The controller starts, error-active with counts 0 (log entry 32). -/
def State.canGo (s : State) (n : Fin 2) : State :=
  (((s.setF (Fld.CAN_STAT_STATE n) 1).setF (Fld.CAN_STAT_TEC n) 0).setF (Fld.CAN_STAT_REC n) 0).canPick n

/-- EN is set (R423): it needs a valid timing, and takes effect only beyond the RC timebase (log entry 33). -/
def State.canStart (s : State) (n : Fin 2) : State :=
  if !s.canTimingOk n then s.setF (Fld.CAN_STAT_CFGERR n) 1
  else
    let s1 := (s.setF (Fld.CAN_STAT_CFGERR n) 0).setF (Fld.CAN_CTL_EN n) 1
    if s.f Fld.SYS_TBSEL_ACTIVE = 0 then s1 else s1.canGo n

/-- A set EN takes or loses its effect with the timebase (R423). -/
def State.canTimebase (s : State) (n : Fin 2) : State :=
  if !s.fb (Fld.CAN_CTL_EN n) || s.whd.phase != .awake then s
  else if s.f Fld.SYS_TBSEL_ACTIVE = 0 then s.canHalt n
  else if s.f (Fld.CAN_STAT_STATE n) = 0 then s.canGo n
  else s

/-- The rule of CTL (R423, R425, R426). While EN = 1 the mode bits are not writable; EN can be cleared,
TXABORT and RECOVER act (DEDUCED, log entry 33). -/
def State.wCanCtl (s : State) (n : Fin 2) (v : Word) : State :=
  let s1 := if v.bit 5 && s.f (Fld.CAN_STAT_STATE n) = 3 then s.updCan n (fun c => { c with recover := true }) else s
  let s2 := if v.bit 6 then s1.canAbort n else s1
  if s.fb (Fld.CAN_CTL_EN n) then (if v.bit 0 then s2 else s2.canStop n)
  else
    let s3 := (((s2.setB (Fld.CAN_CTL_FDE n) (v.bit 1)).setB (Fld.CAN_CTL_LISTEN n) (v.bit 2)).setB
      (Fld.CAN_CTL_LOOP n) (v.bit 3)).setB (Fld.CAN_CTL_ACCALL n) (v.bit 4)
    if v.bit 0 then s3.canStart n else s3

/-- The rule of NBT, DBT and FLT: ignored while EN = 1 (R423). `mask` are the register's own bits. -/
def State.wCanCfg (s : State) (n : Fin 2) (a : Nat) (mask v : Word) : State :=
  if s.fb (Fld.CAN_CTL_EN n) then s else s.setReg a (v &&& mask)

/-- CAN_BUS_ERROR (R426): the counts after it. The frame in transmission is retried, and arbitration
starts over; bus-off keeps the queue. -/
def execCanBusError (n : Fin 2) (tec rec : Nat) (s : State) : Host.Outcome State Fault Refusal :=
  .next (
    if !s.canOn n then s
    else
      let s1 := (s.setF (Fld.CAN_STAT_TEC n) (min 255 tec)).setF (Fld.CAN_STAT_REC n) (min 255 rec)
      if 255 < tec then
        (((s1.setF (Fld.CAN_STAT_STATE n) 3).raise (200 + 4 * n.val + 2)).level (200 + 4 * n.val + 3) true).canPick n
      else (s1.canConfine n).canPick n)

/-- CAN_RECOVERY_COMPLETE (R426): the controller is error-active again, its counts 0. -/
def execCanRecoveryComplete (n : Fin 2) (s : State) : Host.Outcome State Fault Refusal :=
  .next (
    if s.live && s.f (Fld.CAN_STAT_STATE n) = 3 && (s.canUnit n).recover then
      let s1 := ((s.setF (Fld.CAN_STAT_TEC n) 0).setF (Fld.CAN_STAT_REC n) 0).setF (Fld.CAN_STAT_STATE n) 1
      (((s1.updCan n (fun c => { c with recover := false })).raise (200 + 4 * n.val + 2)).level
        (200 + 4 * n.val + 3) false).canPick n
    else s)

end Sys2Proof.Machine
end

