-- ==== Sys2Proof/Machine/KnaorBase.lean ====
section
/-!
DEFINITION. The states of Knaor's engine (R336, R338), its KSYNC, its lost channels, and how the node leaves the cluster
(R321).
-/

namespace Sys2Proof.Machine

/-- A function applied to the hidden Knaor state. -/
def State.updKnr (s : State) (h : Knaor → Knaor) : State := { s with knr := h s.knr }

/-- KSYNC and its level source (R336, R341). -/
def State.showKsync (s : State) : State :=
  let k := s.ksync
  let s1 := s.setB Fld.KNR_STAT_KSYNC k
  let s2 := if k then s1.updKnr (fun x => { x with synced := true }) else s1
  s2.level 133 (s2.knr.synced && !k)

/-- Whether a channel is lost, and setting it. -/
def lostFld (c : Fin 2) : Field := if c = 0 then Fld.KNR_STAT_K1LOST else Fld.KNR_STAT_K2LOST
def State.setLost (s : State) (c : Fin 2) (on : Bool) : State := (s.setB (lostFld c) on).level (135 + c.val) on

/-- A transmission in progress ends early: TXEN falls (R321, R340). A wake pattern ends with LISTEN, in which alone it
is sent (R336). -/
def State.cutTx (s : State) : State :=
  { s with sent := s.cutSent, knr := { s.knr with sending := none, waking := [] } }.setF Fld.KNR_STAT_WAKEBUSY 0

/-- A move to a state (R338, R345): `cause` is PCAUSE in PASSIVE. A wake pattern belongs to LISTEN (R336, R352). -/
def State.knrMove (s : State) (st cause : Nat) : State :=
  let old := s.knrState
  let s0 := if s.knr.waking.isEmpty then s else s.cutTx
  let s1 := (s0.setF Fld.KNR_STAT_STATE st).setF Fld.KNR_STAT_PCAUSE (if st = 5 then cause else 0)
  let s2 := if st ≤ 1 then (s1.setF Fld.KNR_STAT_WALIGN 0).updKnr (fun x => { x with wdevs := [] }) else s1
  let s3 := s2.updKnr (fun x => { x with
    ksyncSeen := false, heard := false, consist := 0, coldTurns := 0, holdTurns := 0, passTurns := 0, passStart := false })
  let s4 := s3.showKsync.level 131 (st == 5)
  let s5 := if (st = 4 || st = 5) && (old = 2 || old = 3 || old = 6) then s4.raise 132 else s4
  if 4 ≤ old && st < 4 then s5.updKnr (fun x => { x with hadMark := false, marked := false }) else s5

/-- The node leaves the cluster (R321, R338): a frame in progress is cut, which is no clip, and what the buffers were to
send or freeze is gone. Source 133 stays asserted if KSYNC has been 1 (R341). -/
def State.knrLeave (s : State) : State :=
  let s1 := s.cutTx.updKnr (fun x => { x with
    latched := none, coldLatch := none, coldLog := [], rx := Vector.replicate 64 {}, first := none })
  ((s1.knrMove 0 0).setLost 0 false).setLost 1 false

end Sys2Proof.Machine
end

