-- ==== Sys2Proof/Machine/Safe.lean ====
section
/-!
DEFINITION. The safe wires (chapter 16): the pairs, their latches and discrepancy faults, the
acknowledge and the outputs.
-/

namespace Sys2Proof.Machine

/-! ### The filters (R393) -/

/-- The filter of one line: its output, the level at the latest samples, and how many of them in a row had it. The
command SAFE_LINE_CHANGE gives the output's change; `sample` says which samples bring it about. -/
structure LineFilter where
  out  : Option Bool := none
  last : Bool := false
  run  : Nat := 0
deriving DecidableEq, Repr

/-- A sample at a slow-clock edge: the output takes a level that all of the latest `need` samples had. -/
def LineFilter.sample (f : LineFilter) (need : Nat) (level : Bool) : LineFilter :=
  let n := if level = f.last then f.run + 1 else 1
  { out := if need ≤ n then some level else f.out, last := level, run := n }

/-- The samples of t_filt at the slow clock's nominal 1 MHz: 0.1 ms × (FILT + 1). -/
def State.filterNeed (s : State) : Nat := 100 * (s.f Fld.SAFE_CFG_FILT + 1)

/-- t_disc in ms: 10 × (DISC + 1), codes above 49 taken as 49 (R395). -/
def State.discTime (s : State) : Nat := 10 * (min 49 (s.f Fld.SAFE_CFG_DISC) + 1)

/-! ### The pairs -/

/-- A bit of a field set. -/
def State.setBit (s : State) (x : Field) (i : Nat) (b : Bool) : State :=
  s.setB { addr := x.addr, lo := x.lo + i, w := 1 } b

/-- The stop latch of a pair sets (R397). -/
def State.setStopLatch (s : State) (i : Fin 4) : State :=
  if s.fbit Fld.SAFE_STAT_LATCH i then s
  else (s.setBit Fld.SAFE_STAT_LATCH i true).satAdd Fld.SAFE_CNT_DEMCNT 1

/-- STOPDEM that has come up has yet to act (R398). -/
def State.noteStop (before after : State) : State :=
  if after.stopDem && !before.stopDem then { after with safe := { after.safe with stopPend := true } }
  else if !after.stopDem then { after with safe := { after.safe with stopPend := false } }
  else after

/-- The safe inputs at SEAL (R394, R397, R400). -/
def State.sealSafe (s : State) : State :=
  let s1 := s.each pairs (fun t i =>
    if !t.pairUsed i then t
    else
      let t1 := match t.pairRead i with
        | some .normal => { t with safe := { t.safe with last := t.safe.last.set i (some false) } }
        | some .demand => { t with safe := { t.safe with last := t.safe.last.set i (some true) } }
        | _ => t
      if t.pairPark i || t.pairRead i == some .normal then t1 else t1.setStopLatch i)
  { s1 with safe := { s1.safe with measuring := false, stopPend := false } }

/-- The reading of a used pair after one of its lines has changed (R395, R397). -/
def State.pairChanged (s : State) (i : Fin 4) (before : Option PairRead) : State :=
  if !(s.sealed && s.pairUsed i) then s
  else
    let now := s.pairRead i
    let s1 := match now with
      | some .normal =>
        let t := { s with safe := { s.safe with last := s.safe.last.set i (some false) } }
        if s.safe.last[i.val] == some true then t.raise (176 + i) else t
      | some .demand =>
        let t := { s with safe := { s.safe with last := s.safe.last.set i (some true) } }
        if s.safe.last[i.val] == some false then t.raise (176 + i) else t
      | _ => s
    if !s.pairPark i && now == some .demand && before != some .demand then
      State.noteStop s (s1.setStopLatch i)
    else s1

/-- A change of the SACK level that no pulse length comes with (R400): a rising edge starts the
measurement; a falling edge ends a stuck pulse, or a pulse too short to be an acknowledge. -/
def State.sackLevel (s : State) (level : Bool) : State :=
  let was := s.safe.levels[8]
  let s1 := { s with safe := { s.safe with levels := s.safe.levels.set 8 (some level) } }
  if !(s.live && s.sealed) then s1
  else if level then
    if was == some true then s1 else { s1 with safe := { s1.safe with measuring := true } }
  else if s.fb Fld.SAFE_STAT_ACK_STUCK then
    ({ s1 with safe := { s1.safe with measuring := false } }.setF Fld.SAFE_STAT_ACK_STUCK 0).level 185 false
  else if s.safe.measuring then
    { s1 with safe := { s1.safe with measuring := false } }.satAdd Fld.SAFE_CNT_REJACK 1
  else s1

/-- The pair that a line belongs to. -/
def pairOf (line : Fin 9) : Fin 4 := ⟨line.val / 2 % 4, Nat.mod_lt _ (by decide)⟩

/-- SAFE_LINE_CHANGE (R393): a filtered level changes. -/
def execSafeLineChange (line : Fin 9) (level : Bool) (s : State) : Host.Outcome State Fault Refusal :=
  .next (
    if s.rst.porHold then s
    else if line.val = 8 then s.sackLevel level
    else
      let before := s.pairRead (pairOf line)
      let s1 := { s with safe := { s.safe with levels := s.safe.levels.set line (some level) } }
      if s.live then s1.pairChanged (pairOf line) before else s1)

/-- DISCREPANCY_FAULT (R395). -/
def execDiscrepancyFault (i : Fin 4) (s : State) : Host.Outcome State Fault Refusal :=
  .next (
    if s.live && s.sealed && s.pairUsed i && s.pairRead i == some .equal && !s.fbit Fld.SAFE_STAT_DISCF i then
      ((s.setBit Fld.SAFE_STAT_DISCF i true).satAdd Fld.SAFE_CNT_DISCCNT 1).level (180 + i) true
    else s)

/-- The effect of a stop demand by mode (R398); in an open record window the peers carry it out (R222). -/
def State.stopAct (s : State) : State :=
  if s.mode.window.isSome then s
  else
  let s1 := { s with safe := { s.safe with stopPend := false } }
  if s.inRun then s1.setStopping 1
  else if s.md = mREADY then
    if s.fb Fld.SYS_MODE_JOINING then s1 else s1.setMode mSAFEHOLD 0x30
  else if s.md = mSERVICE then s1.abortService
  else s1

/-- A SAFE-HOLD request that is pending when SAFE-HOLD is entered ends there (R34). -/
def State.holdEntered (s : State) : State :=
  if s.md = mSAFEHOLD ∧ s.mode.request = some 6 then s.endRequest 2 else s

/-- What an accepted acknowledge clears of a pair (R401). -/
def State.ackPair (s : State) (i : Fin 4) : State :=
  if !s.pairUsed i then s
  else match s.pairRead i with
    | some .normal =>
      ((s.setBit Fld.SAFE_STAT_LATCH i false).setBit Fld.SAFE_STAT_DISCF i false).level (180 + i) false
    | some .demand => (s.setBit Fld.SAFE_STAT_DISCF i false).level (180 + i) false
    | _ => s

/-- RBF of an output clears where its readback agrees at that instant, which no command tells: either
occurs (R401; DESIGN CHOICE, log entry 12). -/
def State.ackOut (s : State) (k : Fin 2) : State :=
  if !s.fbit Fld.SAFE_STAT_RBF k then s
  else
    let (ok, s1) := s.takeBit
    if ok then (s1.setBit Fld.SAFE_STAT_RBF k false).level (186 + k) false else s1

/-- SACK_ACKNOWLEDGE (R400-R402): a measured SACK pulse ends; `highUs` is its measured high time. One of 3 s
or more whose ACK_STUCK no command has brought is stuck and ends here. -/
def execSackAcknowledge (highUs : Nat) (s : State) : Host.Outcome State Fault Refusal :=
  .next (
    if !(s.live && s.sealed && s.safe.measuring && s.safe.levels[8] == some true) then s
    else
      let s1 := { s with safe := { s.safe with measuring := false, levels := s.safe.levels.set 8 (some false) } }
      if s.fb Fld.SAFE_STAT_ACK_STUCK then (s1.setF Fld.SAFE_STAT_ACK_STUCK 0).level 185 false
      else if highUs < 50000 then s1.satAdd Fld.SAFE_CNT_REJACK 1
      else if 3000000 ≤ highUs then ((s1.satAdd Fld.SAFE_CNT_REJACK 1).level 185 true).level 185 false
      else
        let s2 := (s1.raise 184).satAdd Fld.SAFE_STAT_ACKCNT 1
        State.noteStop s ((s2.each pairs State.ackPair).each [0, 1] State.ackOut))

/-- ACK_STUCK (R400). -/
def execAckStuck (s : State) : Host.Outcome State Fault Refusal :=
  .next (
    if s.live && s.safe.measuring && s.safe.levels[8] == some true && !s.fb Fld.SAFE_STAT_ACK_STUCK then
      ((s.setF Fld.SAFE_STAT_ACK_STUCK 1).satAdd Fld.SAFE_CNT_REJACK 1).level 185 true
    else s)

/-- READBACK_FAULT (R405): of every output line, used or not, before SEAL as after it. -/
def execReadbackFault (k : Fin 2) (s : State) : Host.Outcome State Fault Refusal :=
  .next (
    if s.live && !s.fbit Fld.SAFE_STAT_RBF k then
      (s.setBit Fld.SAFE_STAT_RBF k true).level (186 + k) true
    else s)

end Sys2Proof.Machine
end

