-- ==== Sys2Proof/Machine/Modes.lean ====
section
/-!
DEFINITION. Mode requests (R28-R34, R73, R91, R363, R462) and the end of the stop program (R29).
-/

namespace Sys2Proof.Machine

/-- Cog speed 0 on every configured channel (R29, R311). -/
def State.cogZero (s : State) : Bool :=
  cogs.all (fun c => !s.cogOn c || (s.fb (Fld.COG_STAT_STILL c) && !s.cogWire c && !s.cogBad c))

/-- A wake source is enabled (R73, R75); 0b11 of K1 and K2 is treated as off. -/
def State.wakeEnabled (s : State) : Bool :=
  s.f Fld.WHD_WAKECFG_K1 == 1 || s.f Fld.WHD_WAKECFG_K1 == 2 ||
  s.f Fld.WHD_WAKECFG_K2 == 1 || s.f Fld.WHD_WAKECFG_K2 == 2 ||
  s.fb Fld.WHD_WAKECFG_ENA || s.fb Fld.WHD_WAKECFG_SAFE || s.fb Fld.WHD_WAKECFG_TIMER

/-- The wake detector of SRC code `n + 1` is enabled (R75, R239). -/
def State.detectorOn (s : State) (n : Nat) : Bool :=
  match n with
  | 0 => s.f Fld.WHD_WAKECFG_K1 == 1
  | 1 => s.f Fld.WHD_WAKECFG_K1 == 2
  | 2 => s.f Fld.WHD_WAKECFG_K2 == 1
  | 3 => s.f Fld.WHD_WAKECFG_K2 == 2
  | 4 => s.fb Fld.WHD_WAKECFG_ENA
  | 5 => s.fb Fld.WHD_WAKECFG_SAFE
  | 6 => s.fb Fld.WHD_WAKECFG_TIMER
  | _ => false

/-- The wake detectors are armed, or not (R239). -/
def State.arm (s : State) (on : Bool) : State :=
  s.each (List.range 7) (fun t n => t.setB (Fld.WHD_WATCH_ARMED n) (on && t.detectorOn n))

/-- Step 1 of low-power entry (R72, R73): the request is carried out, wake detection is armed and the
Wellhead takes its copies; from here Knaor, CAN and Race send nothing, and the node has left the cluster (R321,
R338). A core in SLEEP never resumes (R147). -/
def State.lpAccept (s : State) (t : BitVec 4) : State :=
  let s0 := (((s.endRequest 2).knrLeave).canHalt 0).canHalt 1
  let stay (e : Engine) (u : State) : State := u.updEng e (fun x => { x with run := (s.eng e).run })
  let s1 := stay .msp1 (stay .msp0 s0)
  { s1 with whd := { s1.whd with
      phase := .armed, target := t, wakeSrc := none,
      pmbAddr := BitVec.ofNat 7 (s.f Fld.PWR_PMBCFG_ADDR),
      pmbExp := some (BitVec.ofNat 5 (s.f Fld.PWR_PMBCFG_VEXP)) } }.arm true

/-- A STANDBY or DORMANT request is evaluated (R73); one that finds a voltage request outstanding
waits for its end, which R60 puts within 5 ms of its start. -/
def State.lpEvaluate (s : State) (t : BitVec 4) : State :=
  if !s.allInert || !s.wakeEnabled || s.dip then s.endRequest 3
  else if s.fb Fld.PWR_PMBCFG_PMB_BUSY then { s with mode := { s.mode with lpWait := true } }
  else s.lpAccept t

/-- Whether the table of R29 has a request's transition from a mode. -/
def inTable (m : Nat) (t : BitVec 4) : Bool :=
  if m = mREADY then t == 1 || t == 3 || t == 4 || t == 6 || t == 7 || t == 8 || t == 9
  else if isRun m then t == 2 || t == 6
  else if m = mSAFEHOLD || m = mSERVICE then t == 2
  else false

/-- A used STOP pair is reported unreadable by the latest STATUS of every lane in SAFE-HOLD or a RUN
mode, the lane's own included (R396, R462). -/
def State.allUnreadable (s : State) : Bool :=
  let others := s.peers.filterMap (fun l =>
    match (s.peer l).status with
    | some t => if isRun t.mode.toNat || t.mode == 6 then some t.unread else none
    | none => none)
  others.foldl (fun acc u => acc &&& u) s.unreadable != 0

/-- A stop cause is present (R462). -/
def State.stopCause (s : State) : Bool := s.stopDem || s.allUnreadable || s.bothLost

/-- A request for anything but TRIPLEX and DUPLEX out of READY is evaluated against the present state
(R28, R29). During low-power entry, which runs to completion once accepted (R73), none is (DEDUCED, log entry 67). -/
def State.evaluate (s : State) (t : BitVec 4) : State :=
  let m := s.md
  if s.whd.phase != .awake then s
  else if s.fb Fld.SYS_MODE_STOPPING then (if t == 6 then s else s.endRequest 3)
  else if !inTable m t then s.endRequest 4
  else if m = mREADY then
    if t == 1 then (s.setMode mCOMMISSION 0x10).endRequest 2
    else if t == 6 then (s.setMode mSAFEHOLD 0x10).endRequest 2
    else if t == 7 then
      if !s.fb Fld.CIS_BOOTSTAT_TRIALRUN && s.cogZero && s.parked then
        (s.setMode mSERVICE 0x10).endRequest 2
      else s.endRequest 3
    else if t == 8 || t == 9 then (if s.mode.lpWait then s else s.lpEvaluate t)
    else if s.fb Fld.CIS_BOOTSTAT_TRIALRUN then s.endRequest 3
    else s
  else if isRun m then
    if t == 6 then s.setStopping 4
    else if s.cogZero then ((s.setMode mREADY 0x10).dropRole).endRequest 2
    else s.endRequest 3
  else if m = mSAFEHOLD then
    if s.safeOk && !s.stopCause then ((s.setMode mREADY 0x10).dropRole).endRequest 2
    else s.endRequest 3
  else (s.setMode mREADY 0x10).endRequest 2

/-- The pending request is evaluated (R28). -/
def State.evalPending (s : State) : State :=
  match s.mode.request with
  | some t => s.evaluate t
  | none => s

/-- A driving peer announces its stop program (R387). -/
def State.peerStops (s : State) : List Nat :=
  s.peers.filterMap (fun l => if !(s.peer l).driving then none else
    match (s.peer l).status with
    | some t => if t.stopping && isRun t.mode.toNat then some t.scause.toNat else none
    | none => none)

/-- No lead-eligible lane remains among the driving lanes (R32, R359). -/
def State.noneEligible (s : State) : Bool := lanes.all (fun l => !(s.member l && s.eligOf l))

/-- A used STOP pair is unreadable in every driving lane (R396). -/
def State.pairLost (s : State) : Bool :=
  (s.peers.filter (fun l => (s.peer l).driving)).foldl (fun acc l =>
    acc &&& (match (s.peer l).status with | some t => t.unread | none => 0)) s.unreadable != 0

/-- Every driving lane has lost both Knaor channels (R32, R386): the lane itself, and each driving peer as its STATUS
says. -/
def State.allLost (s : State) : Bool :=
  s.bothLost && s.peers.all (fun l => !(s.peer l).driving ||
    (match (s.peer l).status with | some t => t.kk | none => false))

/-- A safe-input stop demand that comes from the lanes together: a driving peer announces one, or a pair is
unreadable in every driving lane (R387, R396). It ranks with the lane's own (R33). -/
def State.sharedDemand (s : State) : State :=
  if s.inRun && (s.peerStops.contains 1 || s.pairLost) then s.setStopping 1 else s

/-- The triggers of the stop program at a turn mark, in the order in which SCAUSE takes them (R32, R34,
R387, R396). -/
def State.stopTriggers (s : State) : State :=
  if !s.inRun then s
  else
    let ann := s.peerStops
    if ann.contains 1 || s.pairLost then s.setStopping 1
    else if ann.contains 5 then s.setStopping 5
    else if s.noneEligible && s.allLost || ann.contains 2 then s.setStopping 2
    else if s.noneEligible || ann.contains 3 then s.setStopping 3
    else if ann.contains 4 then s.setStopping 4
    else s

/-- The triggers of the stop program while a lane in a RUN mode has no turn marks to act at: it acts at once
(R32, R386, R387; DEDUCED, log entry 63). -/
def State.stopsNow (s : State) : State := if s.hasMarks then s else s.stopTriggers

/-- A higher trigger supersedes a pending request (R33): it sets STOPPING, or it changes the mode to one from which
the request's transition is not in the table of R29. A request for SAFE-HOLD made in a RUN mode stays pending until
SAFE-HOLD is entered (R34). -/
def State.superseded (before after : State) (t : BitVec 4) : Bool :=
  !(t == 6 && isRun before.md) &&
  ((after.fb Fld.SYS_MODE_STOPPING && !before.fb Fld.SYS_MODE_STOPPING) ||
    (before.md != after.md && inTable before.md t && !inTable after.md t))

/-- The pending request after higher triggers, where they supersede it (R33). -/
def State.supersede (before after : State) : State :=
  match after.mode.request with
  | some t =>
    if State.superseded before after t then
      ({ after with mode := { after.mode with forming := none } }).endRequest 5
    else after
  | none => after

/-- The turn marks of the lane stop (R28): what would act at the next one acts at once; a pending request for TRIPLEX
or DUPLEX ends, any other is evaluated. -/
def State.marksStopped (s0 : State) : State :=
  let s := State.supersede s0 s0.stopsNow
  match s.mode.request with
  | none => s
  | some t =>
    if t == 3 || t == 4 then { s with mode := { s.mode with forming := none } }.endRequest 3
    else s.evaluate t

/-- A request is evaluated at once, or ends at once where it needs turn marks (R28). -/
def State.requestNow (s : State) (t : BitVec 4) : State :=
  if t == 3 || t == 4 then { s with mode := { s.mode with forming := none } }.endRequest 3
  else s.evaluate t

/-- A keyed request is written (R28): an earlier one is superseded, and without turn marks the new one
ends or is evaluated at once. -/
def State.putRequest (s : State) (t : BitVec 4) : State :=
  let s1 := if s.mode.request.isSome then s.endRequest 5 else s
  let s2 := { s1 with mode := { s1.mode with request := some t, marks := 0, forming := none } }.reqst 1
  if s2.hasMarks then s2 else s2.requestNow t

/-- The rule of SYS_MODEREQ (R27, R28). -/
def State.wModeReq (s : State) (e : Engine) (v : Word) : WOut :=
  s.mspOnly e (if v.field 16 16 = 0xC1A5 then s.putRequest (BitVec.ofNat 4 (v.field 0 4)) else s)

/-- The word that a command writes to SYS_MODEREQ. -/
def modeReqWord (t : Nat) (key : BitVec 16) : Word := BitVec.ofNat 32 (t + key.toNat * 2 ^ 16)

/-- STOP_DEMAND_TIMEOUT (R398): 1 ms has passed since STOPDEM set with no turn mark. -/
def execStopDemandTimeout (s : State) : Host.Outcome State Fault Refusal :=
  .next (if s.live && s.stopDem && s.safe.stopPend then State.supersede s s.stopAct else s)

/-- SAFE-HOLD is entered at the end of the stop program, with the cause that SCAUSE records (R27,
R34); a deferred watchdog reset follows at that instant, every bridge in its safe state (R108). -/
def State.enterSafeHold (s : State) : State :=
  let s1 := (s.setMode mSAFEHOLD (causeOfScause (s.f Fld.SYS_MODE_SCAUSE))).holdEntered
  if s.mode.deferred then s1.safeBridges.assertReset .watchdog else s1

/-- STOP_PROGRAM_COMPLETE (R29): the mode changes at the next turn mark. -/
def execStopProgramComplete (s : State) : Host.Outcome State Fault Refusal :=
  .next (
    if s.live && s.inRun && s.fb Fld.SYS_MODE_STOPPING then { s with mode := { s.mode with stopDone := true } }
    else s)

/-- STOP_COMPLETION_TIMEOUT (R29): 1 ms after completion with no turn mark. -/
def execStopCompletionTimeout (s : State) : Host.Outcome State Fault Refusal :=
  .next (
    if s.live && s.inRun && s.fb Fld.SYS_MODE_STOPPING && s.mode.stopDone then s.enterSafeHold else s)

end Sys2Proof.Machine
end

