-- ==== Sys2Proof/Machine/LeatOps.lean ====
section
/-!
DEFINITION. The Leats' shared operations (chapter 15): links, connections, versions, copy blocks,
succession, reintegration stages and the yield.
-/

namespace Sys2Proof.Machine

/-- The Leats run: from SEAL until a reset or low-power entry (R355). -/
def State.leatsRun (s : State) : Bool := s.live && s.sealed && s.whd.phase == .awake

/-- The register bits of an end. -/
def upFld (i : Fin 2) : Field := if i = 0 then Fld.LEAT_LINK_UP0 else Fld.LEAT_LINK_UP1
def spareFld (i : Fin 2) : Field := if i = 0 then Fld.LEAT_LINK_SPARE0 else Fld.LEAT_LINK_SPARE1

/-- A function applied to an end. -/
def State.updEnd (s : State) (i : Fin 2) (h : LeatEnd → LeatEnd) : State :=
  { s with leat := { s.leat with ends := s.leat.ends.set i.val (h s.leat.ends[i.val]) } }

/-- The receive direction of an end is healthy (R356). -/
def State.rxHealthy (s : State) (i : Fin 2) : Bool :=
  s.leat.ends[i.val].heard && s.leat.ends[i.val].wiresOk

/-- The other end. -/
def otherEnd (i : Fin 2) : Fin 2 := if i = 0 then 1 else 0

/-- A STATUS reports the sender's receive direction of the Leat at this lane's end `i` healthy: the
sender's own end of that Leat is the other one (R353). -/
def rxOf (t : StatusTok) (i : Fin 2) : Bool := if i = 0 then t.rxOk1 else t.rxOk0

/-- VERSION is sent on every up Leat when CONN has gained a lane (R355). -/
def State.noteConn (s : State) (before : Nat) : State :=
  if lanes.any (fun l => s.connBits / 2 ^ (laneIdx l).val % 2 == 1 && before / 2 ^ (laneIdx l).val % 2 == 0)
  then s.sendUp (fun i => .version i s.versionTok) else s

/-- LEAT_SHORT.NSH (R379): the lost lanes and the connected ones whose motor bridge is in an active short. -/
def State.showShorts (s : State) : State :=
  s.each bridges (fun t b =>
    t.setF { addr := Reg.LEAT_SHORT, lo := 2 * b.val, w := 2 }
      (s.peers.filter (fun l => ((s.peer l).lost || (s.peer l).byIsol.isSome || s.connected l) &&
        (s.peer l).shorted.getLsbD b)).length)

/-- The bridges of a lost lane that count as shorted (R379). -/
def State.lostShorts (s : State) (l : Lane) (how : Nat) : BitVec 5 :=
  if how = 1 then (match (s.peer l).leaving with | some t => s.tokShorts t | none => 0)
  else if how = 2 then BitVec.ofNat 5 (bridges.foldl (fun acc b =>
    if s.motor b && !(s.pcfg b).bit 1 then acc + 2 ^ b.val else acc) 0)
  else if how = 3 then 0
  else (s.peer l).shorted

/-- A Leat goes down at this end (R356). -/
def State.leatDown (s : State) (i : Fin 2) : State :=
  let s1 := s.updEnd i (fun x => { x with good := 0 })
  if s1.leatUp i then
    (((s1.setF (upFld i) 0).satAdd Fld.LEAT_LINK_DOWNCNT 1).level (164 + i) true).showShorts
  else s1

/-- A Leat comes up at this end (R356). -/
def State.leatUpNow (s : State) (i : Fin 2) : State :=
  let s1 := ((s.setF (upFld i) 1).level (164 + i) false).showShorts
  s1.send (.version i s1.versionTok)

/-- A token or block of a relayed kind goes on to the other Leat, once, when both are up and the lane
did not originate it (R357). -/
def State.relay (s : State) (i : Fin 2) (origin : Lane) (h : Fin 2 → Sent) : State :=
  if s.leatUp i && s.leatUp (otherEnd i) && origin ≠ s.lane && origin ≠ s.peerAt (otherEnd i) then
    s.send (h (otherEnd i))
  else s

/-- A lane's position in a list. -/
def idxIn (l : Lane) (order : List Lane) : Nat := order.idxOf l

/-- The succession order in force (R83). -/
def State.order (s : State) : List Lane := orderOfSucc s.rst.succ

/-- The lanes after `l`, counting round the succession order (R376). -/
def State.after (s : State) (l : Lane) : List Lane :=
  let o := s.order
  let k := idxIn l o
  (o.drop (k + 1)) ++ (o.take k)

/-- LEAD set to a lane or to none. -/
def State.setLead (s : State) (l : Option Lane) : State :=
  s.setF Fld.LEAT_ROLE_LEAD (match l with | some x => laneCode x | none => 0)

/-- The present lead. -/
def State.lead (s : State) : Option Lane := laneOfCode (s.f Fld.LEAT_ROLE_LEAD)

/-- STAGE set, JOINING with it (R383); a promotion that was due is due no longer (R381). -/
def State.setStage (s : State) (n : Nat) : State :=
  let s1 := ((s.setF Fld.LEAT_JOIN_STAGE n).setF Fld.LEAT_JOIN_CNT 0).setB Fld.SYS_MODE_JOINING (n != 0)
  { s1 with leat := { s1.leat with promote := false } }

/-- STAGE. -/
def State.stage (s : State) : Nat := s.f Fld.LEAT_JOIN_STAGE

/-- A connected lane is in a RUN mode or SAFE-HOLD (R381), as its STATUS says. -/
def State.someRuns (s : State) : Bool :=
  s.peers.any (fun l => s.connected l &&
    match (s.peer l).status with
    | some t => isRun t.mode.toNat || t.mode == 6
    | none => false)

/-- Back to LISTEN with a count of 0 and no role (R360, R381). -/
def State.toListen (s : State) : State := (s.setStage 1).dropRole

/-- The lane is connected to the lead. -/
def State.leadConnected (s : State) : Bool :=
  match s.lead with
  | some l => s.connected l
  | none => false

/-- KSYNC is lost (R381): LISTEN counts anew, COPIES and SHADOW go back to it. -/
def State.ksyncLost (s : State) : State :=
  if s.stage = 1 then s.setF Fld.LEAT_JOIN_CNT 0
  else if s.stage = 2 ∨ s.stage = 3 then s.toListen
  else s

/-- The lane sees its peers' modes afresh (R360, R381): LISTEN is entered in READY with EN = 1 while a
connected lane is in a RUN mode or SAFE-HOLD, and the return ends when none is. -/
def State.joinCheck (s : State) : State :=
  if s.md = mREADY && s.fb Fld.LEAT_CFG_EN then
    if s.someRuns then (if s.stage = 0 then s.setStage 1 else s)
    else if 1 ≤ s.stage ∧ s.stage ≤ 3 then
      (s.setStage 0).dropRole
    else s
  else s

/-- What a change of the connections means for a returning lane (R381). -/
def State.linkCheck (s : State) : State :=
  let t := s.joinCheck
  if (t.stage = 2 ∨ t.stage = 3) ∧ t.lead.isSome ∧ !t.leadConnected then t.toListen else t

/-- A lead that yields sends RESIGN of kind YIELD (R373); its own change is due at TGT too. -/
def State.yieldLead (s : State) : State :=
  if s.leat.leaving.isSome then s
  else
    let (tgt, s1) := s.takeTgt
    let tok : DepartTok := ⟨s.lane, .yield, tgt, s1.bridgeStates, s1.heldStates⟩
    let s2 := s1.sendUp (fun i => .resign i tok)
    { s2 with leat := { s2.leat with leaving := some tok, departed := some (3, tok), yieldEligs := some s.eligMask } }

/-- Another driving lane is eligible (R359, R392). -/
def State.otherEligible (s : State) : Bool := s.peers.any (fun l => s.member l && s.peerElig l)

/-- A lead that finds another lane claiming the lead earlier in the order yields (R362). -/
def State.leadClash (s : State) (other : Lane) : State :=
  if s.f Fld.SYS_MODE_ROLE = 3 ∧ idxIn other s.order < idxIn s.lane s.order then s.yieldLead else s

/-! ### Copy blocks (R364-R366) -/

/-- The lane address in shared memory that a LEAT address register names, if it is one. -/
def sharedAddr (a : Nat) : Option Nat := if 0x10000000 ≤ a ∧ a < 0x10240000 then some a else none

/-- The number in `n` bytes of shared memory. -/
def State.sharedNum (s : State) (a n : Nat) : Nat := s.mem.read a n

/-- The lengths INLEN, STLEN, OUTLEN of the block at `a`. -/
def State.blockLens (s : State) (a : Nat) : Nat × Nat × Nat :=
  (s.sharedNum (a + 0x10) 4, s.sharedNum (a + 0x14) 4, s.sharedNum (a + 0x18) 4)

/-- WIN in µs (LEAT_CFG): below 20 taken as 20, above 150 as 150. -/
def State.winUs (s : State) : Nat := max 20 (min 150 (s.f Fld.LEAT_CFG_WIN))

/-- The lengths meet R364 and R365: multiples of 4, L at most 16,384, t_max at most WIN. -/
def State.lensOk (s : State) (a : Nat) : Bool :=
  let (i, t, o) := s.blockLens a
  let l := i + t + o
  i % 4 == 0 && t % 4 == 0 && o % 4 == 0 && decide (l ≤ 16384) &&
  decide (103 * (250 + 68 + l) ≤ 12500 * s.winUs)

/-- The bits of the lanes that are lead-eligible, A, B, C. -/
def State.eligBits (s : State) : Nat :=
  lanes.foldl (fun acc l => if s.member l && s.eligOf l then acc + 2 ^ (laneIdx l).val else acc) 0

/-- The block that the lane sends: its own header fields over those of the send area, the sections
and the CRC (R364). -/
def State.block (s : State) (a : Nat) (form : Bool) : List Byte :=
  let (i, t, o) := s.blockLens a
  let flags := Word.ofBool form + 2 * s.f Fld.SYS_MODE_STOPPING
  let body :=
    leBytes 0x4C454154 4 ++ leBytes 1 2 ++ leBytes (laneCode s.lane) 1 ++ leBytes flags 1 ++
    leBytes (s.reg Reg.LEAT_TURNNO).toNat 4 ++ leBytes s.md 1 ++
    leBytes (s.drivingBits + 8 * s.eligBits) 1 ++ leBytes 0 2 ++
    leBytes i 4 ++ leBytes t 4 ++ leBytes o 4 ++
    leBytes s.activeVersion 4 ++ s.activeHash.take 8 ++ leBytes 0 24 ++
    s.mem.bytes (a + 0x40) (i + t + o)
  body ++ leBytes (crc32c body) 4

/-- The number in `n` bytes of a block from offset `o`. -/
def blockNum (b : List Byte) (o n : Nat) : Nat := leNat ((b.drop o).take n)

/-- The CRC of a block is correct (R364). -/
def blockCrcOk (b : List Byte) : Bool :=
  decide (68 ≤ b.length) && blockNum b (b.length - 4) 4 == crc32c (b.take (b.length - 4))

/-- The lane address of receive area `n`. -/
def State.rxArea (s : State) (n : Nat) : Nat := 4 * s.f (Fld.LEAT_RXADDR_ADDR n)

/-- The receive area that does not hold the latest complete copy (R366). -/
def State.freeArea (s : State) : Nat :=
  if s.fb Fld.LEAT_RXSTAT_HELD then 1 - s.f Fld.LEAT_RXSTAT_CUR else 0

/-- What a shadow comparison finds (R369): CLEAN with 0, or MISMATCH with the index of the first
differing word of the latest copy's STATE section. -/
def State.shadowFind (s : State) : BitVec 2 × Nat :=
  let a := s.rxArea (s.f Fld.LEAT_RXSTAT_CUR)
  let (i, t, _) := s.blockLens a
  let sh := 4 * s.f Fld.LEAT_SHADDR_ADDR
  match (List.range (min t 16384 / 4)).find? (fun k =>
      s.mem.word (sh + 4 * k) != s.mem.word (a + 0x40 + i + 4 * k)) with
  | some k => (2, k)
  | none => (1, 0)

/-- SHLIM (LEAT_CFG): 0 is taken as 1. -/
def State.shLim (s : State) : Nat := max 1 (s.f Fld.LEAT_CFG_SHLIM)

/-- TURNNO of the latest copy. -/
def State.copyTurn (s : State) : Word := s.mem.word (s.rxArea (s.f Fld.LEAT_RXSTAT_CUR) + 8)

/-- A MISMATCH verdict of another follower for a turn is held. -/
def State.otherMismatch (s : State) (t : Word) : Bool :=
  s.leat.verdicts.any (fun v => v.result == 2 && v.turnno == t && (s.peer v.lane).driving)

/-- Three lanes drive: TRIPLEX, or SAFE-HOLD with three members, where comparison carries on under the same rules
(R358, R370; DEDUCED, log entry 63). -/
def State.threeDrive (s : State) : Bool :=
  s.md = mTRIPLEX || (s.md = mSAFEHOLD && lanes.all (fun l => s.member l))

/-- Both followers of a TRIPLEX report MISMATCH for one turn: a follower's counts clear (R370). -/
def State.clearCounts (s : State) : State :=
  if s.threeDrive && s.f Fld.SYS_MODE_ROLE = 2 && s.leat.missRun.any s.otherMismatch then
    let s1 := s.setF Fld.LEAT_SHSTAT_CONS 0
    { s1 with leat := { s1.leat with missRun := [], leaveDue := none } }
  else s

/-- A CLEAN comparison of a follower (R381). -/
def State.cleanFollower (s : State) : State :=
  let s1 := s.satAdd Fld.LEAT_ROLE_CLEAN 1
  if s1.stage == 5 && decide (1000 ≤ s1.f Fld.LEAT_ROLE_CLEAN) then s1.setStage 0 else s1

/-- A CLEAN comparison of an observer in stage SHADOW: the 64th makes its promotion due (R382). -/
def State.cleanObserver (s : State) : State :=
  let s1 := s.setF Fld.LEAT_JOIN_CNT (min 64 (s.f Fld.LEAT_JOIN_CNT + 1))
  if s1.f Fld.LEAT_JOIN_CNT == 64 then { s1 with leat := { s1.leat with promote := true } } else s1

/-- A comparison is CLEAN (R370). -/
def State.verdictClean (s : State) : State :=
  let s1 := s.setF Fld.LEAT_SHSTAT_CONS 0
  let s2 := { s1 with leat := { s1.leat with missRun := [], leaveDue := none } }
  if s.f Fld.SYS_MODE_ROLE = 2 then s2.cleanFollower
  else if s.stage = 3 then s2.cleanObserver
  else s2

/-- A follower's MISMATCH: CLEAN restarts, and the SHLIM-th in a row has it decide (R370, R381). -/
def State.missFollower (s : State) : State :=
  let s1 := s.setF Fld.LEAT_ROLE_CLEAN 0
  let s2 := if decide (s1.shLim ≤ s1.leat.missRun.length) && s1.leat.leaveDue.isNone
    then { s1 with leat := { s1.leat with leaveDue := some 0 } } else s1
  s2.clearCounts

/-- A comparison is a MISMATCH (R369, R370). -/
def State.verdictMiss (s : State) (t : Word) : State :=
  let s1 := (s.raise 163).satAdd Fld.LEAT_SHSTAT_CONS 1
  let s2 := { s1 with leat := { s1.leat with missRun := s1.leat.missRun ++ [t] } }
  if s.f Fld.SYS_MODE_ROLE = 2 then s2.missFollower
  else if s.stage = 3 then s2.setStage 2
  else s2

/-- A comparison of this lane ends with a result: SHSTAT, the counts, the stage and VERDICT (R369,
R370, R381). -/
def State.verdict (s : State) (r : BitVec 2) (first : Nat) : State :=
  let t := s.copyTurn
  let s0 := ((s.setF Fld.LEAT_SHSTAT_BUSY 0).setF Fld.LEAT_SHSTAT_RESULT r.toNat).setF
    Fld.LEAT_SHSTAT_FIRST first
  let s1 := { s0 with leat := { s0.leat with shCompare := none } }.sendUp
    (fun i => .verdict i ⟨s.lane, t, r⟩)
  if r == 1 then s1.verdictClean
  else if r == 2 then s1.verdictMiss t
  else if s.stage = 3 then s1.setStage 2
  else s1

/-- The lane compares: a follower, or an observer in stage SHADOW (R369). -/
def State.compares (s : State) : Bool :=
  s.f Fld.SYS_MODE_ROLE = 2 || (s.f Fld.SYS_MODE_ROLE = 1 && s.stage = 3)

/-! ### The rings of the fault log and the wear log (R390, R391, R443, R444) -/

/-- Words 0 to 14 of a record as it is captured, SEQ still 0 (R390). -/
def State.recordWords (s : State) (kind role trig : Nat) (payload : List Word) : List Word :=
  let w0 := kind + laneCode s.lane * 2 ^ 8 + s.md * 2 ^ 10 + role * 2 ^ 14 + trig * 2 ^ 16
  [BitVec.ofNat 32 w0, 0, s.reg Reg.LEAT_TURNNO, s.tnow] ++ payload ++ List.replicate (11 - payload.length) 0

/-- The bytes of a record (R390): SEQ put in, the CRC at the end. -/
def recordBytes (ws : List Word) (seq : Word) : List Byte :=
  let body := (ws.set 1 seq).flatMap (fun w => leBytes w.toNat 4)
  body ++ leBytes (crc32c body) 4

/-- A record written to its ring, after the newest there: each takes the present count (R390). -/
def State.writeRecord (s : State) (r : DueRec) : State :=
  if r.wear then
    { s with
      cis := { s.cis with bytes := s.cis.bytes.writeBytes (0xE04000 + 64 * s.plb.wearPos) (recordBytes r.words s.plb.wearSeq) }
      plb := { s.plb with wearPos := (s.plb.wearPos + 1) % 16128, wearSeq := s.plb.wearSeq + 1 } }
  else
    { s with
      cis := { s.cis with bytes := s.cis.bytes.writeBytes (0xD00000 + 64 * s.plb.faultPos) (recordBytes r.words s.plb.faultSeq) }
      plb := { s.plb with faultPos := (s.plb.faultPos + 1) % 16384, faultSeq := s.plb.faultSeq + 1 } }

/-- A record goes to its ring, or waits until the Cistern takes writes (R69, R390; log entry 66). -/
def State.putRecord (s : State) (r : DueRec) : State :=
  if s.cisFree && s.plb.due.isEmpty then s.writeRecord r
  else { s with plb := { s.plb with due := s.plb.due ++ [r] } }

/-- A record of the wear log. -/
def State.wearRecord (s : State) (kind : Nat) (payload : List Word) : State :=
  s.putRecord { wear := true, words := s.recordWords kind (s.f Fld.SYS_MODE_ROLE) 0 payload }

/-- A function applied to the baseline and spare table: the Cistern's copies (R443) take the change when they can be
written. -/
def State.updLog (s : State) (h : WearLog → WearLog) : State :=
  { s with plb := { s.plb with log := h s.plb.log, kept := if s.cisFree then h s.plb.log else s.plb.kept } }

/-- The headroom H (R433). -/
def State.headroom (s : State) : Nat := min 30 (s.f Fld.PWR_GOV_CEIL - 20)

/-- A RETIRE record (R444). -/
def State.retireRecord (s : State) (i cause : Nat) : State :=
  s.wearRecord 0x02 [BitVec.ofNat 32 i, BitVec.ofNat 32 (s.f (Fld.PLB_SITE_SLOW i)),
    BitVec.ofNat 32 (s.f (Fld.PLB_SITE_REQW i)), BitVec.ofNat 32 s.headroom, BitVec.ofNat 32 cause]

/-- The wear retirement that waits is recorded for the next boot as soon as the Cistern is free (R435). -/
def State.retireNow (s : State) : State :=
  match s.plb.pendSite with
  | some n =>
    if !s.plb.retireDue || !s.cisFree then s
    else
      let s1 := (s.retireRecord (2 + n.val) 0).updLog (fun l => { l with retIdx := n.val, resIdx := 7 })
      ({ s1 with plb := { s1.plb with retireDue := false } }.setF Fld.PLB_SPARE_PEND 1).raise 209
  | none => s

/-- What has waited for the Cistern is written once it is free (R69, R390, R435). -/
def State.writeDue (s : State) : State :=
  if !s.cisFree then s
  else
    let s1 := s.plb.due.foldl State.writeRecord { s with plb := { s.plb with due := [], kept := s.plb.log } }
    s1.retireNow

end Sys2Proof.Machine
end

