-- ==== Sys2Proof/Machine/RaceOps.lean ====
section
/-!
DEFINITION. The Race port (R407-R421): its packets, its link and credits, what it sends next, the
mailboxes and the trace queue. What an inbound packet does is in Race.lean.
-/

namespace Sys2Proof.Machine

/-- A function applied to the port's hidden state. -/
def State.updRace (s : State) (h : Race → Race) : State := { s with race := h s.race }

/-- The port runs: EN is set, and no low-power entry has begun (R73, R409). -/
def State.raceOn (s : State) : Bool := s.live && s.whd.phase == .awake && s.fb Fld.RACE_CTL_EN

/-! ### Packets (R410) -/

/-- The CRC word over the earlier words of a packet. -/
def raceCrc (ws : List Word) : Word := BitVec.ofNat 32 (crc32c (wordBytes ws))

/-- The header's fields. -/
def raceType (ws : List Word) : Nat := (ws.getD 0 0).field 0 4
def raceLen (ws : List Word) : Nat := (ws.getD 0 0).field 4 7
def raceFix (ws : List Word) : Bool := (ws.getD 0 0).bit 11
def raceSeq (ws : List Word) : Nat := (ws.getD 0 0).field 16 16

/-- The payload words. -/
def racePayload (ws : List Word) : List Word := (ws.drop 2).take (raceLen ws)

/-- A LEN that its TYPE allows. -/
def raceLenOk (ty len : Nat) : Bool :=
  if ty = 1 then decide (1 ≤ len ∧ len ≤ 64)
  else if ty = 2 ∨ ty = 3 then decide (len ≤ 16)
  else if ty = 4 ∨ ty = 5 then len == 0
  else false

/-- The packet stands (R411): TYPE and LEN valid, all its words there, CRC right, FR high for its header
word only, RCK running throughout. -/
def packetValid (p : RacePkt) : Bool :=
  p.frOk && p.rckOk && raceLenOk (raceType p.words) (raceLen p.words) &&
  p.words.length == raceLen p.words + 3 &&
  p.words.getLast? == some (raceCrc (p.words.take (raceLen p.words + 2)))

/-- A packet's words, CRC included. -/
def racePacket (ty tag seq : Nat) (w1 : Word) (payload : List Word) : List Word :=
  let body := BitVec.ofNat 32 (ty + payload.length * 2 ^ 4 + tag * 2 ^ 12 + seq % 2 ^ 16 * 2 ^ 16) ::
    w1 :: payload
  body ++ [raceCrc body]

/-! ### The pairs (R407-R409, R413) -/

/-- The transmit clock in kHz: 12.5 MHz × MUL, with MUL taken within 4 to 32 (R408). -/
def State.raceClock (s : State) : Nat := 12500 * max 4 (min 32 (s.f Fld.RACE_CTL_MUL))

/-- What the frame pair and the four data pairs carry at the edges of a packet: eight edges a word, its low
four bits first, the frame pair high through the header word only. -/
def raceEdges (ws : List Word) : List (Bool × Nat) :=
  ws.zipIdx.flatMap (fun (e : Word × Nat) => (List.range 8).map (fun i => (e.2 == 0, e.1.field (4 * i) 4)))

/-- The words of an edge train, eight edges each. -/
def edgeWords : List (Bool × Nat) → List Word
  | a :: b :: c :: d :: e :: f :: g :: h :: r =>
    BitVec.ofNat 32 ([a, b, c, d, e, f, g, h].foldr (fun x acc => x.2 % 16 + 16 * acc) 0) :: edgeWords r
  | _ => []

/-- The packet that the lane samples at the edges of RCK; `rck` says that RCK ran throughout. -/
def raceRead (es : List (Bool × Nat)) (rck : Bool) : RacePkt :=
  { words := edgeWords es
    frOk := es.zipIdx.all (fun e => e.1.1 == decide (e.2 < 8))
    rckOk := rck }

/-- A credit on the credit pair: high for four edges, low for four (R413). -/
def creditEdges : List Bool := List.replicate 4 true ++ List.replicate 4 false

/-! ### Outbound packets (R414, R418) -/

/-- A SYNC starts. -/
def State.startSync (s : State) : State :=
  s.updRace (fun r => { r with sending := some (.sync, racePacket 5 0 0 0 []) })

/-- A packet other than SYNC starts: it spends a credit and counts in SEQ. -/
def State.startPacket (s : State) (k : OutKind) (ty tag : Nat) (w1 : Word) (payload : List Word) : State :=
  (s.updRace (fun r => { r with
    sending := some (k, racePacket ty tag r.seq w1 payload), seq := r.seq + 1 })).setF
      Fld.RACE_STAT_CRAVAIL (s.f Fld.RACE_STAT_CRAVAIL - 1)

/-- FILL kept equal to the queue. -/
def State.showTrace (s : State) : State := s.setF Fld.RACE_TRPUSH_FILL s.race.queue.length

/-- The outbound packet that is first in priority, SYNC apart, started. -/
def State.startNext (s : State) : State :=
  match s.race.dbOut with
  | some ws => (s.startPacket .doorbell 2 0 0 ws).updRace (fun r => { r with dbOut := none })
  | none =>
    if s.race.gap ≠ 0 then
      (s.startPacket .gap 4 0 (BitVec.ofNat 32 (min 65535 s.race.gap)) []).updRace
        (fun r => { r with gap := 0 })
    else match s.race.queue with
      | [] => s
      | t :: rest =>
        ((s.startPacket .trace 3 t.tag t.stamp t.words).updRace (fun r => { r with queue := rest })).showTrace

/-- What the port sends when it is free (R412, R414, R418): SYNC back to back while the link is down,
otherwise the next packet that a credit is there for. -/
def State.raceNext (s : State) : State :=
  if !s.raceOn || s.race.sending.isSome then s
  else if !s.fb Fld.RACE_STAT_UP then s.startSync
  else if s.fb Fld.RACE_STAT_CRAVAIL then s.startNext
  else s

/-- An outbound packet other than SYNC waits. -/
def State.outWaits (s : State) : Bool :=
  s.race.dbOut.isSome || s.race.gap != 0 || !s.race.queue.isEmpty

/-! ### Link and credits (R412-R415) -/

/-- RXFREE: the free inbound buffers while the link is up (DEDUCED, log entry 30). -/
def State.showBufs (s : State) : State :=
  s.setF Fld.RACE_STAT_RXFREE (if s.fb Fld.RACE_STAT_UP then 8 - s.race.bufs.length else 0)

/-- Credits for the partner, or withheld by a dip (R415). -/
def State.giveCredits (s : State) (n : Nat) : State :=
  if n = 0 then s
  else if s.dip then s.updRace (fun r => { r with owed := r.owed + n })
  else s.send (.credit n)

/-- The link comes up (R412, R413). -/
def State.linkUp (s : State) : State :=
  (((s.updRace (fun r => { r with syncRun := 0, badRun := 0, owed := 0 })).setF
    Fld.RACE_STAT_UP 1).showBufs.level 192 false).giveCredits (8 - s.race.bufs.length)

/-- The link goes down (R412). -/
def State.linkDown (s : State) : State :=
  (((s.updRace (fun r => { r with syncRun := 0, badRun := 0, owed := 0 })).setF
    Fld.RACE_STAT_UP 0).setF Fld.RACE_STAT_CRAVAIL 0).showBufs.level 192 true

/-- The port starts (R408): what SEQ counts from is not stated. -/
def State.raceStart (s : State) : State :=
  let (w, s1) := s.takeWord
  ((s1.setF Fld.RACE_CTL_EN 1).updRace (fun r => { r with seq := w.toNat % 65536 })).linkDown.raceNext

/-- The port stops (R409); a packet that has started is completed (R418). -/
def State.raceStop (s : State) : State := (s.setF Fld.RACE_CTL_EN 0).linkDown

/-- The rule of RACE_CTL (R408): EN needs XTAL_OK, MUL is writable while EN = 0. -/
def State.wRaceCtl (s : State) (v : Word) : State :=
  let en := s.fb Fld.RACE_CTL_EN
  let s1 := if en then s else s.setF Fld.RACE_CTL_MUL (v.field 8 6)
  if v.bit 0 then (if !en && s.fb Fld.SYS_TBSEL_XTAL_OK then s1.raceStart else s1)
  else if en then s1.raceStop
  else s1

/-- The boot ROM starts the port with MUL = 8 in COMMISSION entered through the BOOT strap (R421), as soon
as XTAL_OK lets it (R408). -/
def State.romPort (s : State) : State := s.wRaceCtl 0x801

/-! ### Mailboxes and trace -/

/-- The commissioning service of the boot ROM owns the port (R98, R421). -/
def State.romOwns (s : State) : Bool := s.fb Fld.PROT_SEAL_BY_ROM && s.md == mCOMMISSION

/-- The first inbound buffer has been carried out. -/
def State.finFront (s : State) : State :=
  s.updRace (fun r => match r.bufs with
    | b :: rest => { r with bufs := { b with fin := true } :: rest }
    | [] => r)

/-- A doorbell at the front goes into the free mailbox (R416, R417). The ROM answers a code that is not in
its table with 0xFF (R421). -/
def State.deliver (s : State) : State :=
  match s.race.bufs with
  | b :: _ =>
    if b.fin || raceType b.words != 2 || s.fb Fld.RACE_STAT_DBFULL then s
    else
      let ws := racePayload b.words
      let s1 := s.each ws.zipIdx (fun t (e : Word × Nat) => t.setReg (Reg.RACE_DBIN e.2) e.1)
      let s2 := (((s1.setF Fld.RACE_DBCTL_INLEN ws.length).setF Fld.RACE_STAT_DBFULL 1).raise 193).finFront
      let code := (s2.reg (Reg.RACE_DBIN 0)).field 0 8
      if s2.romOwns && (code = 0 || decide (5 < code)) then s2.updRace (fun r => { r with rom := some 0xFF })
      else s2
  | [] => s

/-- The mailbox is freed, and a doorbell that waits at the front takes it (R417). -/
def State.freeMailbox (s : State) : State :=
  ((s.setF Fld.RACE_STAT_DBFULL 0).setF Fld.RACE_DBCTL_INLEN 0).deliver

/-- A doorbell is sent with the first `n` words of RACE_DBOUT, unless one is pending (R420). -/
def State.sendDoorbell (s : State) (n : Nat) : State :=
  if s.fb Fld.RACE_STAT_DBOBUSY then s
  else
    let ws := (List.range n).map (fun i => s.reg (Reg.RACE_DBOUT i))
    ((s.setF Fld.RACE_STAT_DBOBUSY 1).updRace (fun r => { r with dbOut := some ws })).raceNext

/-- A DBSEND length: above 16 the spec states none, and a free one is taken. -/
def State.takeLen (s : State) (n : Nat) : Nat × State :=
  if n ≤ 16 then (n, s)
  else
    let (w, s1) := s.takeWord
    (w.toNat % 17, s1)

/-- The rule of RACE_DBCTL (R417, R420): a word that acknowledges and has DBSEND = 0 sends nothing (DEDUCED, log
entry 31). -/
def State.wDbctl (s : State) (v : Word) : State :=
  let s1 := if v.bit 8 && s.fb Fld.RACE_STAT_DBFULL then s.freeMailbox else s
  if v.bit 8 && v.field 16 5 = 0 then s1
  else
    let (n, s2) := s1.takeLen (v.field 16 5)
    s2.sendDoorbell n

/-- The rule of RACE_TRPUSH (R419). -/
def State.wTrpush (s : State) (v : Word) : State :=
  let ws := (List.range (min 16 (v.field 0 5))).map (fun i => s.reg (Reg.RACE_TRSTAGE i))
  let rec1 : TraceRec := { tag := v.field 8 4, stamp := s.tnow, words := ws }
  if s.race.queue.length < 64 then
    (s.updRace (fun r => { r with queue := r.queue ++ [rec1] })).showTrace.raceNext
  else
    (((s.updRace (fun r => { r with queue := r.queue.drop 1 ++ [rec1], gap := r.gap + 1 })).showTrace.satAdd
      Fld.RACE_CNT_TRDROP 1).raise 194).raceNext

/-! ### The ROM's services (R421) -/

/-- The words of a reply. -/
def State.romReply (s : State) (code : Nat) : List Word :=
  [BitVec.ofNat 32 code, s.reg Reg.CIS_STAT, s.reg Reg.CIS_FLOOR] ++
  slots4.flatMap (fun (n : Fin 4) => [s.reg (Reg.CIS_SLOT_STATE n), s.reg (Reg.CIS_SLOT_VER n)]) ++
  [s.reg Reg.CIS_BOOTSTAT, s.reg Reg.RACE_STAT]

/-- A reply that is due goes out once the outbound mailbox is free; the ROM then takes the next
doorbell. -/
def State.romTry (s : State) : State :=
  match s.race.rom with
  | some code =>
    if s.fb Fld.RACE_STAT_DBOBUSY then s
    else
      let ws := s.romReply code
      let s1 := s.each ws.zipIdx (fun t (e : Word × Nat) => t.setReg (Reg.RACE_DBOUT e.2) e.1)
      ((s1.sendDoorbell ws.length).updRace (fun r => { r with
        rom := none, romMul := if code = 0x85 then some (s.reg (Reg.RACE_DBIN 1)).toNat else none })).freeMailbox
  | none => s

/-- The ROM carries out the service that the mailbox asks for: `h` is what it does before the reply. -/
def State.romServe (s : State) (code : Nat) (h : State → State) : State :=
  if s.live && s.romOwns && s.fb Fld.RACE_STAT_DBFULL && s.race.rom.isNone && !s.race.romWait &&
      s.race.romMul.isNone && (s.reg (Reg.RACE_DBIN 0)).field 0 8 == code then (h s).romTry
  else s

/-- The reply of a code is due. -/
def State.romDue (s : State) (code : Nat) : State :=
  s.updRace (fun r => { r with rom := some (code + 0x80) })

/-- A COMMAND's reply is due once DONE has set. -/
def State.romDone (s : State) : State :=
  if s.race.romWait then ((s.updRace (fun r => { r with romWait := false })).romDue 2).romTry else s

end Sys2Proof.Machine
end

