-- ==== Sys2Proof/Machine/BootOps.lean ====
section
/-!
DEFINITION. The boot ROM (R94), what SEAL does (R96-R99, R107, R355, R394, R437), and what a boot
takes from the wear log (R390, R437, R444).
-/

namespace Sys2Proof.Machine

/-! ### The wear log at boot -/

/-- The word at a Cistern address. -/
def Cistern.word (c : Cistern) (a : Nat) : Word := c.bytes.word a

/-- The record at a Cistern address is valid: the CRC of its words 0-14 is its word 15 (R390). -/
def Cistern.recordOk (c : Cistern) (a : Nat) : Bool :=
  crc32c (c.bytes.bytes a 60) == (c.word (a + 60)).toNat

/-- The slots of a ring at `base` with `n` records that hold any byte that is not zero: a record of
zeros only is not valid. -/
def Cistern.ringSlots (c : Cistern) (base n : Nat) : List Nat :=
  (c.bytes.filterMap (fun e =>
    if base ≤ e.1 ∧ e.1 < base + 64 * n then some ((e.1 - base) / 64) else none)).eraseDups

/-- The newest valid record of a ring: its slot and SEQ (R390). -/
def Cistern.newest (c : Cistern) (base n : Nat) : Option (Nat × Word) :=
  (c.ringSlots base n).foldl (fun acc k =>
    let a := base + 64 * k
    if !c.recordOk a then acc
    else
      let q := c.word (a + 4)
      match acc with
      | none => some (k, q)
      | some (_, q0) => if 0 < (q - q0).toNat ∧ (q - q0).toNat < 2 ^ 31 then some (k, q) else acc) none

/-- HLTH_HOURS of the newest SAMPLE (R444). -/
def Cistern.hours (c : Cistern) : Word :=
  let best := (c.ringSlots 0xE04000 16128).foldl (fun (acc : Option (Word × Word)) k =>
    let a := 0xE04000 + 64 * k
    if !(c.recordOk a && (c.word a).field 0 8 == 1) then acc
    else
      let q := c.word (a + 4)
      match acc with
      | none => some (q, c.word (a + 16))
      | some (q0, _) => if 0 < (q - q0).toNat ∧ (q - q0).toNat < 2 ^ 31 then some (q, c.word (a + 16)) else acc) none
  match best with
  | some (_, h) => h
  | none => 0

/-- The physical engine in RESERVE by the spare table (R193). -/
def WearLog.reserve (l : WearLog) : Nat := if l.retIdx ≠ 7 then l.retIdx else if l.resIdx ≠ 7 then l.resIdx else 4

/-- The five Sluice engines. -/
def sluices : List (Fin 5) := [0, 1, 2, 3, 4]

/-- The spare rows fitted to each array (R439). -/
def rowSpares (n : Nat) : Nat :=
  if n < 4 then 64 else if n < 7 then 32 else if n < 9 then 4 else if n < 14 then 8 else 4

/-- What the boot takes from the wear log and the directory (R193, R390, R437, R440, R444). -/
def State.spareApply (s : State) : State :=
  let l := s.plb.log
  let fault := s.cis.newest 0xD00000 16384
  let wear := s.cis.newest 0xE04000 16128
  let s1 := { s with plb := { s.plb with
    faultSeq := (match fault with | some (_, q) => q + 1 | none => 1)
    wearSeq := (match wear with | some (_, q) => q + 1 | none => 1)
    faultPos := (match fault with | some (k, _) => (k + 1) % 16384 | none => 0)
    wearPos := (match wear with | some (k, _) => (k + 1) % 16128 | none => 0)
    pendSite := none, priming := none, selfTest := false } }
  let s2 := ((((s1.setF Fld.PLB_SPARE_RESIDX l.resIdx).setF Fld.PLB_SPARE_RETIDX l.retIdx).setB
    Fld.PLB_SPARE_RESBAD l.resBad).setF Fld.PLB_SPARE_MRAMUSED s.cis.remapTab.length)
  let s3 := s2.each (List.range 19) (fun t n => t.setF (Fld.PLB_ROWS_USED n) (l.rows[n]?.getD 0))
  let s4 := (s3.setB Fld.PLB_STAT_BASE l.baseline.isSome).setReg Reg.HLTH_HOURS s.cis.hours
  let s5 := s4.each sluices (fun t n =>
    t.setF (Fld.SLU_STAT_STATE n) (if n.val = l.reserve then 4 else 0))
  let s6 := s5.each sluices (fun t n =>
    t.setF (Fld.PLB_SITE_STATE (2 + n.val))
      (if n.val = l.retIdx then 2 else if n.val = l.resIdx then 1 else 0))
  l.wires.foldl (fun t w => t.setF (spareFld w.1) 1) s6

/-! ### SEAL -/

/-- The engine substitution at SEAL (R437): ownership entries and the strobe group. -/
def State.substitute (s : State) (ret sub : Nat) : State :=
  let s1 := s.each bridges (fun t b =>
    let x : Field := { addr := Reg.PROT_OWNBRG, lo := 4 * b.val, w := 4 }
    if t.f x = ret + 1 then t.setF x (sub + 1) else t)
  s1.setF { addr := Reg.SYS_GRPSEL (sub / 8), lo := 4 * (sub % 8), w := 4 } (s1.groupOf ret)

/-- The engine that replaced the retired one: the only reserve is S4 (R427). -/
def substituteIdx : Nat := 4

/-- Where the Miller core and the Flume engine start, which the spec does not say: the first address of
shared memory (DESIGN CHOICE, log entry 15). -/
def startPc : Word := 0x10000000

/-- Core 1's memories take what core 0's hold, copy by copy, with the errors of its own copies (R213, R214). -/
def State.splitMemory (s : State) : State :=
  let t := s.each (s.mem.filter (fun e => inPair e.1))
    (fun t e => { t with mem := t.mem.setByte (e.1 + 0x80000) e.2 })
  { t with ecc := t.ecc ++ t.ecc1.map (fun w => w + 0x80000), ecc1 := [] }

/-- A split lane at SEAL (R99, R227). -/
def State.sealSplit (s : State) : State :=
  let s1 := ((s.setF Fld.SYS_MODE_SPLIT 1).setF Fld.MSP_STAT_SPLIT 1).setF Fld.MSP_STAT_LOCKSTEP 0
  { s1.splitMemory with pair := {} }.setEng .msp1 { pc := s.rst.core1Entry, run := .running }

/-- What SEAL does (R96): the set-up is frozen, checking starts, the engines leave reset, the Wellhead
takes its copies (R72), the safe inputs are evaluated (R394), the Leats start (R355), the watchdog
counts (R107). `byRom` is the commissioning set-up, under which no image code runs (R98) and the ROM
starts the Race port (R421). -/
def State.sealEffects (s : State) (byRom : Bool) : State :=
  let s1 := (s.setF Fld.PROT_SEAL_SEALED 1).setB Fld.PROT_SEAL_BY_ROM byRom
  let s2 := { s1 with
    rst := { s1.rst with phase0 := false, wdgOn := s1.fb Fld.SYS_WDG_EN, wdgT0 := s1.tnow }
    whd := { s1.whd with
      pmbAddr := BitVec.ofNat 7 (s1.f Fld.PWR_PMBCFG_ADDR)
      pmbExp := some (BitVec.ofNat 5 (s1.f Fld.PWR_PMBCFG_VEXP)) } }
  let ret := s2.plb.log.retIdx
  let s3 := if ret ≠ 7 then s2.substitute ret substituteIdx else s2
  let s4 := s3.each sluices (fun t n =>
    if t.f (Fld.SLU_STAT_STATE n) = 4 then t else t.updEng (.slu n) (fun x => { x with run := .stopped }))
  let go : RunState := if byRom then .stopped else .running
  let s5 := (s4.updEng .miller (fun x => { x with run := go, pc := startPc })).updEng .flume
    (fun x => { x with run := go, pc := startPc })
  let s6 := s5.sealSafe
  if byRom then s6.romPort else if s6.rst.splitLatch then s6.sealSplit else s6

/-! ### The boot ROM -/

/-- The boot halts (R95). -/
def State.halt (s : State) (code : Nat) : State :=
  ({ s with rst := { s.rst with phase0 := false } }.setF Fld.CIS_BOOTSTAT_HALT code).stopPair

/-- PMBus command codes (R55). -/
def pmbCode : XferKind → Nat
  | .voutCommand => 0x21 | .readVout => 0x8B | .statusWord => 0x79 | .voutMode => 0x20

/-- A PMBus transfer of the lane die's host to an address (R55, R57). -/
def State.sendPmb (s : State) (addr : Nat) (k : XferKind) (data : Nat) : State :=
  s.send (.pmbus addr (pmbCode k) data)

/-- A read of the boot ROM from the address in the Wellhead's copy, which it loads into PWR_PMBCFG.ADDR (R57): once
where it is answered, three times where it fails (R60). A repeat that is answered shows as one read (log entry 67). -/
def State.bootRead (s : State) (k : XferKind) (ok : Bool) : State :=
  let s1 := s.sendPmb s.whd.pmbAddr.toNat k 0
  if ok then s1 else (s1.sendPmb s.whd.pmbAddr.toNat k 0).sendPmb s.whd.pmbAddr.toNat k 0

/-- A PMBus transfer of the boot ROM has failed three times (R57, R60). -/
def State.pmbError (s : State) : State :=
  ((s.setF Fld.PWR_STAT_PMBUS_ERR 1).satAdd Fld.PWR_STAT_TOCNT 1).raise 4

/-- VOUT_MODE meets R56: LINEAR16 with an exponent from -9 to -16. -/
def voutModeOk (m : Byte) : Bool :=
  decide (m.toNat / 32 = 0) && decide (0x10 ≤ m.toNat % 32) && decide (m.toNat % 32 ≤ 0x17)

/-- 2 to the power of minus the exponent, which is coded in five bits (R56). -/
def expScale (e : Nat) : Nat := 2 ^ (32 - e % 32)

/-- The mantissa of a code (R58). -/
def mantissa (code e : Nat) : Nat := halfEven ((140 + code) * expScale e) 200

/-- The code nearest to a mantissa, halves to the even code, held within 0-50 (R124). -/
def nearestCode (m e : Nat) : Nat :=
  let q := expScale e
  if 200 * m ≤ 140 * q then 0 else min 50 (halfEven (200 * m - 140 * q) q)

/-- READ_VOUT lies within 10 mV of a code's voltage (R59). -/
def voutNear (m code e : Nat) : Bool :=
  let q := expScale e
  let a := 200 * m
  let b := (140 + code) * q
  decide (a ≤ b + 2 * q) && decide (b ≤ a + 2 * q)

/-- The READ_VOUT of step 3 (R124): after a wake the value read is the 0.80 V confirmed, so the code is 20. -/
def State.bootVout (s0 : State) (r : Option (BitVec 16)) (warm : Bool) : State :=
  let s := s0.bootRead .readVout r.isSome
  match r with
  | none => s.pmbError
  | some m =>
    let code := if warm then 20 else nearestCode m.toNat (s.f Fld.PWR_PMBCFG_VEXP)
    let s1 := (((s.setF Fld.PWR_VSTAT_TARGET code).setF Fld.PWR_VSTAT_PENDING code).setF
      Fld.PWR_VSTAT_WCODE code).setF Fld.PWR_VOUT_READ_VOUT m.toNat
    { s1 with power := { s1.power with warnArmed := true } }

/-- The journal is replayed where it is complete and discarded where it is not (R81). -/
def Cistern.replay (c : Cistern) : Cistern :=
  match c.journal with
  | some j => if j.complete then { c with dir0 := j.dir, dir1 := j.dir, journal := none } else { c with journal := none }
  | none => c

/-- A trial that was booted and never confirmed is rejected, and PREVIOUS is ACTIVE again (R92). -/
def Cistern.revert (c : Cistern) : Option Cistern :=
  match c.dir.find sTRIAL with
  | some n =>
    if c.dir.slots[n.val].booted then
      some (c.putDir (fun d => (d.setSlot n sREJECTED false).move sPREVIOUS sACTIVE))
    else none
  | none => none

/-- A slot passes R93. -/
def Cistern.passes (c : Cistern) (n : Fin 4) : Bool := c.valid n && c.aboveFloor n

/-- TRIAL as the first choice of R93: one that fails R84 is rejected. -/
def Cistern.tryTrial (c : Cistern) : Cistern × Option (Fin 4) :=
  match c.dir.find sTRIAL with
  | some n =>
    if c.passes n then (c, some n)
    else if c.valid n then (c, none)
    else (c.putDir (fun d => d.setSlot n sREJECTED false), none)
  | none => (c, none)

/-- ACTIVE as the second choice. -/
def Cistern.tryActive (c : Cistern) : Cistern × Option (Fin 4) :=
  match c.dir.find sACTIVE with
  | some n =>
    if c.passes n then (c, some n)
    else if c.valid n then (c, none)
    else (c.putDir (fun d => d.setSlot n sREJECTED false), none)
  | none => (c, none)

/-- PREVIOUS as the third choice: one that passes becomes ACTIVE. -/
def Cistern.tryPrevious (c : Cistern) : Cistern × Option (Fin 4) :=
  match c.dir.find sPREVIOUS with
  | some n => if c.passes n then (c.putDir (fun d => d.setSlot n sACTIVE false), some n) else (c, none)
  | none => (c, none)

/-- The image that boots (R93), with whether it is the TRIAL and whether it is the FALLBACK. -/
def Cistern.choose (c : Cistern) : Cistern × Option (Fin 4 × Bool × Bool) :=
  match c.tryTrial with
  | (c1, some n) => (c1, some (n, true, false))
  | (c1, none) =>
    match c1.tryActive with
    | (c2, some n) => (c2, some (n, false, false))
    | (c2, none) =>
      match c2.tryPrevious with
      | (c3, some n) => (c3, some (n, false, true))
      | (c3, none) => (c3, none)

/-- Bytes placed at core 0's own addresses from `a` up, where those are memory (R94). -/
def State.placeBytes (s : State) (a : Nat) : List Byte → State
  | [] => s
  | b :: r =>
    let s1 := match s.locate .msp0 a with
      | .mem lane _ _ false => { s with mem := s.mem.setByte lane b }
      | _ => s
    State.placeBytes s1 (a + 1) r

/-- Steps 8 and 9 begin: phase 0 of slot `n` is placed and started, by both cores from the same state (R94, R215). -/
def State.startPhase0 (s : State) (n : Fin 4) (trial : Bool) : State :=
  let c := if trial then s.cis.putDir (fun d => d.setSlot n sTRIAL true) else s.cis
  let s1 := { s with cis := c }
  let s2 := s1.placeBytes (c.ph0Load n) (c.bytes.bytes (slotBase n + 0x100 + c.ph0Off n) (c.ph0Len n))
  let s3 := ((s2.setF Fld.CIS_BOOTSTAT_RUNSLOT n.val).setB Fld.CIS_BOOTSTAT_TRIALRUN trial).showCis
  let core : EngState := { pc := BitVec.ofNat 32 (c.ph0Entry n), run := .running }
  { (s3.setEng .msp0 core).setEng .msp1 core with
    rst := { s3.rst with phase0 := true, core1Entry := BitVec.ofNat 32 (c.core1 n), succ := c.succ n } }

/-- The bit of FLAGS that belongs to a lane (R83). -/
def splitFlag (l : Lane) (flags : Nat) : Bool := flags / 2 ^ (laneIdx l).val % 2 == 1

/-- A trial was booted and never confirmed, and there is no PREVIOUS to return to (R92). -/
def Cistern.lost (c : Cistern) : Bool :=
  match c.dir.find sTRIAL with
  | some n => c.dir.slots[n.val].booted && (c.dir.find sPREVIOUS).isNone
  | none => false

/-- The trial rule, which every boot applies (R92): with BOOT high too, where no image boots (DEDUCED, log entry
23). -/
def State.bootRevert (s : State) : State :=
  match s.cis.revert with
  | some c => ({ s with cis := c }).setB Fld.CIS_BOOTSTAT_REVERTED (!s.cis.lost)
  | none => s

/-- Steps 5 to 8 (R94): the image chosen and checked, the SPLIT latch compared, phase 0 started. `lost` says that the
trial rule has left nothing to boot (R92). -/
def State.bootImage (s : State) (lost : Bool) : State :=
  if !s.cis.keyLock then s.halt 4
  else if lost then s.showCis.halt 5
  else match s.cis.choose with
    | (c, none) => ({ s with cis := c }).showCis.halt 5
    | (c, some (n, trial, fb)) =>
      let s2 := ({ s with cis := c }).setB Fld.CIS_BOOTSTAT_FALLBACK fb
      if splitFlag s.lane (c.flags n) != s.rst.splitLatch then s2.showCis.halt 6
      else s2.startPhase0 n trial

/-- Steps 3 and 4 (R94): the journal, the directory, the key well, READ_VOUT, the BOOT strap. -/
def State.bootStep3 (s : State) (env : BootEnv) (warm : Bool) : State :=
  let s1 := { s with cis := s.cis.replay }.bootVout env.readVout warm
  if !s1.cis.dir0.valid && !s1.cis.dir1.valid then s1.halt 3
  else
    let s2 := s1.bootRevert.showCis
    if env.bootStrap then (s2.sealEffects true).setMode mCOMMISSION 0x11
    else s2.bootImage s1.cis.lost

/-- Step 1 of the boot (R94): the crystal oscillator is started, one that a wake has started is on and may have settled
already (R77, R79); PWR_VSTAT shows the level of PMB_PGOOD. -/
def State.bootStarts (s : State) : State :=
  ({ s with whd := { s.whd with xtalOn := true } }.setB Fld.SYS_TBSEL_XTAL_OK s.whd.xtalOk).setB
    Fld.PWR_VSTAT_PGOOD s.rst.pgood

/-- The boot ROM (R94). -/
def State.boot (s : State) (env : BootEnv) (warm : Bool) : State :=
  let s0 := (s.bootStarts.setB Fld.CIS_BOOTSTAT_WARM warm).setF Fld.PWR_PMBCFG_ADDR s.whd.pmbAddr.toNat
  let s1 := { s0 with power := { s0.power with warnArmed := false } }.bootRead .voutMode env.voutMode.isSome
  match env.voutMode with
  | none => (s1.pmbError.setF Fld.PWR_STAT_MODE_BAD 1).halt 1
  | some m =>
    if !voutModeOk m then (s1.setF Fld.PWR_STAT_MODE_BAD 1).halt 1
    else
      let s2 := s1.setF Fld.PWR_PMBCFG_VEXP (m.toNat % 32)
      if !env.injectPass then s2.halt 2
      else ({ s2 with rst := { s2.rst with injHold := false } }).bootStep3 env warm

/-- The Wellhead hands its logged firings to the cleared Catchment (R241). -/
def State.handover (s : State) : State :=
  s.each (List.range 9) (fun t i =>
    let n := 7 + i
    if !t.fb (Fld.WHD_WATCH_LOGGED n) then t
    else
      let t1 := t.setF (Fld.CAT_CNT_COUNT (16 + i)) (t.f (Fld.WHD_WATCH_CNT n))
      let t2 := t1.setB (Fld.CAT_CNT_SAT (16 + i)) (t.fb (Fld.WHD_WATCH_LSAT n))
      ((t2.setF (Fld.WHD_WATCH_LOGGED n) 0).setF (Fld.WHD_WATCH_CNT n) 0).setF (Fld.WHD_WATCH_LSAT n) 0)

end Sys2Proof.Machine
end

