-- ==== Sys2Proof/Machine/Reset.lean ====
section
/-!
DEFINITION. Resets and the boot (R46, R52, R68, R106-R108, R119-R124), the timebases (R17-R19, R79)
and the watchdog (R107, R108).
-/

namespace Sys2Proof.Machine

/-- POR (R68): a rail below its reset threshold, in every phase, also with VCORE switched off (DESIGN CHOICE, log
entry 67). -/
def execPor (_rail : Rail) (s : State) : Host.Outcome State Fault Refusal := .next (s.assertReset .por)

/-- POR_RELEASE (R46, R52, R53): the rails have recovered, with the regulator at 0.80 V and PMB_PGOOD high; SPLIT is
latched. -/
def execPorRelease (split : Bool) (s : State) : Host.Outcome State Fault Refusal :=
  .next (if s.rst.porHold then
    { s with rst := { s.rst with porHold := false, splitLatch := split, pgood := true } } else s)

/-- RST_N (R119): below 100 ns ignored, from 1 µs a reset, between them either. -/
def execRstN (widthNs : Nat) (s : State) : Host.Outcome State Fault Refusal :=
  .next (
    if widthNs < 100 then s
    else if 1000 ≤ widthNs then s.assertReset .rstN
    else
      let (hit, s1) := s.takeBit
      if hit then s1.assertReset .rstN else s1)

/-- The rule of SYS_RSTCTL (R106). -/
def State.wRstctl (s : State) (e : Engine) (v : Word) : WOut :=
  s.mspOnly e (
    if v.field 16 16 = 0x50F7 && !s.fb Fld.SYS_MODE_STOPPING &&
        (s.md = mBOOT || s.md = mCOMMISSION || s.md = mREADY || s.md = mSERVICE)
    then s.assertReset .soft else s)

/-- A reset is released (R119, R120): CAUSE, what the drive die and the Wellhead kept, the spare table,
and the boot. -/
def State.release (s : State) (k : ResetKind) (env : BootEnv) : State :=
  let s1 := { s with rst := { s.rst with asserted := none } }.setF Fld.SYS_MODE_CAUSE (resetCause k)
  let s2 := s1.relevel.spareApply
  (if k = .por then s2 else s2.handover).boot env false

/-- RESET_RELEASE (R94, R120). -/
def execResetRelease (env : BootEnv) (s : State) : Host.Outcome State Fault Refusal :=
  .next (
    match s.rst.asserted with
    | some k => if s.rst.porHold then s else s.release k env
    | none => s)

/-- SEAL_LATE (R95): 500 ms of phase 0 without SEAL. -/
def execSealLate (s : State) : Host.Outcome State Fault Refusal :=
  .next (if s.live && s.rst.phase0 then s.halt 7 else s)

/-- Whether any bridge has RUN set. -/
def State.anyRun (s : State) : Bool := bridges.any (fun b => s.fb (Fld.BRG_CTL_RUN b))

/-- The rule of SYS_TBSEL (R19). -/
def State.wTbsel (s : State) (v : Word) : State :=
  let want := v.field 0 2
  let at_ := s.f Fld.SYS_TBSEL_ACTIVE
  let ok := (at_ == 0 && want == 1 && s.fb Fld.SYS_TBSEL_DLL_LOCK) ||
    (at_ == 1 && want == 2 && s.ksync) || (at_ == 1 && want == 0) ||
    (at_ == 2 && want == 1 && !(s.inRun || s.md == mSAFEHOLD || s.md == mSERVICE || s.anyRun))
  if ok then s.setF Fld.SYS_TBSEL_SEL want else s

/-- TIMEBASE_STEP (R19): at the next 1 µs boundary. The CAN controllers follow (R423). -/
def execTimebaseStep (s : State) : Host.Outcome State Fault Refusal :=
  .next (
    if s.live then
      ((s.setF Fld.SYS_TBSEL_ACTIVE (s.f Fld.SYS_TBSEL_SEL)).canTimebase 0).canTimebase 1
    else s)

/-- A fault of the lane in any mode that ends in a resign-reset (R18, R371, R372): a lane with no role
has nothing to resign from and resets at once. -/
def State.faultReset (s : State) : State :=
  if s.mode.window.isSome then s
  else if s.inRun then s.ownFault
  else if 2 ≤ s.f Fld.SYS_MODE_ROLE then s.depart State.resignBridges
  else if s.f Fld.SYS_MODE_ROLE = 1 then s.depart State.inertBridges
  else s.assertReset .resign

/-- DLL_LOCK_LOST (R18). -/
def execDllLockLost (s : State) : Host.Outcome State Fault Refusal :=
  .next (
    if !s.live then s
    else
      let s1 := s.setF Fld.SYS_TBSEL_DLL_LOCK 0
      if s.f Fld.SYS_TBSEL_ACTIVE = 0 then s1
      else ((s1.setF Fld.SYS_TBSEL_LOCK_LOST 1).level 8 true).faultReset)

/-- XTAL_OK (R79): on an oscillator that a wake has started it may come before the release of the clamps. -/
def execXtalOk (s : State) : Host.Outcome State Fault Refusal :=
  .next (
    if s.live then
      let s1 := { s.setF Fld.SYS_TBSEL_XTAL_OK 1 with whd := { s.whd with xtalOk := true } }
      if s1.romOwns then s1.romPort else s1
    else if s.whd.xtalOn then { s with whd := { s.whd with xtalOk := true } }
    else s)

/-- DLL_LOCK (R79): after XTAL_OK. -/
def execDllLock (s : State) : Host.Outcome State Fault Refusal :=
  .next (if s.live && s.fb Fld.SYS_TBSEL_XTAL_OK then s.setF Fld.SYS_TBSEL_DLL_LOCK 1 else s)

/-- The rule of SYS_WDG (R107): EN with PERIOD below 4 is ignored as a whole. -/
def State.wWdg (s : State) (v : Word) : State :=
  if v.bit 31 && decide (v.field 0 16 < 4) then s else s.plainWrite Reg.SYS_WDG v

/-- The rule of SYS_WDGKICK (R107). -/
def State.wWdgkick (s : State) (e : Engine) (v : Word) : WOut :=
  s.millerOnly e (if v.field 0 16 = 0xB0D4 then { s with rst := { s.rst with wdgT0 := s.tnow } } else s)

/-- The Miller core is halted by the timeout in SIMPLEX, and the reset is deferred (R108). -/
def State.deferWatchdog (s : State) : State :=
  let s1 := (s.updEng .miller (fun x => { x with run := .halted })).level 12 true
  { s1 with mode := { s1.mode with deferred := true } }.ownFault

/-- WATCHDOG_TIMEOUT (R107, R108, R371, R372). -/
def execWatchdogTimeout (s : State) : Host.Outcome State Fault Refusal :=
  .next (
    if !(s.live && s.rst.wdgOn) || s.mode.deferred then s
    else if s.md = mSIMPLEX then s.deferWatchdog
    else if s.inRun then (s.resignBridges.sendDepart .fault).assertReset .watchdog
    else s.assertReset .watchdog)

end Sys2Proof.Machine
end

