-- ==== Sys2Proof/Machine/Power.lean ====
section
/-!
DEFINITION. Voltage requests over PMBus, the governor's requests and the supply's events (R54-R65,
R67).
-/

namespace Sys2Proof.Machine

/-- What the VANA monitor reports (R54). -/
def State.setVana (s : State) (low : Bool) : State := { s with rst := { s.rst with vanaUv := low } }

/-- VANA_UV (R54): a lane that is not running keeps the condition for its release (R235). The fault is that of the
event; a bit already set when a RUN mode is entered is none (DESIGN CHOICE, log entry 67). -/
def execVanaUv (s : State) : Host.Outcome State Fault Refusal :=
  .next (
    if !s.live then s.setVana true
    else if s.fb Fld.PWR_BOW_VANA_UV then s
    else
      let s1 := ((s.setVana true).setF Fld.PWR_BOW_VANA_UV 1).level 3 true
      if s1.inRun then s1.ownFault else s1)

/-- VANA_UV_CLEAR (R54). -/
def execVanaUvClear (s : State) : Host.Outcome State Fault Refusal :=
  .next (if s.live then ((s.setVana false).setF Fld.PWR_BOW_VANA_UV 0).level 3 false else s.setVana false)

/-- The exponent in force (R56). -/
def State.vexp (s : State) : Nat := s.f Fld.PWR_PMBCFG_VEXP

/-- A transfer starts, or is repeated, to the address in PWR_PMBCFG (R55, R57, R60). -/
def State.startXfer (s : State) (k : XferKind) (fails : Nat) : State :=
  let data := match k, s.power.vreq with
    | .voutCommand, some c => mantissa c s.vexp
    | _, _ => 0
  { s with power := { s.power with xfer := some { kind := k, fails := fails } } }.sendPmb (s.f Fld.PWR_PMBCFG_ADDR) k data

/-- The next transfer that waits, when none is in progress (R59, R61). -/
def State.nextXfer (s : State) : State :=
  if s.power.xfer.isSome then s
  else if s.power.cmdDue then { s with power := { s.power with cmdDue := false } }.startXfer .voutCommand 0
  else if s.power.alertDue then { s with power := { s.power with alertDue := false } }.startXfer .statusWord 0
  else s

/-- A request is sent (R58, R59, R67). -/
def State.startRequest (s : State) (code : Nat) : State :=
  let s1 := ((s.setF Fld.PWR_VSTAT_PENDING code).setF Fld.PWR_PMBCFG_PMB_BUSY 1).setF
    Fld.PWR_VSTAT_WCODE (min (s.f Fld.PWR_VSTAT_WCODE) code)
  { s1 with power := { s1.power with vreq := some code, cmdDue := true } }.nextXfer

/-- The request outstanding ends; a low-power request that waited for it is evaluated again, with every condition of
R73 (DESIGN CHOICE, log entry 67). -/
def State.requestEnded (s : State) : State :=
  let s1 := { s.setF Fld.PWR_PMBCFG_PMB_BUSY 0 with power := { s.power with vreq := none, cmdDue := false } }
  match s1.mode.request with
  | some t => if s1.mode.lpWait then
      { s1 with mode := { s1.mode with lpWait := false } }.evaluate t else s1
  | none => s1

/-- A request is acknowledged (R59, R67, R124), and STATUS_WORD is read after it (R55). -/
def State.acknowledge (s : State) (code : Nat) : State :=
  let s1 := ((s.setF Fld.PWR_VSTAT_TARGET code).setF Fld.PWR_VSTAT_PENDING code).setF Fld.PWR_VSTAT_WCODE code
  let s2 := { s1 with power := { s1.power with warnArmed := true, alertDue := true } }
  s2.requestEnded

/-- A request is abandoned (R60): WCODE keeps its value (R67). -/
def State.abandon (s : State) : State :=
  let s1 := s.setF Fld.PWR_VSTAT_PENDING (s.f Fld.PWR_VSTAT_TARGET)
  let keep := match s1.power.xfer with
    | some x => if x.kind = .statusWord then some x else none
    | none => none
  ({ s1 with power := { s1.power with xfer := keep } }).requestEnded.abortBaseline

/-- The rule of PWR_VREQ (R62, R227). -/
def State.wVreq (s : State) (e : Engine) (v : Word) : WOut :=
  if !s.super e then .priv
  else
    let go := if !s.fb Fld.PWR_GOV_EN && !s.fb Fld.PWR_PMBCFG_PMB_BUSY && v.field 0 6 ≤ 50 then
        (s.setF Fld.PWR_VREQ_CODE (v.field 0 6)).startRequest (v.field 0 6) else s
    match e with
    | .msp0 => .done go
    | .miller => .done go
    | .msp1 => .priv
    | _ => .done s

/-- The governor's target (R63). -/
def State.govTarget (s : State) : Nat :=
  min (s.f Fld.PWR_GOV_CEIL) (max (s.f Fld.PWR_GOV_FLOOR) (20 + s.f Fld.PWR_GOV_WEAR + s.f Fld.PWR_GOV_OVR))

/-- A request towards a code, in steps of at most 5 codes (R63, R431). -/
def State.requestStep (s : State) (goal : Nat) : State :=
  let p := s.f Fld.PWR_VSTAT_PENDING
  if goal = p then s
  else s.startRequest (if p < goal then min goal (p + 5) else max goal (p - 5))

/-- The next request while baselining (R431): towards the code to be measured; a code that has been
acknowledged is measured, and the next follows; the last goal is the governor's target. -/
def State.baseRequest (s : State) : State :=
  match s.plb.baseGoals with
  | c :: rest =>
    if s.f Fld.PWR_VSTAT_TARGET = c then
      { s with plb := { s.plb with baseGoals := rest } }.requestStep (rest.headD s.govTarget)
    else s.requestStep c
  | [] => s.requestStep s.govTarget

/-- GOVERNOR_REQUEST (R63); while baselining the governor is suspended, and the Miller core requests the
codes of the baseline (R431). -/
def execGovernorRequest (s : State) : Host.Outcome State Fault Refusal :=
  .next (
    if !s.live || s.fb Fld.PWR_PMBCFG_PMB_BUSY then s
    else if s.fb Fld.PLB_STAT_BUSY then s.baseRequest
    else if !s.fb Fld.PWR_GOV_EN then s
    else s.requestStep s.govTarget)

/-- READ_VOUT_POLL (R59). -/
def execReadVoutPoll (s : State) : Host.Outcome State Fault Refusal :=
  .next (
    if s.live && s.power.vreq.isSome && s.power.xfer.isNone && !s.power.cmdDue then s.startXfer .readVout 0
    else s)

/-- Bits [15:11], [6:2] and [0] of STATUS_WORD (R61). -/
def statusFault (v : BitVec 16) : Bool := (v &&& 0xF87D) != 0

/-- A STATUS_WORD value read (R61). -/
def State.statusRead (s : State) (v : BitVec 16) : State :=
  let s1 := s.setF Fld.PWR_VOUT_STATUS v.toNat
  if statusFault v then (s1.setF Fld.PWR_STAT_REG_FAULT 1).raise 0 else s1

/-- PMB_PGOOD at a level: PWR_VSTAT.PGOOD shows it, and a fall with no request outstanding sets PGOOD_LOST (R61). -/
def State.setPgood (s : State) (on : Bool) : State :=
  let s1 := { s.setB Fld.PWR_VSTAT_PGOOD on with rst := { s.rst with pgood := on } }
  if s.rst.pgood && !on && s.power.vreq.isNone then (s1.setF Fld.PWR_STAT_PGOOD_LOST 1).raise 0 else s1

/-- A transfer that succeeded. -/
def State.xferOk (s : State) (k : XferKind) (d : BitVec 16) (pgood : Bool) : State :=
  let s1 := { s.setPgood pgood with power := { s.power with xfer := none } }
  match k with
  | .voutCommand => s1
  | .readVout =>
    let s2 := s1.setF Fld.PWR_VOUT_READ_VOUT d.toNat
    match s2.power.vreq with
    | some c => if pgood && voutNear d.toNat c s2.vexp then s2.acknowledge c else s2
    | none => s2
  | .statusWord => s1.statusRead d
  | .voutMode => s1

/-- A transfer that failed: repeated at once, at most twice (R60). -/
def State.xferFail (s : State) (x : Xfer) : State :=
  if x.fails + 1 < 3 then s.startXfer x.kind (x.fails + 1)
  else
    let s1 := s.pmbError
    match x.kind with
    | .statusWord => { s1 with power := { s1.power with xfer := none } }
    | _ => s1.abandon

/-- PMBUS_TRANSFER_END (R55, R59-R61). -/
def execPmbusTransferEnd (r : XferResult) (s : State) : Host.Outcome State Fault Refusal :=
  .next (
    if !s.live then s
    else match s.power.xfer with
      | none => s
      | some x =>
        (match r with
          | .ok d pgood => s.xferOk x.kind d pgood
          | .nack => s.xferFail x
          | .pecBad => s.xferFail x).nextXfer)

/-- PMBUS_TIMEOUT (R60). -/
def execPmbusTimeout (s : State) : Host.Outcome State Fault Refusal :=
  .next (
    if s.live && s.power.vreq.isSome then
      (((s.setF Fld.PWR_STAT_PMBUS_TIMEOUT 1).satAdd Fld.PWR_STAT_TOCNT 1).raise 4).abandon.nextXfer
    else s)

/-- PMB_ALERT (R61). -/
def execPmbAlert (s : State) : Host.Outcome State Fault Refusal :=
  .next (if s.live then { s with power := { s.power with alertDue := true } }.nextXfer else s)

/-- STATUS_WORD_READ (R61): the read in progress ends with its value. -/
def execStatusWordRead (v : BitVec 16) (s : State) : Host.Outcome State Fault Refusal :=
  .next (
    match s.power.xfer with
    | some x => if s.live && x.kind = .statusWord then
        ({ s with power := { s.power with xfer := none } }.statusRead v).nextXfer else s
    | none => s)

/-- PGOOD_LOST (R61): PMB_PGOOD falls. While the lane die is in reset or unpowered only the level changes. -/
def execPgoodLost (s : State) : Host.Outcome State Fault Refusal :=
  .next (
    if !s.live then { s with rst := { s.rst with pgood := false } }
    else
      let s1 := { s.setF Fld.PWR_VSTAT_PGOOD 0 with rst := { s.rst with pgood := false } }
      if s.power.vreq.isSome then s1 else (s1.setF Fld.PWR_STAT_PGOOD_LOST 1).raise 0)

/-- OVR_DECAY (R64). -/
def execOvrDecay (s : State) : Host.Outcome State Fault Refusal :=
  .next (if s.live then s.setF Fld.PWR_GOV_OVR (s.f Fld.PWR_GOV_OVR - 1) else s)

/-! ### Low power -/

/-- LOW_POWER_CLAMP (R71, R73): once the Cistern write in progress has completed. -/
def execLowPowerClamp (s : State) : Host.Outcome State Fault Refusal :=
  .next (
    if s.live && s.whd.phase = .armed && s.cisIdle then
      { s with whd := { s.whd with phase := .clamped, sameEdge := false } }
    else s)

/-- A PMBus transfer of the Wellhead, to the address in its copy (R72). -/
def State.whdPmb (s : State) (code data : Nat) : State := s.send (.pmbus s.whd.pmbAddr.toNat code data)

/-- The exponent in the Wellhead's copy (R72); every low-power entry takes one. -/
def State.whdExp (s : State) : Nat := match s.whd.pmbExp with | some x => x.toNat | none => 0

/-- The Wellhead's attempt to bring VCORE up (R77): VOUT_COMMAND for 0.80 V, then OPERATION. -/
def State.wakePower (s : State) : State :=
  let s1 := { s with whd := { s.whd with phase := .waking, tries := s.whd.tries + 1 } }
  ((s1.setF Fld.WHD_WAKESTAT_VTRIES (s.whd.tries + 1)).whdPmb 0x21 (mantissa 20 s.whdExp)).whdPmb 0x01 0x80

/-- A wake begins (R74, R76, R77): the crystal oscillator is started. -/
def State.startWake (s : State) (src : BitVec 4) : State :=
  let s1 := (((s.setF Fld.WHD_WAKESTAT_SRC src.toNat).setF Fld.WHD_WAKESTAT_VFAIL 0).satAdd
    Fld.WHD_WAKESTAT_WCNT 1).arm false
  { s1 with whd := { s1.whd with wakeSrc := none, tries := 0, sameEdge := false, xtalOn := true } }.wakePower

/-- A wake source on the slow-clock edge of the latest one takes its place where its SRC code is lower (R76). -/
def State.lowerSrc (s : State) (old src : BitVec 4) : Bool := s.whd.sameEdge && src.ult old

/-- A wake source is detected (R74-R76): latched during entry, acted on in the low-power mode. Sources with no tick
and no step of the sequence between them are on one slow-clock edge, of which the lowest SRC is recorded (DESIGN
CHOICE, log entry 67). -/
def State.wake (s : State) (src : BitVec 4) : State :=
  let latch : State :=
    match s.whd.wakeSrc with
    | some old =>
      if s.lowerSrc old src then { s with whd := { s.whd with wakeSrc := some src } } else s
    | none => { s with whd := { s.whd with wakeSrc := some src, sameEdge := true } }
  if s.inReset then s
  else match s.whd.phase with
    | .armed => latch
    | .clamped => latch
    | .asleep => let s1 := s.startWake src; { s1 with whd := { s1.whd with sameEdge := true } }
    | .waking =>
      if s.lowerSrc (BitVec.ofNat 4 (s.f Fld.WHD_WAKESTAT_SRC)) src then s.setF Fld.WHD_WAKESTAT_SRC src.toNat else s
    | _ => s

/-- LOW_POWER_ENTERED (R73, R74, R121): VCORE is off; a wake that was latched takes its course. -/
def execLowPowerEntered (s : State) : Host.Outcome State Fault Refusal :=
  .next (
    if s.inReset || s.whd.phase ≠ .clamped then s
    else
      let standby := s.whd.target = 8
      let s1 := (s.cleared false standby).settleAll
      let s2 := ((s1.setF Fld.SYS_MODE_MODE s.whd.target.toNat).setF Fld.SYS_MODE_PREV mREADY).setF
        Fld.SYS_MODE_CAUSE 0x10
      let s3 := { s2.whdPmb 0x01 0x40 with
        whd := { s2.whd with phase := .asleep, sameEdge := false, xtalOn := false, xtalOk := false }
        rst := { s2.rst with pgood := false } }
      match s3.whd.wakeSrc with
      | some src => s3.startWake src
      | none => s3)

/-- KNAOR_ACTIVITY_WAKE (R75). -/
def execKnaorActivityWake (ch : Fin 2) (s : State) : Host.Outcome State Fault Refusal :=
  .next (
    if ch = 0 then (if s.detectorOn 0 then s.wake 1 else s)
    else (if s.detectorOn 2 then s.wake 3 else s))

/-- KNAOR_WAKE_PATTERN (R75). -/
def execKnaorWakePattern (ch : Fin 2) (s : State) : Host.Outcome State Fault Refusal :=
  .next (
    if ch = 0 then (if s.detectorOn 1 then s.wake 2 else s)
    else (if s.detectorOn 3 then s.wake 4 else s))

/-- ENA_WAKE (R75). -/
def execEnaWake (s : State) : Host.Outcome State Fault Refusal :=
  .next (if s.detectorOn 4 then s.wake 5 else s)

/-- SAFE_WIRE_WAKE (R75). -/
def execSafeWireWake (s : State) : Host.Outcome State Fault Refusal :=
  .next (if s.detectorOn 5 then s.wake 6 else s)

/-- WAKE_TIMER (R75): counted from the completion of entry; a period of 0 stops it. -/
def execWakeTimer (s : State) : Host.Outcome State Fault Refusal :=
  .next (
    if s.detectorOn 6 && s.fb Fld.WHD_WTIMER_PERIOD && s.whd.phase = .asleep then s.wake 7 else s)

/-- WAKE_POWER_CONFIRMED (R27, R72, R77, R94, R241): PMB_PGOOD is high and READ_VOUT, judged with the exponent in the
Wellhead's copy, lies within 10 mV of 0.80 V; the clamps are released and the warm boot runs. A value farther off
confirms nothing. -/
def execWakePowerConfirmed (w : WakeEnv) (s : State) : Host.Outcome State Fault Refusal :=
  .next (
    if s.inReset || s.whd.phase ≠ .waking || !voutNear w.vout.toNat 20 s.whdExp then s
    else
      let standby := s.whd.target = 8
      let s1 := ((s.whdPmb 0x8B 0).cleared false standby).settleAll
      let s2 := { s1 with whd := { s1.whd with phase := .awake, tries := 0, sameEdge := false }
                          rst := { s1.rst with pgood := true } }
      let s3 := (s2.setF Fld.SYS_MODE_PREV s.whd.target.toNat).setF Fld.SYS_MODE_CAUSE
        (if standby then 0x06 else 0x07)
      s3.relevel.spareApply.handover.boot w.boot true)

/-- WAKE_POWER_TIMEOUT (R78): the eighth stops the crystal oscillator as well. -/
def execWakePowerTimeout (s : State) : Host.Outcome State Fault Refusal :=
  .next (
    if s.inReset || s.whd.phase ≠ .waking then s
    else
      let s1 := s.whdPmb 0x01 0x40
      if 8 ≤ s.whd.tries then
        ({ s1.setF Fld.WHD_WAKESTAT_VFAIL 1 with
            whd := { s1.whd with phase := .asleep, sameEdge := false, xtalOn := false, xtalOk := false } }).arm true
      else { s1 with whd := { s1.whd with phase := .retryWait, sameEdge := false } })

/-- WAKE_RETRY (R78). -/
def execWakeRetry (s : State) : Host.Outcome State Fault Refusal :=
  .next (if s.inReset || s.whd.phase ≠ .retryWait then s else s.wakePower)

end Sys2Proof.Machine
end

