-- ==== Sys2Proof/Machine/Drive.lean ====
section
/-!
DEFINITION. The drive die's events (chapter 11): gates, bootstrap, faults and their location, ENA,
VDRV, the motor supply and the spillway, and the software demand.
-/

namespace Sys2Proof.Machine

/-- One leg as a mask. -/
def legBit (k : Fin 3) : BitVec 3 := BitVec.ofNat 3 (2 ^ k.val)

/-- DEAD_TIME_END (R244, R245): the commanded gate turns on. -/
def execDeadTimeEnd (b : Fin 5) (k : Fin 3) (s : State) : Host.Outcome State Fault Refusal :=
  .next (
    let x := s.leg b k
    if x.gate == .inert && x.cmd != .inert then
      (s.updLeg b k (fun y => { y with gate := y.cmd })).showGate b k
    else s)

/-- GATE_STUCK (R246): a located shorted switch on the side of the stuck gate. -/
def execGateStuck (b : Fin 5) (k : Fin 3) (high : Bool) (s : State) : Host.Outcome State Fault Refusal :=
  .next (
    let on := (s.leg b k).gate == (if high then .high else .low)
    if s.legUsed b k && !on then
      s.latchFault b 5 (if high then legBit k else 0) (if high then 0 else legBit k)
    else s)

/-- A period that contains a BST_UV counts against its leg; the third in a row is a BST_LEG fault
(R250). -/
def State.countUv (s : State) (b : Fin 5) (k : Fin 3) : State :=
  if (s.leg b k).uvSeen then s
  else
    let n := min 3 (s.f (Fld.BRG_LEG_STAT_UVRUN b k) + 1)
    let s1 := (s.updLeg b k (fun x => { x with uvSeen := true })).setF (Fld.BRG_LEG_STAT_UVRUN b k) n
    if n = 3 then s1.latchFault b 6 0 0 else s1

/-- BST_UV (R250): only in PWM operation, with _GH on. -/
def execBstUv (b : Fin 5) (k : Fin 3) (s : State) : Host.Outcome State Fault Refusal :=
  .next (
    if s.legUsed b k && (s.leg b k).gate == .high && s.bstate b == .driving then
      let s1 := (s.updLeg b k (fun x => { x with refresh := true })).settle b
      let s2 := (s1.raise (64 + 4 * b + 1)).setF (Fld.BRG_PSTAT_BSTUV b)
        ((BitVec.ofNat 3 (s1.f (Fld.BRG_PSTAT_BSTUV b)) ||| legBit k).toNat)
      (s2.satAdd Fld.DRV_CNT_UVCNT 1).countUv b k
    else s)

/-- REFRESH_PULSE_END (R250): the leg returns to its commanded state. -/
def execRefreshPulseEnd (b : Fin 5) (k : Fin 3) (s : State) : Host.Outcome State Fault Refusal :=
  .next (
    if (s.leg b k).refresh then (s.updLeg b k (fun x => { x with refresh := false })).settle b else s)

/-- CHARGE_PUMP_FAIL (R252): the pump runs while B0 has a leg in use and VDRV is good. -/
def execChargePumpFail (s : State) : Host.Outcome State Fault Refusal :=
  .next (
    if s.legMask 0 != 0 && s.drv.vdrvOk && !s.rst.porHold then s.setF Fld.DRV_STAT_CP_FAIL 1 else s)

/-- VDS_TRIP (R253): a trip on a low-side switch locates the high side of its leg, and the other way
round; one that comes with a fast comparator trip finds its switch commanded off already (R255). -/
def execVdsTrip (b : Fin 5) (k : Fin 3) (high : Bool) (s : State) : Host.Outcome State Fault Refusal :=
  .next (
    if s.legUsed b k && ((s.leg b k).gate == (if high then .high else .low) || (s.bridge b).vdsDue) then
      (s.updBrg b (fun x => { x with vdsDue := false })).latchFault b (if high then 2 else 3) (if high then 0 else legBit k) (if high then legBit k else 0)
    else s)

/-- Every leg of a bridge commanded inert, before its state decides again (R255). -/
def State.legsOff (s : State) (b : Fin 5) : State :=
  s.each legs3 (fun t k => (t.updLeg b k (fun x => x.take .inert)).showGate b k)

/-- FAST_COMPARATOR_TRIP (R255, R256): with a VDS trip of the same bridge within 150 ns that trip says
where the fault lies (DEDUCED, log entry 16), and until it has set the latch every leg stays inert; otherwise a motor bridge
locates and an ALLOFF bridge goes all-off. -/
def execFastComparatorTrip (b : Fin 5) (withVds : Bool) (s : State) : Host.Outcome State Fault Refusal :=
  .next (
    if s.legMask b = 0 || (s.bridge b).locating then s
    else if withVds then
      ((s.legsOff b).updBrg b (fun x => { x with vdsDue := !(x.latch.held && !x.latch.resign) })).settle b
    else
      let s1 := (s.legsOff b).latchFault b 4 0 0
      if s.motor b then (s1.updBrg b (fun x => { x with locating := true })).settle b else s1)

/-- LOCATE_WINDOW_END (R257, R258): the located faults choose the state; with every leg held inert by
ENA or VDRV no pulse was made. -/
def execLocateWindowEnd (b : Fin 5) (loch locl untest : BitVec 3) (s : State) :
    Host.Outcome State Fault Refusal :=
  .next (
    if !(s.bridge b).locating then s
    else
      let m := s.legMask b
      let pulsed := s.drv.ena && s.drv.vdrvOk
      let h := if pulsed then loch &&& m else 0
      let l := if pulsed then locl &&& m &&& ~~~untest else 0
      let u := if pulsed then untest &&& m else 0
      (s.updBrg b (fun x => { x with
        locating := false
        latch := { x.latch.locate h l with untest := x.latch.untest ||| u } })).settle b)

/-- UPPER_SHORT_LOST (R260): only on a bridge without charge pump, by a leg whose own high side is not
located as faulty. -/
def execUpperShortLost (b : Fin 5) (k : Fin 3) (s : State) : Host.Outcome State Fault Refusal :=
  .next (
    if s.bstate b == .upperShort && s.legUsed b k && !(s.bridge b).latch.locH.getLsbD k &&
        (b != 0 || s.fb Fld.DRV_STAT_CP_FAIL) then
      (s.updBrg b (fun x => { x with latch := { x.latch with ulost := true } })).settle b
    else s)

/-! ### ENA and VDRV -/

/-- What ENA low does to a lane in a RUN mode (R29, R264, R360, R373): READY at once, with a RESIGN or
LEAVE of kind ENA and no role. -/
def State.enaLeave (s : State) : State :=
  if s.live && s.inRun then
    let s1 := (s.sendDepart .ena).cutCopy.dropRole
    ({ s1 with mode := { s1.mode with forming := none } }.setMode mREADY 0x22)
  else s

/-- ENA_FALL (R264). -/
def execEnaFall (s : State) : Host.Outcome State Fault Refusal :=
  .next (
    if !s.drv.ena then s
    else
      let s1 := ({ s with drv := { s.drv with ena := false } }.each bridges State.abortCatch).settleAll
      (s1.raise 89).enaLeave)

/-- What a rise of ENA clears of a bridge (R265): its latch and its BST_UV counts; it stays inert until
its owner starts PWM again. -/
def State.clearBridge (s : State) (b : Fin 5) : State :=
  let s1 := s.updBrg b (fun x => { x with latch := {}, locating := false, vdsDue := false })
  let s2 := s1.each legs3 (fun t k =>
    (t.updLeg b k (fun x => { x with uvSeen := false })).setF (Fld.BRG_LEG_STAT_UVRUN b k) 0)
  (s2.level (64 + 4 * b) false).stopPwm b

/-- Every latch, SPILL_FAULT, CP_FAIL and the BST_UV counts cleared (R265, R272). -/
def State.clearLatches (s : State) : State :=
  let s1 := ((s.setF Fld.DRV_STAT_SPILL_FAULT 0).setF Fld.DRV_STAT_CP_FAIL 0).setF Fld.DRV_STAT_OV3 0
  let s2 := (s1.setB Fld.DRV_STAT_OV2 s.drv.ov2)
  (((s2.level 85 s.drv.ov2).level 86 false).level 87 false).each bridges State.clearBridge

/-- A latch on every bridge with a leg in use (R262). -/
def State.latchAll (s : State) (cause : Nat) : State :=
  s.each bridges (fun t b => if t.legMask b = 0 then t else t.latchFault b cause 0 0)

/-- OV3 latches every bridge in use (R269); a fault of the lane itself (R263). -/
def State.latchOv3 (s : State) : State := ((s.setF Fld.DRV_STAT_OV3 1).level 86 true).latchAll 8

/-- ENA_RISE (R265): `lowNs` is how long ENA was low, `ov3` whether VMOT is at or above 72 V. -/
def execEnaRise (lowNs : Nat) (ov3 : Bool) (s : State) : Host.Outcome State Fault Refusal :=
  .next (
    if s.drv.ena then s
    else
      let (either, s0) := if 8000 ≤ lowNs ∧ lowNs < 10000 then s.takeBit else (decide (10000 ≤ lowNs), s)
      let s1 := { s0 with drv := { s0.drv with ena := true } }
      let s2 := if either then
          let t := s1.clearLatches
          let t1 := if t.drv.vdrvOk then t else t.latchAll 7
          if ov3 then t1.latchOv3 else t1
        else s1
      s2.settleAll.raise 89)

/-- The lane's own reaction to VDRV_UV, OV3 and SPILL_FAULT (R263). -/
def State.driveFault (s : State) : State := if s.live then s.ownFault else s

/-- VDRV_UNDERVOLTAGE (R268). -/
def execVdrvUndervoltage (s : State) : Host.Outcome State Fault Refusal :=
  .next (
    if !s.drv.vdrvOk then s
    else
      let s1 := ({ s with drv := { s.drv with vdrvOk := false } }.setF Fld.DRV_STAT_SPW_ON 0).settleAll
      ((s1.level 88 true).latchAll 7).driveFault)

/-- VDRV_RECOVER (R268): the latches stay set. -/
def execVdrvRecover (s : State) : Host.Outcome State Fault Refusal :=
  .next (({ s with drv := { s.drv with vdrvOk := true } }.level 88 false).settleAll)

/-! ### The motor supply and the spillway -/

/-- The spillway may be on (R271). -/
def State.spwMay (s : State) : Bool :=
  s.fb Fld.DRV_SPWCFG_EN && s.drv.vdrvOk && !s.fb Fld.DRV_STAT_SPILL_FAULT

/-- SPILLWAY_ON (R269, R271): VMOT at or above OV1. -/
def execSpillwayOn (s : State) : Host.Outcome State Fault Refusal :=
  .next (
    if s.rst.porHold then s
    else
      let s1 := if s.fb Fld.DRV_STAT_OV1 then s else (s.setF Fld.DRV_STAT_OV1 1).raise 84
      if s1.spwMay && !s1.fb Fld.DRV_STAT_SPW_ON then
        (s1.spillway true).satAdd Fld.DRV_CNT_OV1CNT 1
      else s1)

/-- SPILLWAY_OFF (R271): VMOT below OV1 - OV1HYS; a test in progress holds it on. -/
def execSpillwayOff (s : State) : Host.Outcome State Fault Refusal :=
  .next (
    let s1 := s.setF Fld.DRV_STAT_OV1 0
    if s1.fb Fld.DRV_STAT_TBUSY then s1 else s1.spillway false)

/-- The OV2 reaction is entered (R270). -/
def State.enterOv2 (s : State) : State :=
  if s.fb Fld.DRV_STAT_OV2 then s.settleAll
  else (((s.setF Fld.DRV_STAT_OV2 1).satAdd Fld.DRV_CNT_OV2CNT 1).level 85 true).settleAll

/-- OV2_REACTION (R269, R270). -/
def execOv2Reaction (s : State) : Host.Outcome State Fault Refusal :=
  .next (if s.rst.porHold then s else { s with drv := { s.drv with ov2 := true } }.enterOv2)

/-- OV2_RELEASE (R270): each bridge returns at its next period start, and one without a period at
once; SPILL_FAULT holds the reaction (R272). -/
def execOv2Release (s : State) : Host.Outcome State Fault Refusal :=
  .next (
    let s1 := { s with drv := { s.drv with ov2 := false } }
    if !s.fb Fld.DRV_STAT_OV2 || s.fb Fld.DRV_STAT_SPILL_FAULT then s1
    else
      let s2 := (s1.setF Fld.DRV_STAT_OV2 0).level 85 false
      (s2.each bridges (fun t b => t.updBrg b (fun x => { x with holdPeriod := x.counting }))).settleAll)

/-- OV3 (R269). -/
def execOv3 (s : State) : Host.Outcome State Fault Refusal :=
  .next (if s.rst.porHold then s else s.latchOv3.driveFault)

/-- Which checks of R272 act in a state. -/
def State.spillSeen (s : State) (c : SpillCheck) : Bool :=
  match c with
  | .currentLow => s.fb Fld.DRV_STAT_SPW_ON && s.fb Fld.DRV_STAT_OV1
  | .stillRising => s.fb Fld.DRV_STAT_SPW_ON
  | .overcurrent => !s.rst.porHold

/-- SPILL_FAULT (R272). -/
def execSpillFault (c : SpillCheck) (s : State) : Host.Outcome State Fault Refusal :=
  .next (
    if !s.spillSeen c || s.fb Fld.DRV_STAT_SPILL_FAULT then s
    else
      let s1 := ((s.setF Fld.DRV_STAT_SPILL_FAULT 1).spillway false).level 87 true
      s1.enterOv2.driveFault)

/-- A write of a DRV register waits for the drive die; a second one to the same register replaces the
first (R117, R275). -/
def State.postDrv (s : State) (a : Nat) (v : Word) : State :=
  { s with drv := { s.drv with posted := s.drv.posted.filter (fun x => x.1 != a) ++ [(a, v)] } }

/-- The rule of DRV_SPWTEST (R273, R275): posted to the drive die. -/
def State.wSpwtest (s : State) (e : Engine) (v : Word) : WOut :=
  s.mspOnly e (
    if v.field 16 16 = 0x7C3B && s.md = mSERVICE then
      s.postDrv Reg.DRV_SPWTEST v
    else s)

/-- SPILLWAY_TEST_END (R273): the result does not set SPILL_FAULT. -/
def execSpillwayTestEnd (pass : Bool) (s : State) : Host.Outcome State Fault Refusal :=
  .next (
    if !s.fb Fld.DRV_STAT_TBUSY then s
    else
      let s1 := ((s.setF Fld.DRV_STAT_TBUSY 0).setB Fld.DRV_STAT_TPASS pass).setB Fld.DRV_STAT_TFAIL (!pass)
      if s1.fb Fld.DRV_STAT_OV1 then s1 else s1.spillway false)

/-- The rule of the other DRV registers (R275): WB fields are posted before SEAL only. -/
def State.wDrv (s : State) (a : Nat) (v : Word) : State :=
  if (a = Reg.DRV_OVCFG || a = Reg.DRV_SPWCFG) && !s.sealed then s.postDrv a v else s

/-- The drive die takes one write: its fields, or the start of a spillway test, which finds VMOT below OV1 and EN = 1 or is
ignored (R273); VDRV low or SPILL_FAULT keeps the spillway off in it. EN = 0 turns the spillway off at once (R271). -/
def State.drvTake (s : State) (a : Nat) (v : Word) : State :=
  if a = Reg.DRV_SPWTEST then
    if s.fb Fld.DRV_SPWCFG_EN && !s.fb Fld.DRV_STAT_OV1 then
      (s.setF Fld.DRV_STAT_TBUSY 1).spillway s.spwMay
    else s
  else
    match kindAt a with
    | some k =>
      let s1 := s.setReg a (mergeFields (fun _ => true) k.fields (s.reg a) v)
      if s1.fb Fld.DRV_SPWCFG_EN then s1 else s1.spillway false
    | none => s

/-- DRV_WRITE_TAKEN (R275). -/
def execDrvWriteTaken (s : State) : Host.Outcome State Fault Refusal :=
  .next (
    match s.drv.posted with
    | [] => s
    | (a, v) :: r => { s with drv := { s.drv with posted := r } }.drvTake a v)

/-! ### The software demand -/

/-- The rule of BRG[n].PCMD (R267). -/
def State.wPcmd (s : State) (b : Fin 5) (v : Word) : State :=
  (s.plainWrite (Reg.BRG_PCMD b) v).settle b

end Sys2Proof.Machine
end

