-- ==== Sys2Proof/Machine/Bridges.lean ====
section
/-!
DEFINITION. The bridges' commands (chapter 12): RUN, periods, edges and duties, sampling sets, the catch
unit, the supervisors and the curve input.
-/

namespace Sys2Proof.Machine

/-- What lets a write set RUN, but for the turn length (R276, R277, R398). -/
def State.runMay (s : State) (b : Fin 5) : Bool :=
  (s.inRun || s.md == mSAFEHOLD || (s.md == mSERVICE && !s.stopDem)) &&
  s.f Fld.SYS_TBSEL_ACTIVE == 2 && !s.cfgErr b && s.f (Fld.BRG_CFG_TYPE b) != 0 &&
  !s.fb (Fld.BRG_CATCHST_BUSY b)

/-- RUN is set (R277, R278): the first period waits for the 1 µs boundary, or with SYNC for a turn mark;
baselining ends (R431). -/
def State.setRun (s : State) (b : Fin 5) : State :=
  let s1 := (s.setF (Fld.BRG_CTL_RUN b) 1).updBrg b (fun x => { x with
    counting := false, startMark := s.fb (Fld.BRG_CFG_SYNC b), markPos := none, posLo := 0 })
  let s2 := if s.isBldc b then s1.hallSet b (s.hallNow b) else s1.settle b
  s2.abortBaseline

/-- The rule of BRG[n].CTL (R277, R278). -/
def State.wRun (s : State) (b : Fin 5) (v : Word) : State :=
  if v.bit 0 then
    if s.fb (Fld.BRG_CTL_RUN b) || !s.runMay b then s
    else if s.fb (Fld.BRG_CFG_SYNC b) && !s.perFits (s.perNext b) then s.setF (Fld.BRG_PWMSTAT_CFGERR b) 1
    else s.setRun b
  else s.stopPwm b

/-- An armed PER at a period start (R113, R278): with SYNC one that does not divide the turn is refused,
and another waits for a start that lies PHASE steps, modulo itself, after a turn mark. -/
def State.applyPer (s : State) (b : Fin 5) (first : Bool) (sinceMark : Nat) : State :=
  match (s.bridge b).perArmed with
  | none => s
  | some v =>
    let p := max 10240 (v.field 0 20)
    let take := (s.updBrg b (fun x => { x with perArmed := none })).setReg (Reg.BRG_PER b)
      ((0 : Word).put 0 20 (v.field 0 20))
    if !s.fb (Fld.BRG_CFG_SYNC b) then take
    else if !s.perFits p then
      (s.updBrg b (fun x => { x with perArmed := none })).setF (Fld.BRG_PWMSTAT_PERREJ b) 1
    else if first || sinceMark % p == s.f (Fld.BRG_PHASE_PHASE b) % p then take
    else s

/-- A period without a BST_UV restarts its leg's count (R250). -/
def State.endUvPeriod (s : State) (b : Fin 5) : State :=
  s.each legs3 (fun t k =>
    let t1 := if (t.leg b k).uvSeen then t else t.setF (Fld.BRG_LEG_STAT_UVRUN b k) 0
    t1.updLeg b k (fun x => { x with uvSeen := false }))

/-- PWM_PERIOD_START (R270, R278, R279): a Sluice trigger source (R194). -/
def execPwmPeriodStart (b : Fin 5) (s : State) : Host.Outcome State Fault Refusal :=
  .next (
    let x := s.bridge b
    if !(s.live && s.fb (Fld.BRG_CTL_RUN b)) || x.startMark then s
    else
      let since := match x.markPos with
        | none => s.f (Fld.BRG_PHASE_PHASE b) % s.per b
        | some p => p + s.per b
      let s1 := s.applyPer b (!x.counting) since
      let s2 := s1.endUvPeriod b
      let s3 := s2.updBrg b (fun y => { y with
        counting := true, posLo := 0, holdPeriod := false, markPos := some since })
      ((s3.startPeriod b (s.per b)).settle b).sourceEvent (0x20 + b.val))

/-- PWM_EDGE (R279, R281). -/
def execPwmEdge (b : Fin 5) (k : Fin 3) (s : State) : Host.Outcome State Fault Refusal :=
  .next (
    if !(s.live && (s.bridge b).counting) then s
    else match (s.leg b k).nextEdge (s.per b) with
      | none => s
      | some (p, r) =>
        ((s.updLeg b k (fun x => x.makeEdge r p (s.minHigh b) (s.minLow b))).updBrg b (fun x => { x with posLo := max x.posLo p })).settle b)

/-! ### Sampling sets -/

/-- A set's hidden state. -/
def State.set (s : State) (k : Fin 16) : AdcSet := s.adc[k.val]

/-- A function applied to a set's hidden state. -/
def State.updSet (s : State) (k : Fin 16) (h : AdcSet → AdcSet) : State :=
  { s with adc := s.adc.set k.val (h s.adc[k.val]) }

/-- The bridge that a set names; codes 5-7 name none. -/
def State.setBrg (s : State) (k : Fin 16) : Option (Fin 5) :=
  bridges.find? (fun b => b.val == s.f (Fld.ADC_SET_CFG_BRG k))

/-- The three ranks. -/
def ranks3 : List (Fin 3) := [0, 1, 2]

/-- Ranks that waited for a converter (R288). -/
def State.conflicts (s : State) (k : Fin 16) (ranks : List (Fin 3)) (busy : BitVec 3) : State :=
  s.each ranks (fun t r =>
    if busy.getLsbD r && t.fb (Fld.ADC_SET_RANK_EN k r) then
      (t.satAdd (Fld.ADC_SET_STAT_CONFL k) 1).raise 90
    else t)

/-- The leg whose current a shunt sample is, and whether it is negated (R290). -/
def State.shuntLeg (s : State) (b : Fin 5) : Option (Fin 3 × Bool) :=
  let high (k : Fin 3) := (s.leg b k).cmd == .high
  match legs3.filter high, legs3.filter (fun k => !high k) with
  | [k], _ => some (k, false)
  | [_, _], [k] => some (k, true)
  | _, _ => none

/-- The set's ranks start conversion at its instant (R194, R288). -/
def State.startSet (s : State) (k : Fin 16) (ranks : List (Fin 3)) (busy : BitVec 3) : State :=
  ((s.updSet k (fun x => { x with conv := true, due := false, got1 := false })).conflicts k ranks busy).sourceEvent
    (1 + k.val)

/-- SAMPLING_INSTANT (R288-R290): `second` is S2 of a SINGLE set. -/
def execSamplingInstant (k : Fin 16) (second : Bool) (busy : BitVec 3) (s : State) :
    Host.Outcome State Fault Refusal :=
  .next (
    let kind := s.f (Fld.ADC_SET_CFG_KIND k)
    if !s.live then s
    else if kind = 3 then (if (s.set k).due then s.startSet k ranks3 busy else s)
    else match s.setBrg k with
      | none => s
      | some b =>
        if !(s.bridge b).counting then s
        else if kind = 1 then
          (if s.f (Fld.ADC_SET_CFG_POS k) < s.per b then s.startSet k ranks3 busy else s)
        else if kind = 2 && s.isSingle b k then
          if second then
            (if (s.set k).got1 then
              ((s.updSet k (fun x => { x with note2 := s.shuntLeg b })).startSet k [1] busy) else s)
          else (s.updSet k (fun x => { x with got1 := true, note1 := s.shuntLeg b })).conflicts k [0] busy
        else s)

/-- The result of a code by its input (R285, R164); a reserved input gives 0. -/
def resultOf (input : Nat) (c : BitVec 14) : Word :=
  let x : Int := c.toNat
  if input ≤ 2 then (sat32 (-(x - 8192) * 2 ^ 18)).1
  else if input ≤ 6 then (sat32 ((x - 8192) * 2 ^ 18)).1
  else if input = 7 then 0
  else BitVec.ofInt 32 (x * 2 ^ 17)

/-- The currents of a single-shunt period (R290): none when it is invalid. -/
def shuntCurrents (n1 n2 : Option (Fin 3 × Bool)) (c1 c2 : BitVec 14) : Option (Fin 3 → Word) :=
  match n1, n2 with
  | some (k1, g1), some (k2, g2) =>
    if k1 = k2 then none
    else
      let v (g : Bool) (c : BitVec 14) : Int :=
        let x : Int := ((c.toNat : Int) - 8192) * 2 ^ 18
        (sat32 (if g then -x else x)).1.toInt
      let i1 := v g1 c1
      let i2 := v g2 c2
      some (fun k => if k = k1 then BitVec.ofInt 32 i1 else if k = k2 then BitVec.ofInt 32 i2
        else (sat32 (-(i1 + i2))).1)
  | _, _ => none

/-- The words of a set's conversion (R285, R288, R290). -/
def State.setWords (s : State) (k : Fin 16) (c : Fin 3 → BitVec 14) : (Fin 3 → Word) × Bool :=
  if s.f (Fld.ADC_SET_CFG_KIND k) = 2 then
    match shuntCurrents (s.set k).note1 (s.set k).note2 (c 0) (c 1) with
    | some h => (h, true)
    | none => (fun r => s.reg (Reg.ADC_SET_RES k r), false)
  else
    (fun r => if s.fb (Fld.ADC_SET_RANK_EN k r) then resultOf (s.f (Fld.ADC_SET_RANK_INPUT k r)) (c r) else 0,
     true)

/-- The results go to the back buffers of the inputs that the set triggered (R196, R288). -/
def State.toBuffers (s : State) (k : Fin 16) (w : Fin 3 → Word) : State :=
  s.each sluAll (fun t n => t.each inputs4 (fun u j =>
    let x := u.input n j
    if x.filling && !x.ready && u.f (Fld.SLU_TRIG_SRC n j) == 1 + k.val then
      u.updInput n j (fun y => { y with
        ready := true, back := ((y.back.set 0 (w 0)).set 1 (w 1)).set 2 (w 2) })
    else u))

/-- The results that are leg-shunt currents of B0 (R295). -/
def State.legShunts (s : State) (k : Fin 16) (w : Fin 3 → Word) : List Word :=
  if s.f (Fld.ADC_SET_CFG_KIND k) = 2 then []
  else (ranks3.filter (fun (r : Fin 3) => s.fb (Fld.ADC_SET_RANK_EN k r) && decide (s.f (Fld.ADC_SET_RANK_INPUT k r) ≤ 2))).map w

/-- CONVERSION_COMPLETE (R288, R290, R295, R297): the codes in rank order. -/
def execConversionComplete (k : Fin 16) (c0 c1 c2 : BitVec 14) (s : State) :
    Host.Outcome State Fault Refusal :=
  .next (
    if !(s.live && (s.set k).conv) then s
    else
      let c (r : Fin 3) := if r = 0 then c0 else if r = 1 then c1 else c2
      let (w, ok) := s.setWords k c
      let s1 := s.updSet k (fun x => { x with conv := false })
      let s2 := s1.each ranks3 (fun t r => t.setReg (Reg.ADC_SET_RES k r) (w r))
      let s3 := if ok then s2 else s2.satAdd (Fld.ADC_SET_STAT_SSINV k) 1
      let s4 := (s3.toBuffers k w).lockCurrent (s.legShunts k w)
      s4.each bridges (fun t b =>
        if !t.fb (Fld.BRG_CRVCFG_SW b) && t.f (Fld.BRG_CRVCFG_SET b) == k.val then t.curve b else t))

/-! ### The catch unit -/

/-- The end of a catch (R293): the instant, and the result. -/
def State.catchDone (s : State) (b : Fin 5) (result : Nat) (back : Bool) : State :=
  (((s.setF (Fld.BRG_CATCHST_BUSY b) 0).setF (Fld.BRG_CATCHST_RESULT b) result).setB
    (Fld.BRG_CATCHST_DIR b) back).setReg (Reg.BRG_CATCHT b) s.tnow

/-- The rule of BRG[n].CATCHCTL (R291, R292). -/
def State.wCatch (s : State) (b : Fin 5) (v : Word) : State :=
  let ty := s.f (Fld.BRG_CFG_TYPE b)
  if v.bit 0 && (ty == 1 || ty == 2) && !s.fb (Fld.BRG_CTL_RUN b) && !(s.bridge b).latch.held && s.drv.ena then
    match (if b = 0 then s.brgCog 0 else none) with
    | some c =>
      let sp := s.cogSpeed c
      s.catchDone b 8 (if sp = 0 then s.fb (Fld.COG_STAT_DIR c) else sp.bit 31)
    | none => s.setF (Fld.BRG_CATCHST_BUSY b) 1
  else s

/-- The decision of R293. -/
def State.catchResult (s : State) (b : Fin 5) (o : CatchObs) : Nat :=
  if !o.beyond then 1
  else if o.crossings < 4 then 6
  else match o.seq with
    | .forward => if o.speed.toNat ≤ s.f (Fld.BRG_CATCHCFG_NCATCH b) then 2 else 3
    | .backward => if s.fb Fld.DRV_SPWCFG_EN then 4 else 5
    | .mixed => 6

/-- CATCH_END (R293): CATCHANG is valid for FWD and BWD only and free otherwise. -/
def execCatchEnd (b : Fin 5) (obs : CatchObs) (s : State) : Host.Outcome State Fault Refusal :=
  .next (
    if !(s.live && s.fb (Fld.BRG_CATCHST_BUSY b)) then s
    else
      let back := obs.seq == .backward
      let r := s.catchResult b obs
      let s1 := (s.catchDone b r back).setF (Fld.BRG_CATCHST_CROSS b) (min 255 obs.crossings)
      let s2 := s1.setF (Fld.BRG_CATCHSPD_SPD b)
        (if back then 65536 - obs.speed.toNat else obs.speed.toNat)
      if r = 2 || r = 4 then s2.setReg (Reg.BRG_CATCHANG b) obs.angle
      else
        let (w, s3) := s2.takeWord
        s3.setReg (Reg.BRG_CATCHANG b) w)

/-! ### Supervision and the curve input -/

/-- KETIME in units of cw.tnow (R294). -/
def State.keTime (s : State) (b : Fin 5) : Nat := 10240000 * (min 99 (s.f (Fld.BRG_KECFG_TIME b)) + 1)

/-- KE_ABNORMAL and its sides cleared, with the run (R294). -/
def State.keClear (s : State) (b : Fin 5) : State :=
  let s1 := ((s.setF (Fld.BRG_SUPSTAT_KE_ABNORMAL b) 0).setF (Fld.BRG_SUPSTAT_KELOW b) 0).setF
    (Fld.BRG_SUPSTAT_KEHIGH b) 0
  (s1.updBrg b (fun x => { x with keFirst := none })).level (64 + 4 * b + 2) false

/-- One update judged (R294). Ke words are read as unsigned (DEDUCED, log entry 19). -/
def State.keJudge (s : State) (b : Fin 5) : State :=
  let est := (s.reg (Reg.BRG_KEEST b)).toNat
  let nom := (s.reg (Reg.BRG_KENOM b)).toNat
  let tol := s.f (Fld.BRG_KECFG_TOL b) + 1
  if 20 * (max est nom - min est nom) ≤ tol * nom then s.keClear b
  else
    let t0 := (s.bridge b).keFirst.getD s.age
    let s1 := s.updBrg b (fun x => { x with keFirst := some t0 })
    if !s.fb (Fld.BRG_SUPSTAT_KE_ABNORMAL b) && decide (s.age - t0 < s.keTime b) then s1
    else
      (((s1.setF (Fld.BRG_SUPSTAT_KE_ABNORMAL b) 1).setB (Fld.BRG_SUPSTAT_KELOW b) (decide (est < nom))).setB
        (Fld.BRG_SUPSTAT_KEHIGH b) (decide (nom < est))).level (64 + 4 * b + 2) true

/-- The rule of BRG[n].KEEST (R294): on B0 the write is ignored. -/
def State.wKeest (s : State) (b : Fin 5) (v : Word) : State :=
  if b = 0 then s
  else
    let s1 := s.setReg (Reg.BRG_KEEST b) v
    if s1.fb (Fld.BRG_KECFG_EN b) then s1.keJudge b else s1

/-- The rule of BRG[n].KECFG (R294). -/
def State.wKecfg (s : State) (b : Fin 5) (v : Word) : State :=
  if b = 0 then s
  else
    let s1 := s.plainWrite (Reg.BRG_KECFG b) v
    if s1.fb (Fld.BRG_KECFG_EN b) then s1 else s1.keClear b

/-- The rule of BRG[0].LOCKCFG (R295): EN := 0 clears the condition. -/
def State.wLockcfg (s : State) (b : Fin 5) (v : Word) : State :=
  let s1 := s.plainWrite (Reg.BRG_LOCKCFG b) v
  if b != 0 || s1.fb (Fld.BRG_LOCKCFG_EN 0) then s1
  else ((s1.updBrg 0 (fun x => { x with lockT0 := none })).setF (Fld.BRG_SUPSTAT_LOCKED 0) 0).level 66 false

/-- LOCKED_ROTOR (R295): the timer that runs reaches t_lock. -/
def execLockedRotor (s : State) : Host.Outcome State Fault Refusal :=
  .next (
    if s.live && s.fb (Fld.BRG_LOCKCFG_EN 0) && (s.bridge 0).lockT0.isSome then
      (s.setF (Fld.BRG_SUPSTAT_LOCKED 0) 1).level 66 true
    else s)

/-- The rule of BRG[n].CRVIN (R297): on B0 the write is ignored. -/
def State.wCrvin (s : State) (b : Fin 5) (v : Word) : State :=
  if b = 0 then s
  else
    let s1 := s.plainWrite (Reg.BRG_CRVIN b) v
    if s1.fb (Fld.BRG_CRVCFG_SW b) then s1.curve b else s1

/-- The rule of BRG[n].CRVCFG (R297): the unit is OFF when EN is set. -/
def State.wCrvcfg (s : State) (b : Fin 5) (v : Word) : State :=
  if b = 0 then s
  else
    let s1 := s.plainWrite (Reg.BRG_CRVCFG b) v
    if v.bit 0 && !s.fb (Fld.BRG_CRVCFG_EN b) then
      (s1.setF (Fld.BRG_CRVOUT_ON b) 0).setF (Fld.BRG_CRVOUT_Y b) 0
    else s1

/-- The rule of BRG[0].ANG and its like (R295). -/
def State.wAng (s : State) (b : Fin 5) (v : Word) : State :=
  let s1 := s.plainWrite (Reg.BRG_ANG b) v
  if b = 0 then s1.sectorCheck else s1

/-- A turn mark for the bridges (R278, R288, R297): periods that waited may start, sets of kind TURN are
due, and the curve units' outputs are frozen. -/
def State.bridgeMark (s : State) : State :=
  let s1 := s.each bridges (fun t b =>
    (t.updBrg b (fun x => { x with startMark := false, markPos := none })).setReg (Reg.BRG_CRVOUTF b)
      (t.reg (Reg.BRG_CRVOUT b)))
  { s1 with adc := Vector.ofFn (fun (k : Fin 16) =>
      if s1.f (Fld.ADC_SET_CFG_KIND k) = 3 then { s1.adc[k.val] with due := true } else s1.adc[k.val]) }

end Sys2Proof.Machine
end

