-- ==== Sys2Proof/Machine/Catchment.lean ====
section
/-!
DEFINITION. The Catchment's completions and entries (R155, R229-R237) and the Wellhead's posted writes
and watch entries (R117, R238-R242).
-/

namespace Sys2Proof.Machine

/-- The rule of CAT_DONE (R232). -/
def State.wCatDone (s : State) (v : Word) : State :=
  let n := v.field 0 8
  if !isSource n then s
  else if isLevel n then
    if s.fb (Fld.CAT_CNT_NOW n) then s else s.setF (Fld.CAT_CNT_COUNT n) 0
  else
    let m := if v.field 8 4 = 0 then 15 else v.field 8 4
    s.setF (Fld.CAT_CNT_COUNT n) (s.f (Fld.CAT_CNT_COUNT n) - m)

/-- The rule of CAT_TGT[t].EN[n] (R229, R236): the enable bits of reserved sources stay 0, and target 3
exists in a split pair only. -/
def State.wCatEn (s : State) (t n : Nat) (v : Word) : State :=
  if t = 3 && s.lockstep then s
  else
    let w := (List.range 32).foldl (fun acc k => if isSource (32 * n + k) && v.bit k then acc + 2 ^ k else acc) 0
    s.setReg (Reg.CAT_TGT_EN t n) (BitVec.ofNat 32 w)

/-- The engine takes instructions or entries: as `canIssue`, but for the EVENT that may be due. -/
def State.mayEnter (s : State) (e : Engine) : Bool :=
  s.live && (s.eng e).run == .running && !(e == .msp1 && s.lockstep)

/-- A WHD write waits for the Wellhead (R117): a second one to the register replaces it. -/
def State.postWhd (s : State) (a : Nat) (v : Word) : State :=
  { s with whd := { s.whd with posted := Cells.insert a v (Cells.erase s.whd.posted a) } }

/-- Whether a register of the WHD block takes writes: WAKECFG, WTIMER and the chosen watch entries
(R239). -/
def whdTakes (a : Nat) : Bool :=
  a == Reg.WHD_WAKECFG || a == Reg.WHD_WTIMER || (decide (0x4005009C ≤ a ∧ a ≤ 0x400500BC) && a % 4 == 0)

/-- A signal code that the Wellhead watches (R239). -/
def watchSignal (n : Nat) : Bool := decide (1 ≤ n ∧ n ≤ 0x11)

/-- The chosen entry watches now. -/
def State.watching (s : State) (n : Nat) : Bool :=
  watchSignal (s.f (Fld.WHD_WATCH_SIG n)) && s.fb (Fld.WHD_WATCH_EDGE n)

/-- WHD_WRITE_TAKEN (R117, R238, R239): the Wellhead takes what is posted, and watches by it from then on. -/
def execWhdWriteTaken (s : State) : Host.Outcome State Fault Refusal :=
  .next (
    if s.rst.porHold then s
    else
      let s1 := s.whd.posted.foldl (fun t e => t.plainWrite e.1 e.2) { s with whd := { s.whd with posted := [] } }
      let s2 := if s.whd.phase == .armed || s.whd.phase == .clamped || s.whd.phase == .asleep then s1.arm true else s1
      s2.each (List.range 9) (fun t i => t.setB (Fld.WHD_WATCH_ARMED (7 + i)) (t.watching (7 + i))))

/-- WATCH_ENTRY_FIRE (R240-R242): a chosen entry sees an edge. -/
def execWatchEntryFire (n : Fin 16) (rising : Bool) (s : State) : Host.Outcome State Fault Refusal :=
  .next (
    let edge := s.f (Fld.WHD_WATCH_EDGE n)
    let hit := edge == 3 || (edge == 1 && rising) || (edge == 2 && !rising)
    if n.val < 7 || s.rst.porHold || !s.watching n || !hit then s
    else if s.live && s.whd.phase = .awake then s.raise (16 + (n.val - 7))
    else
      let s1 := s.setF (Fld.WHD_WATCH_LOGGED n) 1
      if s.f (Fld.WHD_WATCH_CNT n) = 15 then s1.setF (Fld.WHD_WATCH_LSAT n) 1
      else s1.satAdd (Fld.WHD_WATCH_CNT n) 1)

end Sys2Proof.Machine
end

