-- ==== Sys2Proof/Machine/Cistern.lean ====
section
/-!
DEFINITION. The Cistern's commands (R86-R91) and its data port (R82, R90, R104).
-/

namespace Sys2Proof.Machine

/-- The rule of CIS_CMD (R89): supervisor-level Millstone code with the key; codes outside the table
are ignored, while a command runs too (DESIGN CHOICE, log entry 23). -/
def State.wCisCmd (s : State) (e : Engine) (v : Word) : WOut :=
  s.mspOnly e (
    if v.field 16 16 ≠ 0xA37E then s
    else
      let n : Fin 4 := ⟨v.field 4 2, Nat.mod_lt _ (by decide)⟩
      match v.field 0 4 with
      | 1 => s.cisCommand (.verify n)
      | 2 => s.cisCommand (.activate n)
      | 3 => s.cisCommand .rollback
      | 4 => s.cisCommand (.erase n)
      | 5 => s.cisCommand (.raiseFloor (BitVec.ofNat 16 (s.f Fld.CIS_ARG_ARG)))
      | 6 => s.cisCommand .fuseKey
      | _ => s)

/-- The word that a command writes to CIS_CMD. -/
def cisCmdWord (op : Nat) (slot : Fin 4) (key : BitVec 16) : Word :=
  BitVec.ofNat 32 (op + slot.val * 16 + key.toNat * 2 ^ 16)

/-- A running command ends (R89): its effect, RESULT, DONE and source 15. -/
def State.cisDone (s : State) : State :=
  match s.cis.running with
  | none => s
  | some op =>
    let (c, r) := s.cisEffect op
    ({ s with cis := { c with running := none } }.showCis.showCisBusy).cisEnd r

/-- The running image's slot is in state TRIAL (R91). -/
def State.trialRuns (s : State) : Bool := s.fb Fld.CIS_BOOTSTAT_TRIALRUN

/-- The rule of CIS_CONFIRM (R90, R91). -/
def State.wCisConfirm (s : State) (e : Engine) (v : Word) : WOut :=
  s.mspOnly e (
    if v.field 16 16 ≠ 0x5C0F then s
    else if s.cis.running.isSome then s.setF Fld.CIS_STAT_BUSYREF 1
    else if s.cisHeld then s.cisEnd rBUSY
    else if s.md ≠ mREADY ∧ s.md ≠ mCOMMISSION then s.cisEnd rMODE
    else if !s.trialRuns then s.cisEnd rNOTTRIAL
    else
      let n : Fin 4 := ⟨s.f Fld.CIS_BOOTSTAT_RUNSLOT % 4, Nat.mod_lt _ (by decide)⟩
      (({ s with cis := s.cis.putDir (fun d => d.setSlot n sACTIVE false) }.showCis
        ).setF Fld.CIS_BOOTSTAT_TRIALRUN 0).showVersions.cisEnd rOK)

/-- The rule of CIS_DATA (R82, R90): refused while a command runs or a dip holds the Cistern; held, and the writing
engine with it (`canIssue`), while the previous write is in progress; otherwise taken. -/
def State.wCisData (s : State) (e : Engine) (v : Word) : State :=
  if s.cis.running.isSome || s.cisHeld then s.setF Fld.CIS_STAT_BUSYREF 1
  else if s.cis.dataBusy then { s with cis := { s.cis with heldData := s.cis.heldData ++ [(e, v)] } }
  else s.cisTake v

/-- The words held are taken in their order, as far as the port is free: each access completes as its word is taken. A
dip that has begun since does not refuse a word that was held before it (DESIGN CHOICE, log entry 23). -/
def State.takeHeld (s : State) : List (Engine × Word) → State
  | [] => s
  | (_, v) :: r =>
    let t := s.cisTake v
    if t.cis.dataBusy then { t with cis := { t.cis with heldData := r } } else t.takeHeld r

/-- The data write in progress ends and the next held one is written (R90). `readBack` says whether the
cells read back what was written; a sector that fails is remapped (R441). -/
def State.cisDataDone (s : State) : State :=
  if !s.cis.dataBusy then s
  else
    let s1 := { s with cis := { s.cis with dataBusy := false, heldData := [] } }.showCisBusy
    s1.takeHeld s.cis.heldData

/-- The sector that the data write in progress goes to. -/
def State.dataSector (s : State) : Nat := s.cis.dataAt / 4096

end Sys2Proof.Machine
end

