-- ==== Sys2Proof/Machine/Cog.lean ====
section
/-!
DEFINITION. The Cog channels' commands (chapter 13): counts, reference events, limits, speed, compares
and wire faults. The filter outputs of a channel are 0 at reset (DESIGN CHOICE, log entry 25).
-/

namespace Sys2Proof.Machine

/-- A rejected transition or an extra tooth (R304). -/
def State.cogIllegal (s : State) (c : Fin 6) : State :=
  ((s.setF (Fld.COG_STAT_ILLEGAL c) 1).satAdd (Fld.COG_STAT_ILLCNT c) 1).raise (96 + 5 * c.val + 3)

/-! ### Compares (R315, R316) -/

/-- The two compare units. -/
def units2 : List (Fin 2) := [0, 1]

/-- Unit k's condition (R315). -/
def State.cmpHolds (s : State) (c : Fin 6) (k : Fin 2) : Bool :=
  let pos := (s.reg (Reg.COG_POS c)).toInt
  let v := ((s.cogOf c).cmpVal[k.val]).toInt
  let d := s.f (Fld.COG_CMP_CTL_DIR c k)
  if d = 1 then decide (v ≤ pos) else if d = 2 then decide (pos ≤ v) else if d = 3 then pos == v else false

/-- An evaluation of unit k: the state, and whether it gave a compare event of the channel. -/
def State.cmpEval (s : State) (c : Fin 6) (late : Bool) (k : Fin 2) : State × Bool :=
  if !s.fb (Fld.COG_CMP_CTL_ARM c k) || s.cogWire c || !s.cmpHolds c k then (s, false)
  else
    let s1 := ((s.setF (Fld.COG_CMP_CTL_ARM c k) 0).setF (Fld.COG_CMP_CTL_FIRED c k) 1).setReg
      (Reg.COG_CMP_T c k) s.tnow
    let s2 := if late then s1.setF (Fld.COG_CMP_CTL_LATE c k) 1 else s1
    (s2.raise (96 + 5 * c.val + k.val), s.fb (Fld.COG_CMP_CTL_TRG c k))

/-- Both units evaluated. -/
def State.cmpBoth (s : State) (c : Fin 6) (late : Bool) : State × Bool :=
  let r0 := s.cmpEval c late 0
  let r1 := r0.1.cmpEval c late 1
  (r1.1, r0.2 || r1.2)

/-- The channel's compare event, one for an instant (R194, R316). -/
def State.cmpEvent (s : State) (c : Fin 6) (on : Bool) : State :=
  if on then s.sourceEvent (0x1A + c.val) else s

/-- The rule of COG[n].CMP[k].CTL (R315). -/
def State.wCmp (s : State) (c : Fin 6) (k : Fin 2) (v : Word) : State :=
  let s1 := s.plainWrite (Reg.COG_CMP_CTL c k) v
  if !v.bit 0 then s1
  else
    let s2 := s1.updCog c (fun x => { x with cmpVal := x.cmpVal.set k.val (s.reg (Reg.COG_CMP_VAL c k)) })
    let r := s2.cmpEval c true k
    r.1.cmpEvent c r.2

/-! ### Counts -/

/-- POS after `m` counts (R308): held at a limit, or unchanged while held. -/
def State.cogMove (s : State) (c : Fin 6) (m : Int) : State :=
  if s.fb (Fld.COG_STAT_LIMIT_HELD c) then s
  else
    let p := (s.reg (Reg.COG_POS c)).toInt + m
    let hi := s.reg (Reg.COG_LIMHI c)
    let lo := s.reg (Reg.COG_LIMLO c)
    let hold (w : Word) : State :=
      (((s.setReg (Reg.COG_POS c) w).setF (Fld.COG_STAT_LIMIT_HELD c) 1).setF (Fld.COG_STAT_REFD c) 0).level
        (96 + 5 * c.val + 4) true
    if hi.toInt < p then hold hi
    else if p < lo.toInt then hold lo
    else s.setReg (Reg.COG_POS c) (BitVec.ofInt 32 p)

/-- T1 in whole units of 1/1024 µs; a part of a gap that is no whole number rounds either way (DESIGN CHOICE, log
entry 26). -/
def State.setTiv (s : State) (c : Fin 6) (twelfths : Nat) : State :=
  let q := twelfths / 12
  let r := if twelfths % 12 = 0 then (q, s)
    else let b := s.takeBit; (if b.1 then q + 1 else q, b.2)
  r.2.setReg (Reg.COG_TIV c) (BitVec.ofNat 32 (min r.1 0xFFFFFFFF))

/-- The stamps and flags of a counted edge that spans `parts` counts (R311-R313): class S by
intervals, class L by the net count. -/
def State.cogStamp (s : State) (c : Fin 6) (down : Bool) (parts : Nat) : State :=
  let x := s.cogOf c
  let first := s.fb (Fld.COG_STAT_STILL c) || x.fresh
  let turned := down != s.fb (Fld.COG_STAT_DIR c)
  let at_ := s.cogStampNow
  let iv := 12 * (at_ - s.reg (Reg.COG_TEDGE c)).toNat / parts
  let s1 := (s.setB (Fld.COG_STAT_DIR c) down).setReg (Reg.COG_TEDGE c) at_
  if !s.classS c then
    s1.updCog c (fun y => { y with
      net := if down then y.net - parts else y.net + parts, up := y.up || !down, down := y.down || down })
  else
    let s2 := (s1.setF (Fld.COG_STAT_STILL c) 0).setB (Fld.COG_STAT_UNSETTLED c) (first || turned)
    if first || turned then s2.updCog c (fun y => { y with ivals := [], fresh := false })
    else (s2.updCog c (fun y => { y with
      ivals := (List.replicate parts iv ++ y.ivals).take 6 })).setTiv c iv

/-- A counted edge (R298, R308, R312, R315): the state, and whether a compare event came. `neg` is the
sign by the mode, which INV inverts. A channel with CFGERR counts nothing (R299). -/
def State.cogCount (s : State) (c : Fin 6) (neg : Bool) (parts : Nat) : State × Bool :=
  if s.cogBad c then (s, false) else
  let down := neg != s.fb (Fld.COG_CFG_INV c)
  let m : Int := if down then -(parts : Int) else parts
  let s1 := (s.cogStamp c down parts).cogMove c m
  if s1.reg (Reg.COG_POS c) = s.reg (Reg.COG_POS c) then (s1, false) else s1.cmpBoth c false

/-- POS mod CPR of a word. -/
def State.modCpr (s : State) (c : Fin 6) (w : Word) : Int := w.toInt % (s.cpr c : Int)

/-- A reference event (R307): the state, and whether a compare event came. With CPR = 0 there is no POS mod CPR, and
whether they differ is a free value (DESIGN CHOICE, log entry 71). -/
def State.cogRef (s : State) (c : Fin 6) : State × Bool :=
  if s.fb (Fld.COG_CTL_REFARM c) || s.fb (Fld.COG_STAT_LIMIT_HELD c) then
    let s1 := (((s.setReg (Reg.COG_POS c) (s.reg (Reg.COG_REF c))).setF (Fld.COG_STAT_REFD c) 1).setF
      (Fld.COG_CTL_REFARM c) 0).setF (Fld.COG_STAT_LIMIT_HELD c) 0
    (s1.level (96 + 5 * c.val + 4) false).cmpBoth c true
  else if !s.fb (Fld.COG_STAT_REFD c) then (s, false)
  else
    let r := if s.cpr c = 0 then s.takeBit
      else (s.modCpr c (s.reg (Reg.COG_POS c)) != s.modCpr c (s.reg (Reg.COG_REF c)), s)
    (if r.1 then r.2.setF (Fld.COG_STAT_REFMIS c) 1 else r.2, false)

/-- An edge in TOOTH (R306). Without counts there is no counted edge to measure from (R299). -/
def State.cogTooth (s : State) (c : Fin 6) (neg : Bool) : State × Bool :=
  if s.cogBad c then (s, false) else
  let x := s.cogOf c
  let d := 12 * (s.cogStampNow - s.reg (Reg.COG_TEDGE c)).toNat
  let note (t : State) (dp : Nat) := t.updCog c (fun y => { y with dp := dp, teeth := min 2 (y.teeth + 1) })
  if x.teeth < 2 then
    let r := s.cogCount c neg 1
    (note r.1 d, r.2)
  else if 7 * x.dp < 4 * d then
    let g := s.gapn c + 1
    let r := s.cogCount c neg g
    let q := (note r.1 (d / g)).cogRef c
    (q.1, r.2 || q.2)
  else if 5 * d < 3 * x.dp then (s.cogIllegal c, false)
  else
    let r := s.cogCount c neg 1
    (note r.1 d, r.2)

/-- What a filter sample is (R298, R304): nothing, an illegal one, or a count with its sign. -/
inductive Decoded where
  | none | illegal | count (neg : Bool)
deriving DecidableEq, Repr

/-- A sample in QUAD. -/
def decodeQuad (a0 b0 a b : Bool) : Decoded :=
  if a != a0 && b != b0 then .illegal
  else if a != a0 then .count (a == b)
  else if b != b0 then .count (a != b)
  else .none

/-- A sample in PULSE, and in TOOTH with TDIR. -/
def decodePulse (a0 b0 a b : Bool) : Decoded :=
  if a && !a0 then (if b != b0 then .illegal else .count b) else .none

/-- COG_COUNT_EDGE (R298, R303, R304, R306, R307). A wire fault ends counts and reference events (R302), CFGERR the
counts (R299). -/
def execCogCountEdge (ch : Fin 6) (a b z : Bool) (s : State) : Host.Outcome State Fault Refusal :=
  .next (
    let x := s.cogOf ch
    let m := s.cogMode ch
    if !s.live || m = 0 || m = 4 then s
    else
      let s1 := s.updCog ch (fun y => { y with a := a, b := b, z := z })
      if s.cogWire ch then s1
      else
        let d := if m = 1 then decodeQuad x.a x.b a b
          else if m = 2 || s.fb (Fld.COG_CFG_TDIR ch) then decodePulse x.a x.b a b
          else if a && !x.a then .count false else .none
        let zRise := m != 3 && s.fb (Fld.COG_CFG_ZEN ch) && z && !x.z &&
          (m != 1 || !s.fb (Fld.COG_CFG_ZGATE ch) || (a && b))
        match d with
        | .illegal => s1.cogIllegal ch
        | .none =>
          let q := if zRise then s1.cogRef ch else (s1, false)
          (q.1.cmpEvent ch q.2).sectorCheck
        | .count neg =>
          let r := if m = 3 then s1.cogTooth ch neg else s1.cogCount ch neg 1
          let q := if zRise then r.1.cogRef ch else (r.1, false)
          (q.1.cmpEvent ch (r.2 || q.2)).sectorCheck)

/-- The place of a valid Hall state in the forward sequence 1, 3, 2, 6, 4, 5 (R305). -/
def hallPlace (h : BitVec 3) : Nat :=
  if h = 1 then 0 else if h = 3 then 1 else if h = 2 then 2 else if h = 6 then 3 else if h = 4 then 4 else 5

/-- HALL_TRANSITION (R305). CFGERR takes the counts only (R299): the report, STAT.HALL and ILLEGAL remain. -/
def execHallTransition (ch : Fin 6) (h : BitVec 3) (s : State) : Host.Outcome State Fault Refusal :=
  .next (
    let old := (s.cogOf ch).hall
    if !s.live || s.cogMode ch != 4 || h = old then s
    else
      let s1 := s.updCog ch (fun y => { y with a := h.getLsbD 0, b := h.getLsbD 1, z := h.getLsbD 2 })
      if s.cogWire ch then s1
      else if !hallValid h then (s1.cogIllegal ch).hallReport ch none
      else
        let s2 := s1.setF (Fld.COG_STAT_HALL ch) h.toNat
        let step := (hallPlace h + 6 - hallPlace old) % 6
        let r : State × Bool :=
          if !hallValid old then (s2, false)
          else if step = 1 then s2.cogCount ch false 1
          else if step = 5 then s2.cogCount ch true 1
          else (s2.cogIllegal ch, false)
        ((r.1.cmpEvent ch r.2).hallReport ch (some h)).sectorCheck)

/-! ### Standstill, windows and wire faults -/

/-- STANDSTILL (R312, R313). -/
def execStandstill (ch : Fin 6) (s : State) : Host.Outcome State Fault Refusal :=
  .next (
    if !s.cogCounts ch then s
    else
      let s1 := ((s.setF (Fld.COG_STAT_STILL ch) 1).setF (Fld.COG_STAT_UNSETTLED ch) 0).updCog ch (fun y =>
        { y with ivals := [], fresh := false, teeth := 0 })
      if s.classS ch then s1 else (s1.setReg (Reg.COG_SPD ch) 0).setF (Fld.COG_STAT_REVERSAL ch) 0)

/-- SPEED_WINDOW_END (R313): a WIN that is armed takes effect. Under a wire fault nothing was counted, and the speed
becomes 0 with the flags of R302. -/
def execSpeedWindowEnd (ch : Fin 6) (s : State) : Host.Outcome State Fault Refusal :=
  .next (
    if !s.live || !s.cogOn ch || s.cogBad ch || s.classS ch then s
    else
      let x := s.cogOf ch
      let win := min 1000 (max 25 (s.f (Fld.COG_WIN_WIN ch)))
      let s1 := (s.updCog ch (fun y => { y with net := 0, up := false, down := false, winArmed := none })).setF
        (Fld.COG_WIN_WIN ch) (x.winArmed.getD (s.f (Fld.COG_WIN_WIN ch)))
      if s.cogWire ch then s1.setReg (Reg.COG_SPD ch) 0
      else
        let some_ := x.up || x.down
        let first := some_ && (s.fb (Fld.COG_STAT_STILL ch) || x.fresh)
        let s2 := s1.setReg (Reg.COG_SPD ch)
          (s.speedWord ch (decide (x.net < 0)) (x.net.natAbs * 1000000) (s.cpr ch * win))
        let s3 := (s2.setB (Fld.COG_STAT_UNSETTLED ch) first).setB (Fld.COG_STAT_REVERSAL ch) (x.up && x.down)
        if some_ then
          (s3.setF (Fld.COG_STAT_STILL ch) 0).updCog ch (fun y => { y with fresh := false })
        else s3)

/-- A pair's bit in a field of three. -/
def setBit3 (old : Nat) (pair : Fin 3) (on : Bool) : Nat :=
  let m : BitVec 3 := BitVec.ofNat 3 (2 ^ pair.val)
  (if on then BitVec.ofNat 3 old ||| m else BitVec.ofNat 3 old &&& ~~~m).toNat

/-- WIRE_FAULT (R301, R302): in class L the speed of the window before is gone. -/
def execWireFault (ch : Fin 6) (pair : Fin 3) (s : State) : Host.Outcome State Fault Refusal :=
  .next (
    if !s.live || s.cogPairs ch / 2 ^ pair.val % 2 = 0 || s.fbit (Fld.COG_STAT_WIRE ch) pair then s
    else
      let s1 := (s.setF (Fld.COG_STAT_WIRE ch) (setBit3 (s.f (Fld.COG_STAT_WIRE ch)) pair true)).setF
        (Fld.COG_STAT_WIRELOG ch) (setBit3 (s.f (Fld.COG_STAT_WIRELOG ch)) pair true)
      let s2 := (((s1.setF (Fld.COG_STAT_REFD ch) 0).setF (Fld.COG_STAT_STILL ch) 0).setF
        (Fld.COG_STAT_UNSETTLED ch) 1).setReg (Reg.COG_SPD ch) 0
      let s3 := s2.updCog ch (fun y => { y with
        ivals := [], fresh := true, teeth := 0, net := 0, up := false, down := false })
      let s4 := (s3.level (96 + 5 * ch.val + 2) true).rptUpdate
      if s.cogMode ch = 4 then s4.hallReport ch none else s4)

/-- WIRE_FAULT_CLEAR (R301, R302): with the last bit the channel takes the present state of its pairs. -/
def execWireFaultClear (ch : Fin 6) (pair : Fin 3) (a b z : Bool) (s : State) :
    Host.Outcome State Fault Refusal :=
  .next (
    if !s.live || !s.fbit (Fld.COG_STAT_WIRE ch) pair then s
    else
      let w := setBit3 (s.f (Fld.COG_STAT_WIRE ch)) pair false
      let s1 := (s.setF (Fld.COG_STAT_WIRE ch) w).rptUpdate
      if w ≠ 0 then s1
      else
        let s2 := (s1.updCog ch (fun y => { y with a := a, b := b, z := z, fresh := true })).level
          (96 + 5 * ch.val + 2) false
        if s.cogMode ch ≠ 4 then s2
        else
          let h := (s2.cogOf ch).hall
          if hallValid h then (s2.setF (Fld.COG_STAT_HALL ch) h.toNat).hallReport ch (some h)
          else s2.hallReport ch none)

/-- STAT as it reads (R299). -/
def State.cogStatWord (s : State) (c : Fin 6) : Word :=
  (s.reg (Reg.COG_STAT c)).put 15 1 (Word.ofBool (s.cogBad c))

/-- The copies of a turn mark (R314). -/
def State.cogMark (s : State) : State :=
  s.each cogs (fun t c =>
    ((((t.setReg (Reg.COG_POSF c) (s.reg (Reg.COG_POS c))).setReg (Reg.COG_ANGF c) (s.cogAngleAt c true)).setReg
      (Reg.COG_SPDF c) (s.cogSpeedAt c true)).setReg (Reg.COG_STATF c) (s.cogStatWord c)).cogSeen c)

end Sys2Proof.Machine
end

