-- ==== Sys2Proof/Machine/Health.lean ====
section
/-!
DEFINITION. The health word (R445).
-/

namespace Sys2Proof.Machine

/-- The sites of the lane (R428). -/
def sites12 : List (Fin 12) := [0, 1, 2, 3, 4, 5, 6, 7, 8, 9, 10, 11]

/-- WEAR of the health word: the highest that applies. -/
def State.healthWear (s : State) : Nat :=
  if sites12.any (fun i => s.f (Fld.PLB_SITE_STATE i) == 3) then 3
  else if s.fb Fld.PLB_SPARE_PEND then 2
  else if sites12.any (fun i => (s.plb.sites[i.val]).warned) then 1 else 0

/-- SPARELOW. -/
def State.spareLow (s : State) : Bool :=
  s.f Fld.PLB_SPARE_RESIDX == 7 || s.fb Fld.PLB_SPARE_RESBAD ||
  (List.range 19).any (fun n => decide (rowSpares n < s.f (Fld.PLB_ROWS_USED n) + 2)) ||
  decide (164 < s.f Fld.PLB_SPARE_MRAMUSED + 16) || s.fb Fld.LEAT_LINK_SPARE0 || s.fb Fld.LEAT_LINK_SPARE1

/-- FAULT: a latch of kind fault held, or SPILL_FAULT. -/
def State.healthFault (s : State) : Bool :=
  s.fb Fld.DRV_STAT_SPILL_FAULT ||
  bridges.any (fun b => (s.bridge b).latch.held && !(s.bridge b).latch.resign)

/-- HLTH_WORD as it stands. -/
def State.healthWord (s : State) : Word :=
  let bow := s.fb Fld.HLTH_WORD_BOW || s.fb Fld.PWR_BOW_VIO_BOW || s.fb Fld.PWR_BOW_VCORE_BOW
  BitVec.ofNat 32 (s.md + 2 ^ 4 * s.f Fld.SYS_MODE_ROLE + 2 ^ 6 * s.f Fld.SYS_MODE_STOPPING +
    2 ^ 7 * s.f Fld.SYS_MODE_JOINING + 2 ^ 8 * s.healthWear + 2 ^ 10 * Word.ofBool s.spareLow +
    2 ^ 11 * Word.ofBool s.healthFault + 2 ^ 12 * Word.ofBool bow + 2 ^ 13 * s.f Fld.HLTH_WORD_OVRN +
    2 ^ 14 * s.f Fld.HLTH_SET_OSC + 2 ^ 15 * s.f Fld.HLTH_SET_USER)

end Sys2Proof.Machine
end

