-- ==== Sys2Proof/Machine/KnaorWire.lean ====
section
/-!
DEFINITION. A Knaor frame on the wire (R318, R327) and what a receiver makes of RXD (R328). Instants on a line are in
samples of 1/256 µs, and within a cell in twenty-fifths of a sample, in which the bit times of R318 are whole.
-/

namespace Sys2Proof.Machine

/-- The bits of a byte in the order sent. -/
def byteBits (b : Byte) : List Bool := (List.range 8).map (fun i => b.getLsbD i)

/-- The bits of a frame, as TXD carries them from the rise of TXEN to its fall (R327): the start sequence, each byte
between its start and its stop bit, the end sequence. -/
def wireBits (bytes : List Byte) : List Bool :=
  List.replicate 6 false ++ bytes.flatMap (fun b => [false] ++ byteBits b ++ [true]) ++ [true, true]

/-- The bits as a receiver samples them, after `idle` samples of the idle bus: `tb` is the bit time. -/
def onLine (tb idle : Nat) (bits : List Bool) : List Bool :=
  List.replicate idle true ++
    (List.range (bits.length * tb / 25)).map (fun i => bits[25 * i / tb]?.getD true)

/-- What a receiver makes of a line: the bytes, whether there was a coding error, the samples at which the run before
the reference edge and the reference edge itself came, and the one by which the last stop bit had ended. -/
structure KRead where
  bytes     : List Byte
  codingErr : Bool
  run       : Nat
  edge      : Nat
  last      : Nat
deriving DecidableEq, Repr

/-- RXD at a sample; the idle bus reads 1. -/
def rxd (bus : List Bool) (i : Nat) : Bool := bus[i]?.getD true

/-- A bit read at the centre of its cell: the majority of the three samples nearest to it (R328). -/
def cellBit (line : List Bool) (centre : Nat) : Bool :=
  let i := (2 * centre + 25) / 50
  let a := rxd line (i - 1)
  let b := rxd line i
  let c := rxd line (i + 1)
  (a && b) || (a && c) || (b && c)

/-- The bytes that follow, `start` being where the cell of the next byte's first data bit begins: cells are located
afresh from the falling edge of each later start bit (R328). A start bit begins within a bit time after the centre of
the stop bit before it, and where none does the frame has ended (DEDUCED, log entry 72). -/
def readBytes (line : List Bool) (tb : Nat) : Nat → Nat → KRead
  | 0, start => ⟨[], false, 0, 0, start / 25⟩
  | n + 1, start =>
    let bits := (List.range 8).map (fun k => cellBit line (start + tb * (2 * k + 1) / 2))
    let b : Byte := BitVec.ofNat 8 ((List.range 8).foldl (fun acc k => acc + 2 ^ k * Word.ofBool (bits[k]?.getD false)) 0)
    let mid := start + tb * 17 / 2
    let stop := cellBit line mid
    match (List.range (tb / 25)).find? (fun i => !rxd line (mid / 25 + 1 + i)) with
    | some i =>
      let r := readBytes line tb n (25 * (mid / 25 + 1 + i) + tb)
      { r with bytes := b :: r.bytes, codingErr := r.codingErr || !stop }
    | none => ⟨[b], !stop, 0, 0, (start + 9 * tb) / 25⟩

/-- A line as it is received (R328): the run of zeros must last from 5 to 8 bit times, and each stop bit read 1. No
frame has more than 75 bytes, so more than 76 need not be read. -/
def receive (tb : Nat) (line : List Bool) : KRead :=
  let run := (line.takeWhile (fun x => x)).length
  let len := ((line.drop run).takeWhile (fun x => !x)).length
  let r := readBytes line tb 76 (25 * (run + len))
  { r with run := run, edge := run + len, codingErr := r.codingErr || !(decide (5 * tb ≤ 25 * len ∧ 25 * len ≤ 8 * tb)) }

end Sys2Proof.Machine
end

