-- ==== Sys2Proof/Machine/KnaorOps.lean ====
section
/-!
DEFINITION. Knaor's shared operations (chapter 14): the checks of R324, frames (R325-R327, R329), state
moves (R336, R338), buffers (R330-R333, R445), channel loss (R342) and the clock corrections (R343, R344).
-/

namespace Sys2Proof.Machine

/-- Microticks, counts and limits in force; 0 is taken as 1 (registers of chapter 14). -/
def State.offLim (s : State) : Nat := max 1 (s.f Fld.KNR_SYNCCFG_OFFLIM)
def State.rateLim (s : State) : Nat := max 1 (s.f Fld.KNR_SYNCCFG_RATELIM)
def State.chLost (s : State) : Nat := max 1 (s.f Fld.KNR_CFG3_CHLOST)
/-- NB, and the node's own ID. -/
def State.nb (s : State) : Nat := s.f Fld.KNR_CFG1_NB
def State.nodeId (s : State) : Nat := s.f Fld.KNR_CFG0_NODE

/-- The 64 buffers. -/
def bufs64 : List Nat := List.range 64

/-- Bit `n` of the eight words of a permission table. -/
def State.tableBit (s : State) (reg : Nat → Nat) (n : Nat) : Bool := (s.reg (reg (n / 32))).bit (n % 32)

/-- PROT_KTXB permits a bucket. -/
def State.bucketOk (s : State) (b : Nat) : Bool := s.tableBit Reg.PROT_KTXB b

/-- A transmit buffer that is enabled; a receive buffer. -/
def State.isTx (s : State) (n : Nat) : Bool := s.fb (Fld.KNR_BUF_CFG_EN n) && s.fb (Fld.KNR_BUF_CFG_TX n)
def State.isRx (s : State) (n : Nat) : Bool := s.fb (Fld.KNR_BUF_CFG_EN n) && !s.fb (Fld.KNR_BUF_CFG_TX n)

/-! ### The configuration (R318, R324) -/

/-- The bit time in eighths of a nanosecond. -/
def State.tBit (s : State) : Nat :=
  let r := s.f Fld.KNR_CFG0_RATE
  if r = 0 then 320 else if r = 1 then 640 else 1600

/-- t_frame(L) in eighths of a nanosecond (R327). -/
def State.tFrame (s : State) (l : Nat) : Nat := (118 + 10 * l) * s.tBit

/-- GM in eighths of a nanosecond. -/
def State.gm (s : State) : Nat := 2000 * (s.f Fld.KNR_WEIR_GM + 1)

/-- A number of macroticks in eighths of a nanosecond. -/
def macro8 (n : Nat) : Nat := 8000 * n

/-- t_bit in twenty-fifths of 1/256 µs. -/
def State.tCell (s : State) : Nat :=
  let r := s.f Fld.KNR_CFG0_RATE
  if r = 0 then 256 else if r = 1 then 512 else 1280

/-! ### The schedule (R323, R344) -/

/-- The start of a macrotick of the present turn, in microticks after the turn's start: rc is spread over the turn's first
|rc| macroticks (R344). -/
def State.macroAt (s : State) (m : Nat) : Int :=
  let rc := s.knr.rcNow
  64 * m + (if rc < 0 then -(min m rc.natAbs : Int) else (min m rc.natAbs : Int))

/-- The first macrotick at or after an instant of the turn (R349). -/
def State.macroFrom (s : State) (t : Int) : Nat :=
  let n := s.knr.rcNow.natAbs
  let w : Nat := if s.knr.rcNow < 0 then 63 else 65
  let x := t.toNat
  if x ≤ w * n then (x + w - 1) / w else n + (x - w * n + 63) / 64

/-- The start of a bucket, and of the spill segment's parts, in macroticks. -/
def State.bucketMacro (s : State) (b : Nat) : Nat := b * s.f Fld.KNR_CFG1_BL
def State.spillEnd (s : State) : Nat := s.f Fld.KNR_CFG0_TL - s.f Fld.KNR_CFG2_CGAP

/-- The static bucket that an instant of the turn lies in, in 1/256 µs. -/
def State.bucketAt (s : State) (t : Int) : Option Nat :=
  (List.range s.nb).find? (fun b =>
    decide (4 * s.macroAt (s.bucketMacro b) ≤ t ∧ t < 4 * s.macroAt (s.bucketMacro (b + 1))))

/-! ### The Weir's windows (R346, R347), in eighths of a nanosecond after its turn's start -/

/-- The part of `[a, b]` that lies in `[lo, hi]`, counted from `a`. -/
def partIn (a b lo hi : Int) : Option (Nat × Nat) :=
  let x := max a lo
  let y := min b hi
  if x < y then some ((x - a).toNat, (y - a).toNat) else none

/-- The parts of a transmission of `len` from `a` on in which the Weir lets TXEN be high, by its windows of the turn and
the next. `cold`: SBKT is permitted in COLDSTART. -/
def State.weirParts (s : State) (cold : Bool) (a : Int) (len : Nat) : List (Nat × Nat) :=
  if !s.fb Fld.KNR_STAT_WALIGN then []
  else
    let may (b : Nat) : Bool := s.bucketOk b || (cold && b == s.f Fld.KNR_CFG3_SBKT)
    let tl : Int := macro8 (s.f Fld.KNR_CFG0_TL)
    let one (base : Int) (b : Nat) : Option (Nat × Nat) :=
      partIn a (a + len) (base + macro8 (s.bucketMacro b) + s.gm) (base + macro8 (s.bucketMacro (b + 1)) - s.gm)
    let bs := (List.range s.nb).filter may
    bs.filterMap (one 0) ++ bs.filterMap (one tl)

/-- The same of a spill frame (R347): the request begins in the segment, less GM at either end, with fewer than SPMAX
spill frames sent in the Weir's turn; the window stays open for t_frame(LMAXS) + 0.25 µs, but never past its end. -/
def State.weirSpill (s : State) (a : Int) (len : Nat) : List (Nat × Nat) :=
  let lo : Int := macro8 (s.bucketMacro s.nb) + s.gm
  let hi : Int := macro8 s.spillEnd - s.gm
  if s.fb Fld.KNR_STAT_WALIGN && decide (s.knr.spillSent < s.f Fld.KNR_WEIR_SPMAX) && decide (lo ≤ a ∧ a ≤ hi) then
    (partIn a (a + len) a (min hi (a + s.tFrame (s.f Fld.KNR_CFG2_LMAXS) + 2000))).toList
  else []

/-- An instant of the engine's turn, in microticks, on the Weir's schedule (R345). -/
def State.onWeir (s : State) (t : Int) : Int := 125 * (t + s.knr.wOff)

/-- No two enabled transmit buffers name one bucket. -/
def distinctNats : List Nat → Bool
  | [] => true
  | x :: r => !r.contains x && distinctNats r

/-- The checks of R324. -/
def State.knrCfgOk (s : State) : Bool :=
  let tl := s.f Fld.KNR_CFG0_TL
  let nbl := s.nb * s.f Fld.KNR_CFG1_BL
  let cg := s.f Fld.KNR_CFG2_CGAP
  let lofs := macro8 (s.f Fld.KNR_CFG1_LOFS)
  let pi := 125 * s.offLim
  let tx := bufs64.filter s.isTx
  let sync := s.fb Fld.KNR_CFG0_SYNCN
  decide (nbl + cg ≤ tl) && decide (s.f Fld.KNR_CFG3_TMARK < tl) && decide (s.f Fld.KNR_CFG3_SBKT < s.nb) &&
  decide (s.gm + pi ≤ lofs) &&
  decide (lofs + s.tFrame (s.f Fld.KNR_CFG1_LMAX) + pi + s.gm ≤ macro8 (s.f Fld.KNR_CFG1_BL)) &&
  decide (s.offLim + 64 ≤ cg * 64) && decide (s.rateLim + cg ≤ tl) &&
  (!s.fb Fld.KNR_CFG0_COLD || sync) && (!sync || s.bucketOk (s.f Fld.KNR_CFG3_SBKT)) &&
  tx.all (fun n =>
    let b := s.f (Fld.KNR_BUF_CFG_NUM n)
    decide (b < s.nb) && s.bucketOk b && decide (s.f (Fld.KNR_BUF_CFG_LEN n) ≤ s.f Fld.KNR_CFG1_LMAX)) &&
  distinctNats (tx.map (fun n => s.f (Fld.KNR_BUF_CFG_NUM n))) &&
  (s.f Fld.KNR_WEIR_SPMAX == 0 ||
    decide (8000 + s.tFrame (s.f Fld.KNR_CFG2_LMAXS) + s.gm + macro8 (nbl + cg) ≤ macro8 tl))

/-! ### State moves -/

/-- TURN in KNR_STAT and KNR_TIME. -/
def State.setTurn (s : State) (n : Nat) : State := (s.setF Fld.KNR_STAT_TURN n).setF Fld.KNR_TIME_TURN n

/-- What a move of the engine means for the lane: a loss of KSYNC for its return (R381), the end of its turn marks for
its modes (R28). -/
def State.knrMoved (before s : State) : State :=
  let t := if before.ksync && !s.ksync then s.ksyncLost else s
  if before.hasMarks && !s.hasMarks then t.marksStopped else t

/-- A move to a state, with what it means for the lane. -/
def State.knrGo (s : State) (st cause : Nat) : State := State.knrMoved s (s.knrMove st cause)

/-- The variables of a turn start anew. -/
def Knaor.newTurn (x : Knaor) : Knaor :=
  { x with devs := [], ownSync := false, sawSync := false, turnBad := false, first := none }

/-- A schedule starts, on entry into COLDSTART or INTEGRATING: the Weir takes it (R345). Turns that R342 and R333 count
follow one another, so what was counted on an earlier schedule is gone; a channel that is lost stays so. -/
def State.startSchedule (s : State) (turn : Nat) : State :=
  ((s.setTurn turn).setF Fld.KNR_STAT_WALIGN 1).updKnr (fun x =>
    { x.newTurn with
      miss := 0, acc := 0, rcNow := 0, wdevs := [], wTurn := turn % 64, wOff := 0, gapDone := false, weirFirst := false
      chans := Vector.replicate 2 {}, rx := Vector.replicate 64 {}, coldLog := []
      spillC := s.nb, spillT := s.bucketMacro s.nb, spillSent := 0, marked := false, latched := none, clips := 0 })

/-! ### Transmit buffers (R332, R445) -/

/-- The sixteen words of a buffer. -/
def State.bufData (s : State) (n : Nat) : List Word := (List.range 16).map (fun i => s.reg (Reg.KNR_DATA n i))

/-- A transmit buffer as it stands. -/
def State.latchBuf (s : State) (n : Nat) : TxLatch :=
  ⟨n, s.fb (Fld.KNR_BUF_CFG_VALID n), s.f (Fld.KNR_BUF_CFG_LEN n), s.bufData n⟩

/-- Every enabled transmit buffer as it stands. -/
def State.latchTx (s : State) : List TxLatch := (bufs64.filter s.isTx).map s.latchBuf

/-- The health word placed in a latched buffer (R445). -/
def TxLatch.health (x : TxLatch) (w : Word) : TxLatch :=
  { x with
    valid := true, len := max 2 x.len
    data := match x.data with
      | d :: r => d.put 0 16 (w.field 0 16) :: r
      | [] => [] }

/-- The latch of a turn mark, with the health word (R332, R445). -/
def State.latchMark (s : State) : State :=
  let tx := s.latchTx
  if !s.fb Fld.HLTH_CFG_EN then s.updKnr (fun x => { x with latched := some tx })
  else
    let b := s.f Fld.HLTH_CFG_BUF
    if !s.isTx b then (s.updKnr (fun x => { x with latched := some tx })).setF Fld.HLTH_CFG_BADBUF 1
    else
      let w := s.healthWord
      let s1 := s.updKnr (fun x => { x with
        latched := some (tx.map (fun y => if y.buf = b then y.health w else y)) })
      (((s1.setF Fld.HLTH_CFG_BADBUF 0).setF Fld.HLTH_WORD_BOW 0).setF Fld.HLTH_WORD_OVRN 0).raise 213

/-- The transmit buffers are about to change: in COLDSTART what they hold is kept, with the instant (R339). -/
def State.coldNote (s : State) : State :=
  if s.knrState ≠ 2 || s.knr.coldLog.head?.any (fun e => e.1 == s.age) then s
  else s.updKnr (fun x => { x with coldLog := (s.age, s.latchTx) :: x.coldLog })

/-- What the transmit buffers held at an instant: a change of that very instant may lie on either side (R332, R339). -/
def State.coldAt (s : State) (t : Nat) : List TxLatch × State :=
  let r := if s.knr.coldLog.any (fun e => e.1 == t) then s.takeBit else (false, s)
  (s.knr.coldLog.foldl (fun cur e => if t < e.1 || (e.1 == t && r.1) then e.2 else cur) s.latchTx, r.2)

/-! ### Frames (R325-R327) -/

/-- One bit into the header CRC's register (R326). -/
def hcrcBit (c : Nat) (b : Bool) : Nat :=
  let top := (c / 128 % 2 == 1) != b
  let sh := c * 2 % 256
  if top then sh ^^^ 0x1D else sh

/-- A byte with its bits reversed. -/
def flipByte (n : Nat) : Byte :=
  BitVec.ofNat 8 ((List.range 8).foldl (fun acc i => if n / 2 ^ i % 2 = 1 then acc + 2 ^ (7 - i) else acc) 0)

/-- The header CRC byte (R326): bit 0 is the coefficient of x^7. -/
def headerCrc (bs : List Byte) : Byte := flipByte ((bs.flatMap byteBits).foldl hcrcBit 0xFF)

/-- A frame's header fields (R325). -/
structure KHead where
  typ    : Nat
  sync   : Bool
  null   : Bool
  join   : Bool
  node   : Nat
  bucket : Nat
  turn   : Nat
  len    : Nat
  chl    : Nat
deriving DecidableEq, Repr

/-- The six header bytes. -/
def KHead.bytes (h : KHead) : List Byte :=
  [BitVec.ofNat 8 (1 + 2 * h.typ + 16 * Word.ofBool h.sync + 32 * Word.ofBool h.null + 64 * Word.ofBool h.join),
   BitVec.ofNat 8 h.node, BitVec.ofNat 8 h.bucket, BitVec.ofNat 8 h.turn, BitVec.ofNat 8 h.len,
   BitVec.ofNat 8 h.chl]

/-- The bytes of a frame on the wire. -/
def frameBytes (h : KHead) (payload : List Byte) : List Byte :=
  let body := h.bytes ++ [headerCrc h.bytes] ++ payload
  body ++ leBytes (crc32c body) 4

/-- A byte's field. -/
def bfield (b : Byte) (lo w : Nat) : Nat := b.toNat / 2 ^ lo % 2 ^ w

/-- A header whose CRC is correct, read from the bytes of a frame. -/
def headOf (bs : List Byte) : Option KHead :=
  match bs with
  | b0 :: b1 :: b2 :: b3 :: b4 :: b5 :: c :: _ =>
    if c ≠ headerCrc [b0, b1, b2, b3, b4, b5] then none
    else some ⟨bfield b0 1 3, b0.getLsbD 4, b0.getLsbD 5, b0.getLsbD 6, bfield b1 0 5, b2.toNat, bfield b3 0 6,
      bfield b4 0 7, bfield b5 0 2⟩
  | _ => none

/-- The reserved bits are 0 and MARK is 1. -/
def reservedOk (bs : List Byte) : Bool :=
  match bs with
  | b0 :: b1 :: _ :: b3 :: b4 :: b5 :: _ =>
    b0.getLsbD 0 && !b0.getLsbD 7 && bfield b1 5 3 == 0 && bfield b3 6 2 == 0 && !b4.getLsbD 7 && bfield b5 2 6 == 0
  | _ => false

/-- The header and payload of a frame that is valid by rules 1-3 of R329. -/
def frameOf (rx : KRead) : Option (KHead × List Byte) :=
  match headOf rx.bytes with
  | none => none
  | some h =>
    let n := 7 + h.len
    if !rx.codingErr && reservedOk rx.bytes && h.typ ≤ 2 && h.len ≤ 64 && (!h.null || h.len == 0) &&
        rx.bytes.length == n + 4 && rx.bytes.drop n == leBytes (crc32c (rx.bytes.take n)) 4
    then some (h, (rx.bytes.drop 7).take h.len) else none

/-! ### Receive buffers (R330, R333) -/

/-- A buffer's wait entry changed. -/
def State.updRx (s : State) (n : Nat) (h : RxWait → RxWait) : State :=
  if hn : n < 64 then { s with knr := { s.knr with rx := s.knr.rx.set n (h s.knr.rx[n]) } } else s

/-- A buffer takes frames of this channel. -/
def State.rxOn (s : State) (n : Nat) (c : Fin 2) : Bool :=
  s.fb (if c = 0 then Fld.KNR_BUF_CFG_RX1 n else Fld.KNR_BUF_CFG_RX2 n)

/-- A buffer refuses a sender (rule 6 of R329). -/
def State.nodeRefused (s : State) (n node : Nat) : Bool :=
  s.fb (Fld.KNR_BUF_CFG_NCHK n) && s.f (Fld.KNR_BUF_CFG_NODE n) != node

/-- A second copy of a frame that a buffer holds (R330): the first valid copy is the one whose last stop bit ends first,
on K1 if both end at once. -/
def RxTaken.second (g n : RxTaken) : RxTaken :=
  { (if n.ended < g.ended ∨ (n.ended = g.ended ∧ n.ch = 0) then n else g) with both := true }

/-- Two copies of one frame. -/
def RxTaken.same (g n : RxTaken) : Bool := g.turn == n.turn && g.place == n.place && g.ch != n.ch

/-- An entry put where a frame of its kind waits. -/
def RxWait.put (x : RxWait) (null : Bool) (n : RxTaken) : RxWait :=
  if null then { x with null := some n } else { x with got := some n }

/-- A buffer takes a valid copy, `null` if NULL = 1 (R330): a second copy of a frame leaves that frame's first copy, NULL
or not, unless it ended earlier. -/
def RxWait.take (x : RxWait) (null : Bool) (n : RxTaken) : RxWait :=
  let g := match x.got with | some g => if g.same n then some g else none | none => none
  let z := match x.null with | some g => if g.same n then some g else none | none => none
  match g, z with
  | some g, _ =>
    let r := g.second n
    if r.ch = g.ch then { x with got := some r } else ({ x with got := none } : RxWait).put null r
  | none, some g =>
    let r := g.second n
    if r.ch = g.ch then { x with null := some r } else ({ x with null := none } : RxWait).put null r
  | none, none => x.put null n

/-- A frame is of the span that a freeze takes (R333): with no earlier turn mark, that is what ended in the present turn
and in the turn before after its macrotick TMARK. -/
def State.inSpan (s : State) (g : RxTaken) : Bool :=
  let now := s.f Fld.KNR_TIME_TURN
  s.knr.hadMark || g.turn == now || ((g.turn + 1) % 64 == now && g.after)

/-- What is frozen from a buffer. -/
def State.spanned (s : State) (n : Nat) : RxWait :=
  let x : RxWait := s.knr.rx[n]?.getD {}
  ⟨x.got.filter s.inSpan, x.null.filter s.inSpan⟩

/-- A word of a payload; bytes beyond it read 0. -/
def payloadWord (bs : List Byte) (i : Nat) : Word :=
  BitVec.ofNat 32 ((List.range 4).foldl (fun acc k => acc + (bs[4 * i + k]?.getD 0).toNat * 256 ^ k) 0)

/-- One buffer's freeze (R333). BOTH is the frame's that came, NULL or not; the other fields of STAT stay with the
frozen copy (DESIGN CHOICE, log entry 28). -/
def State.freezeBuf (s : State) (n : Nat) : State :=
  let r := s.spanned n
  let s1 := s.updRx n (fun _ => {})
  match r.got with
  | some g =>
    let s2 := s1.each (List.range 16) (fun t i => t.setReg (Reg.KNR_DATA n i) (payloadWord g.payload i))
    s2.setReg (Reg.KNR_BUF_STAT n) (BitVec.ofNat 32
      (2 ^ 6 * g.ch.val + 2 ^ 8 * g.node + 2 ^ 13 * Word.ofBool g.both + 2 ^ 14 * Word.ofBool g.join))
  | none =>
    let s2 := (s1.satAdd (Fld.KNR_BUF_STAT_AGE n) 1).setB (Fld.KNR_BUF_STAT_NULLRX n) r.null.isSome
    match r.null with
    | some z => s2.setB (Fld.KNR_BUF_STAT_BOTH n) z.both
    | none => s2

/-- Every receive buffer is frozen, and the groups with new data raise their sources (R333). -/
def State.freezeMark (s : State) : State :=
  let rx := bufs64.filter s.isRx
  let s1 := s.each rx State.freezeBuf
  s1.each (List.range 8) (fun t g =>
    if rx.any (fun n => s1.f (Fld.KNR_BUF_CFG_GRP n) == g && s1.f (Fld.KNR_BUF_STAT_AGE n) == 0) then t.raise (137 + g)
    else t)

/-! ### Channel loss (R342) -/

/-- What is counted of a channel. -/
def State.chan (s : State) (c : Fin 2) : ChanCount := s.knr.chans[c.val]

/-- A function applied to it. -/
def State.updChan (s : State) (c : Fin 2) (h : ChanCount → ChanCount) : State :=
  s.updKnr (fun x => { x with chans := x.chans.set c.val (h x.chans[c.val]) })

/-- A turn ends for a channel (R342): turns without a frame count while the node has turn marks, turns that restore the
channel in every turn of its schedule. -/
def State.chanTurn (s : State) (c : Fin 2) (marks : Bool) : State :=
  let x := s.chan c
  let y : ChanCount := { silent := if marks && !x.heard then x.silent + 1 else 0, badTx := x.badTx,
                         good := if s.fb (lostFld c) && x.heard && !x.lbBad then x.good + 1 else 0 }
  let s1 := s.updChan c (fun _ => y)
  if !s.chEn c then s1.setLost c true
  else if s.fb (lostFld c) then
    (if 2 ≤ y.good then (s1.updChan c (fun z => { z with good := 0, badTx := 0, silent := 0 })).setLost c false else s1)
  else if marks && decide (s.chLost ≤ y.silent) then
    (s1.updChan c (fun z => { z with good := 0 })).setLost c true
  else s1

/-! ### Clock synchronisation (R343, R344) -/

/-- Division by two, toward zero. -/
def half0 (z : Int) : Int := z.tdiv 2

/-- An integer at its place in a rising list. -/
def insertInt (x : Int) : List Int → List Int
  | [] => [x]
  | y :: r => if x ≤ y then x :: y :: r else y :: insertInt x r
/-- A list in rising order. -/
def sortInt (xs : List Int) : List Int := xs.foldr insertInt []

/-- The fault-tolerant midpoint (R344). -/
def midpoint (xs : List Int) : Int :=
  let v := sortInt xs
  let w := if 3 ≤ v.length then (v.drop 1).dropLast else v
  half0 ((w.head?.getD 0) + (w.getLast?.getD 0))

/-- The median (R345). -/
def median (xs : List Int) : Int :=
  let v := sortInt xs
  let n := v.length
  if n % 2 = 1 then v[n / 2]?.getD 0 else half0 ((v[n / 2 - 1]?.getD 0) + (v[n / 2]?.getD 0))

/-- A deviation's value: the mean of both copies, or that of the one that is valid (R343). -/
def Deviation.value (x : Deviation) : Int :=
  match x.d1, x.d2 with
  | some a, some b => half0 (a + b)
  | some a, none => a
  | none, some b => b
  | none, none => 0

/-- A deviation at its place, in the order of places. -/
def putDev (place : Nat) (c : Fin 2) (d : Int) : List Deviation → List Deviation
  | [] => [if c = 0 then { place := place, d1 := some d } else { place := place, d2 := some d }]
  | x :: r =>
    if x.place = place then (if c = 0 then { x with d1 := some d } else { x with d2 := some d }) :: r
    else if place < x.place then
      (if c = 0 then { place := place, d1 := some d } else { place := place, d2 := some d }) :: x :: r
    else x :: putDev place c d r

/-- The places and values kept in a turn, the node's own sync frame among them (R343). -/
def State.kept (s : State) : List Deviation :=
  let own := s.f Fld.KNR_CFG3_SBKT
  let all := if s.knr.ownSync then putDev own 0 0 (s.knr.devs.filter (fun x => x.place != own)) else s.knr.devs
  all.take 15

/-- Hundredths of a microtick as microticks: what is not whole may read either way (DESIGN CHOICE, log entry 72). -/
def State.toMicro (s : State) (n : Int) : Int × State :=
  if n % 100 = 0 then (n / 100, s)
  else let b := s.takeBit; (if b.1 then n / 100 + 1 else n / 100, b.2)

/-- A reference edge at `t`, in 1/256 µs after a turn's start, less where it would come from a sender whose bucket starts
at microtick `b` (R343), in hundredths of a microtick. -/
def State.edgeDev (s : State) (c : Fin 2) (b t : Int) : Int :=
  25 * (t - 4 * (b + s.f (if c = 0 then Fld.KNR_DELAY_DELAY1 else Fld.KNR_DELAY_DELAY2))) - 7 * s.tCell

/-- A number in a signed 16-bit field, saturated. -/
def sat16 (z : Int) : Nat := (BitVec.ofInt 16 (max (-32768) (min 32767 z))).toNat

end Sys2Proof.Machine
end

