-- ==== Sys2Proof/Machine/Records.lean ====
section
/-!
DEFINITION. The fault log (R390, R391): the records that the Miller core's lane program writes, by kind. The spec does
not say when it writes those that no record window waits for: it does so while time passes (DESIGN CHOICE, log
entry 66).
-/

namespace Sys2Proof.Machine

/-- The Miller core executes its program: it has left reset and has not halted. -/
def State.millerRuns (s : State) : Bool :=
  (s.eng .miller).run == .running || (s.eng .miller).run == .waiting

/-- A record of the fault log (R390, R391). The spec gives no trigger codes: the code
is a free value (log entry 66), which a payload may carry too. -/
def State.faultRecord (s : State) (kind role : Nat) (payload : Nat → List Word) : State :=
  let (v, s1) := s.takeWord
  let trig := v.toNat % 256
  s1.putRecord { wear := false, words := s1.recordWords kind role trig (payload trig) }

/-- KIND of a RESIGN or LEAVE as LEAT_RESIGN codes it; ENA, which it does not code, is 2 (log entry 66). -/
def depKindCode : DepKind → Nat
  | .fault => 0 | .yield => 1 | .ena => 2

/-- LEAT_LINK as it reads. -/
def State.viewLink (s : State) : Word :=
  (s.reg Reg.LEAT_LINK).put Fld.LEAT_LINK_CONN.lo Fld.LEAT_LINK_CONN.w s.connBits

/-- The record of the lane's own RESIGN or LEAVE (kinds 0x02 and 0x03). -/
def State.recordDepart (s : State) : State :=
  match s.leat.departed with
  | some (role, tok) =>
    let s1 := s.faultRecord (if role = 3 then 0x02 else 0x03) role.toNat (fun trig =>
      [BitVec.ofNat 32 (depKindCode tok.kind), tok.tgt.setWidth 32, BitVec.ofNat 32 trig,
       BitVec.ofNat 32 (tok.states.toNat + tok.held.toNat * 2 ^ 16), s.viewLink])
    { s1 with leat := { s1.leat with departed := none } }
  | none => s

/-- The record of a mismatch (kind 0x01). -/
def State.recordMismatch (s : State) : State :=
  let role := match s.leat.departed with | some (r, _) => r.toNat | none => s.f Fld.SYS_MODE_ROLE
  s.faultRecord 0x01 role (fun _ =>
    [s.reg (Reg.MSP_MMLANE 0), s.reg (Reg.MSP_MMLANE 1), s.reg Reg.MSP_MMRET, s.reg Reg.MSP_MMPC,
     s.reg Reg.MSP_MMSTAT])

/-- What the Miller core logs in a record window, before its acknowledge or the window's end (R224, R372): the mismatch,
or the departure, after what a dip has kept it from writing. A Miller core that does not execute logs nothing. -/
def State.recordWindow (s : State) : State :=
  if !s.millerRuns then s
  else if s.fb Fld.MSP_MMSTAT_VALID then s.writeDue.recordMismatch
  else s.writeDue.recordDepart

/-- A departure of kind YIELD or ENA, which no window waits for. -/
def State.noteDepart (s : State) : State := if s.mode.window.isSome then s else s.recordDepart

/-- A latch that has set or changed (kind 0x06): all five latch words. -/
def State.noteLatches (s : State) : State :=
  let now : Vector Word 5 := Vector.ofFn (fun b => s.viewLatch b)
  if now = s.plb.noted.latches then s
  else
    let s1 := { s with plb := { s.plb with noted := { s.plb.noted with latches := now } } }
    if bridges.any (fun b => (s.bridge b).latch.held) then
      s1.faultRecord 0x06 (s.f Fld.SYS_MODE_ROLE) (fun _ => bridges.map (fun b => s.viewLatch b))
    else s1

/-- A peer that is newly counted as lost (kind 0x05). -/
def State.noteLost (s : State) (l : Lane) : State :=
  let n := (laneIdx l).val
  let lost := s.fb (Fld.LEAT_PEER_LOST n)
  if lost = s.plb.noted.lost.getLsbD n then s
  else
    let s1 := { s with plb := { s.plb with noted := { s.plb.noted with lost := s.plb.noted.lost ^^^ (1#3 <<< n) } } }
    if lost then
      s1.faultRecord 0x05 (s.f Fld.SYS_MODE_ROLE) (fun _ =>
        [BitVec.ofNat 32 (laneCode l), s.reg (Reg.LEAT_PEER n), s.reg Reg.LEAT_TURNNO])
    else s1

/-- A lead that has passed from one lane to another (kind 0x07). -/
def State.noteLead (s : State) : State :=
  let now := s.f Fld.LEAT_ROLE_LEAD
  let old := s.plb.noted.lead
  if now = old then s
  else
    let s1 := { s with plb := { s.plb with noted := { s.plb.noted with lead := now } } }
    if now ≠ 0 ∧ old ≠ 0 then
      s1.faultRecord 0x07 (s.f Fld.SYS_MODE_ROLE) (fun _ =>
        [BitVec.ofNat 32 old, BitVec.ofNat 32 now, s.reg Reg.LEAT_TURNNO])
    else s1

/-- The verdicts held for a TURNNO, two bits for each lane. -/
def State.verdictWord (s : State) (t : Word) : Word :=
  BitVec.ofNat 32 (lanes.foldl (fun acc l =>
    match s.leat.verdicts.find? (fun v => v.lane = l && v.turnno == t) with
    | some v => acc + v.result.toNat * 4 ^ (laneIdx l).val
    | none => acc) 0)

/-- A comparison of the lane's own that gave MISMATCH (kind 0x04). -/
def State.noteShadow (s : State) : State :=
  let t := s.copyTurn
  if s.f Fld.LEAT_SHSTAT_RESULT ≠ 2 ∨ s.plb.noted.shadow = some t then s
  else
    let s1 := { s with plb := { s.plb with noted := { s.plb.noted with shadow := some t } } }
    s1.faultRecord 0x04 (s.f Fld.SYS_MODE_ROLE) (fun _ => [t, s.reg Reg.LEAT_SHSTAT, s.verdictWord t])

/-- What the Miller core finds to log as time passes. -/
def State.noteRecords (s : State) : State :=
  if s.sealed && s.millerRuns then
    ((s.writeDue.noteDepart.noteLatches.each lanes State.noteLost).noteLead).noteShadow
  else s

end Sys2Proof.Machine
end

