-- ==== Sys2Proof/Machine/Leats.lean ====
section
/-!
DEFINITION. The commands of the Leats (chapter 15): wires, tokens, copies, comparison, resigning.
-/

namespace Sys2Proof.Machine

/-- LEAT_WIRE_REPLACE (R354, R356, R442): a data wire of a receive direction fails. The spare replaces
it, for good; a second failure leaves fewer than four wires. A block in transit is not complete. -/
def execLeatWireReplace (leat : Fin 2) (wire : Fin 4) (s : State) : Host.Outcome State Fault Refusal :=
  .next (
    if !(s.leatsRun && s.leatExists leat) then s
    else if s.fb (spareFld leat) then ((s.updEnd leat (fun x => { x with wiresOk := false })).leatDown leat).linkCheck
    else
      let s1 := (s.setF (spareFld leat) 1).raise 166
      let s2 := s1.wearRecord 0x06 [BitVec.ofNat 32 leat.val, BitVec.ofNat 32 wire.val]
      (s2.updLog (fun l => { l with wires := l.wires ++ [(leat, wire)] })))

/-- The lane holds FORM and the initial copy of the formation in progress (R361): a complete block counts before the
turn mark that makes it the latest copy. -/
def State.holdsForm (s : State) : Bool :=
  match s.mode.forming with
  | some f => f.token && (f.copy || s.leat.blockIn.isSome)
  | none => false

/-- The lane's own STATUS (R355). -/
def State.ownStatus (s : State) : StatusTok :=
  { lane := s.lane
    rxOk0 := s.rxHealthy 0
    rxOk1 := s.rxHealthy 1
    mode := BitVec.ofNat 4 s.md
    role := BitVec.ofNat 2 (s.f Fld.SYS_MODE_ROLE)
    stopping := s.fb Fld.SYS_MODE_STOPPING
    scause := BitVec.ofNat 3 (s.f Fld.SYS_MODE_SCAUSE)
    unread := BitVec.ofNat 4 (s.f Fld.SAFE_STAT_DISCF)
    elig := s.eligible
    stage := BitVec.ofNat 3 s.stage
    request := if s.mode.request = some 3 ∨ s.mode.request = some 4 then s.mode.request else none
    held := s.heldMask
    shorted := s.shortedMask
    turn := s.markCount
    qual := s.selfQualifies
    cand := s.mayLead
    clock := s.onKnaor
    kk := s.bothLost
    ready := s.holdsForm }

/-- STATUS_SEND (R355): on both Leats, up or down. What the lane shows of its bridges and of its
eligibility is kept for R378 and R376. -/
def execStatusSend (s : State) : Host.Outcome State Fault Refusal :=
  .next (
    if !s.leatsRun then s
    else
      let s1 := s.each [0, 1] (fun t i => if t.leatExists i then t.send (.status i t.ownStatus) else t)
      { s1 with leat := { s1.leat with
          ownHeld := (s.heldMask :: s1.leat.ownHeld).take 2, ownElig := some s.eligible } })

/-- What LEAT_PEER shows of a lane (R381, R379). -/
def State.showPeer (s0 : State) (l : Lane) : State :=
  let s := s0.showShorts
  let n := (laneIdx l).val
  match (s.peer l).status with
  | some t =>
    (((s.setF (Fld.LEAT_PEER_ROLE n) (s.peerRole l)).setF (Fld.LEAT_PEER_STAGE n) t.stage.toNat).setF
      (Fld.LEAT_PEER_SHORTED n) (s.peer l).shorted.toNat)
  | none => s.setF (Fld.LEAT_PEER_SHORTED n) (s.peer l).shorted.toNat

/-- A peer's STATUS is held (R356, R359): one sent after the latest turn mark ends what the mark gave the peer; a
lane lost implicitly stays counted as inert (R379; DEDUCED, log entry 63). -/
def State.takeStatus (s : State) (tok : StatusTok) : State :=
  (s.updPeer tok.lane (fun p => { p with
    status := some tok,
    older := (match p.status with | some o => o :: p.older | none => p.older).take 2,
    given := if tok.turn = s.markCount then none else p.given,
    shorted := if s.f (Fld.LEAT_PEER_HOW (laneIdx tok.lane)) = 3 then p.shorted else tok.shorted,
    rampT0 := if tok.stage = 4 then (if p.rampT0.isNone then some s.tnow else p.rampT0) else none,
    cleanRun := if tok.stage = 3 then p.cleanRun else 0 })).showPeer tok.lane

/-- A lane outside the RUN modes learns the lead from STATUS (R366). -/
def State.learnLead (s : State) (tok : StatusTok) : State :=
  if 2 ≤ s.f Fld.SYS_MODE_ROLE then s
  else if tok.role = 3 then s.setLead (some tok.lane)
  else if s.lead = some tok.lane then s.setLead none
  else s

/-- The Leat that a STATUS came on goes down or comes up (R356). -/
def State.judgeLeat (s : State) (i : Fin 2) (tok : StatusTok) : State :=
  let ok := rxOf tok i
  let s1 := s.updEnd i (fun x => { x with
    heard := true, good := if ok && x.wiresOk then min 10 (x.good + 1) else 0 })
  if !(ok && s1.leat.ends[i.val].wiresOk) then s1.leatDown i
  else if !s1.leatUp i && s1.leat.ends[i.val].good == 10 then s1.leatUpNow i
  else s1

/-- STATUS_TOKEN (R355, R356, R359, R362, R363, R379, R381, R387). -/
def execStatusToken (leat : Fin 2) (tok : StatusTok) (s : State) : Host.Outcome State Fault Refusal :=
  .next (
    if !(s.leatsRun && s.leatExists leat && tok.lane = s.peerAt leat) then s
    else
      let before := s.connBits
      let s1 := (((s.takeStatus tok).learnLead tok).judgeLeat leat tok).noteConn before
      let s2 := if tok.role = 3 ∧ tok.turn = s.markCount then s1.leadClash tok.lane else s1
      s2.linkCheck.stopsNow)

/-- LEAT_STATUS_TIMEOUT (R356): no valid STATUS for 25 µs. -/
def execLeatStatusTimeout (leat : Fin 2) (s : State) : Host.Outcome State Fault Refusal :=
  .next (
    if !(s.leatsRun && s.leatExists leat) then s
    else ((s.updEnd leat (fun x => { x with heard := false })).leatDown leat).linkCheck)

/-- VERSION_TOKEN (R100, R355, R357). -/
def execVersionToken (leat : Fin 2) (tok : VersionTok) (s : State) : Host.Outcome State Fault Refusal :=
  .next (
    if !(s.leatsRun && s.leatUp leat) || tok.lane = s.lane then s
    else
      let eq := versionsEqual s.versionTok tok
      let n := (laneIdx tok.lane).val
      let s1 := (s.updPeer tok.lane (fun p => { p with version := some tok }))
      let s2 := (s1.setBit Fld.CIS_VERCMP_SEEN n true).setBit Fld.CIS_VERCMP_EQ n eq
      let changed := s.fbit Fld.CIS_VERCMP_EQ n != eq ||
        (match (s.peer tok.lane).version with | some v => decide (v ≠ tok) | none => false)
      let s3 := if changed && (s.peer tok.lane).driving && (s.stage = 2 || s.stage = 3) then s2.toListen
        else s2
      (s3.raise 167).relay leat tok.lane (fun j => .version j tok))

/-- FORM_TOKEN (R361): the lane holds FORM when it names the lead and the mark that the lane itself
judged. -/
def execFormToken (leat : Fin 2) (tok : FormTok) (s : State) : Host.Outcome State Fault Refusal :=
  .next (
    if !(s.leatsRun && s.leatUp leat) || tok.lead = s.lane then s
    else
      let s1 := match s.mode.forming with
        | some f => if f.lead = tok.lead ∧ f.tgt = tok.tgt
            then { s with mode := { s.mode with forming := some { f with token := true } } } else s
        | none => s
      s1.relay leat tok.lead (fun j => .form j tok))

/-- A departure token is held until its TGT (R373, R379), with the eligibilities at its first arrival (R376). -/
def State.takeDepart (s : State) (tok : DepartTok) : State :=
  (s.updPeer tok.lane (fun p => { p with
    leaving := some tok, shorted := s.tokShorts tok
    eligs := if p.leaving = some tok then p.eligs else some s.eligMask })).showPeer tok.lane

/-- RESIGN_TOKEN (R373). -/
def execResignToken (leat : Fin 2) (tok : DepartTok) (s : State) : Host.Outcome State Fault Refusal :=
  .next (
    if !(s.leatsRun && s.leatUp leat) || tok.lane = s.lane then s
    else ((s.takeDepart tok).raise 162).relay leat tok.lane (fun j => .resign j tok))

/-- LEAVE_TOKEN (R373). -/
def execLeaveToken (leat : Fin 2) (tok : DepartTok) (s : State) : Host.Outcome State Fault Refusal :=
  .next (
    if !(s.leatsRun && s.leatUp leat) || tok.lane = s.lane then s
    else (s.takeDepart tok).relay leat tok.lane (fun j => .leave j tok))

/-- The lead of a TRIPLEX holds MISMATCH verdicts of both followers for one turn (R370). -/
def State.bothMismatch (s : State) (t : Word) : Bool :=
  s.threeDrive && s.f Fld.SYS_MODE_ROLE = 3 &&
  s.peers.all (fun l => s.leat.verdicts.any (fun v => v.lane = l && v.result == 2 && v.turnno == t))

/-- VERDICT_TOKEN (R357, R370): held, and acted on by the lead; verdicts of an observer count toward
its promotion alone (R382). The latest 16 are kept. -/
def execVerdictToken (leat : Fin 2) (tok : VerdictTok) (s : State) : Host.Outcome State Fault Refusal :=
  .next (
    if !(s.leatsRun && s.leatUp leat) || tok.lane = s.lane then s
    else
      let seen := s.leat.verdicts.any (· == tok)
      let s1 := s.relay leat tok.lane (fun j => .verdict j tok)
      if seen then s1
      else
        let s2 := { s1 with leat := { s1.leat with verdicts := (tok :: s1.leat.verdicts).take 16 } }
        let s3 := s2.updPeer tok.lane (fun p => { p with
          cleanRun := if tok.result = 1 then p.cleanRun + 1 else 0 })
        let s4 := if tok.result = 2 then s3.satAdd Fld.LEAT_CNT_MISVERD 1 else s3
        if s4.bothMismatch tok.turnno then s4.roleFault else s4.clearCounts)

/-- The lane forms with itself as lead, and this is the window before the target mark (R361). -/
def State.formWindow (s : State) : Bool :=
  match s.mode.forming with
  | some f => f.lead = s.lane && f.tgt == BitVec.ofNat 6 s.nextMark
  | none => false

/-- The lead's part at the opening of a window (R365, R368). -/
def State.sendCopy (s : State) (form : Bool) : State :=
  let a := 4 * s.f Fld.LEAT_TXADDR_ADDR
  let ready := s.fb Fld.LEAT_TXCTL_READY
  let fits := match sharedAddr a with | some _ => s.lensOk a | none => false
  let s0 := (((s.setF Fld.LEAT_TXCTL_READY 0).setF Fld.LEAT_TXCTL_SENT 0).setF
    Fld.LEAT_TXCTL_NOTREADY 0).setF Fld.LEAT_TXCTL_TOOLONG 0
  let missed := fun (t : State) => if form then t else t.satAdd Fld.LEAT_TXCTL_MISS 1
  if !ready then missed (s0.setF Fld.LEAT_TXCTL_NOTREADY 1)
  else if !fits then missed (s0.setF Fld.LEAT_TXCTL_TOOLONG 1)
  else
    let s1 := ((s0.setF Fld.LEAT_TXCTL_SENT 1).setF Fld.LEAT_TXCTL_BUSY 1).setF Fld.LEAT_TXCTL_MISS 0
    let s2 := s1.sendUp (fun i => .copy i (s.block a form))
    match s2.mode.forming with
    | some f => if form then { s2 with mode := { s2.mode with forming := some { f with copy := true } } } else s2
    | none => s2

/-- The opening of a window at a lane that sends no copy (R365): READY clears, and TXCTL shows what the latest
opening found; the windows that R368 counts are a lead's. -/
def State.noCopy (s : State) : State :=
  let s1 := (s.setB Fld.LEAT_TXCTL_NOTREADY (!s.fb Fld.LEAT_TXCTL_READY)).setF Fld.LEAT_TXCTL_READY 0
  ((s1.setF Fld.LEAT_TXCTL_SENT 0).setF Fld.LEAT_TXCTL_TOOLONG 0).setF Fld.LEAT_TXCTL_MISS 0

/-- COPY_WINDOW_OPEN (R365, R369, R370). -/
def execCopyWindowOpen (s : State) : Host.Outcome State Fault Refusal :=
  .next (
    if !(s.leatsRun && s.fb Fld.LEAT_CFG_EN && s.hasMarks) then s
    else
      let s1 := { s with leat := { s.leat with windowOpen := true, blockIn := none, touched := false } }
      let s2 := if s1.compares && s1.fb Fld.LEAT_RXSTAT_FRESH && !s1.leat.goDone then s1.verdict 3 0 else s1
      let due := if s2.leat.leaveDue = some 0 then some (if 50 ≤ s2.winUs then 1 else 2) else s2.leat.leaveDue
      let s3 := { s2 with leat := { s2.leat with goDone := true, leaveDue := due } }
      if s3.f Fld.SYS_MODE_ROLE = 3 then s3.sendCopy false
      else if s3.formWindow then s3.sendCopy true
      else s3.noCopy)

/-- COPY_BLOCK_SENT (R365). -/
def execCopyBlockSent (s : State) : Host.Outcome State Fault Refusal :=
  .next (if s.leatsRun then s.setF Fld.LEAT_TXCTL_BUSY 0 else s)

/-- A copy block goes on to the lane at the far end of the other Leat, when that lane reports its own
Leat to the sender down (R357). -/
def State.relayCopy (s : State) (i : Fin 2) (src : Option Lane) (block : List Byte) : State :=
  let j := otherEnd i
  let far := s.peerAt j
  let down := match (s.peer far).status with
    | some t => !(if i = 0 then t.rxOk1 else t.rxOk0)
    | none => false
  if src = some (s.peerAt i) && s.leatUp j && down then
    (s.send (.copy j block)).satAdd Fld.LEAT_CNT_RELAYED 1
  else s

/-- The checks of R366 on a block but for its CRC. -/
def State.blockFits (s : State) (block : List Byte) (form adopt : Bool) : Bool :=
  let src := laneOfCode (blockNum block 6 1)
  blockNum block 0 4 == 0x4C454154 && blockNum block 4 2 == 1 &&
  (src.isSome && (src = s.lead || (form && src = s.mode.forming.map (·.lead)))) &&
  blockNum block 0x1C 4 == s.activeVersion && (block.drop 0x20).take 8 == s.activeHash.take 8 &&
  (adopt || blockNum block 8 4 == (s.reg Reg.LEAT_TURNNO).toNat)

/-- COPY_BLOCK_RECEIVED (R354, R357, R362, R366): `cut` says that the block was cut in transit. A lane forwards in
every mode and whatever LEAT_CFG.EN holds (R357); it takes the block itself in an open window. -/
def execCopyBlockReceived (leat : Fin 2) (block : List Byte) (cut : Bool) (s : State) :
    Host.Outcome State Fault Refusal :=
  .next (
    if !(s.leatsRun && s.leatUp leat) then s
    else
      let src := laneOfCode (blockNum block 6 1)
      let s0 := s.relayCopy leat src block
      if !(s.fb Fld.LEAT_CFG_EN && s.leat.windowOpen) then s0
      else
      let form := blockNum block 7 1 % 2 == 1 && s0.mode.forming.isSome
      let s1 := match src with
        | some l => if l ≠ s.lane && blockNum block 8 4 == (s.reg Reg.LEAT_TURNNO).toNat
            then s0.leadClash l else s0
        | none => s0
      if !(form || s1.f Fld.SYS_MODE_ROLE = 1 || s1.f Fld.SYS_MODE_ROLE = 2) then s1
      else
        let n := s1.freeArea
        let s2 := match sharedAddr (s1.rxArea n) with
          | some a => { s1 with
              mem := s1.mem.writeBytes a (block.take 16452)
              ecc := s1.ecc.filter (fun w => !decide (a ≤ w ∧ w + 4 ≤ a + min 16452 block.length)) }
          | none => s1
        let s3 := { s2 with leat := { s2.leat with touched := true } }
        if cut then s3
        else if !blockCrcOk block then s3.satAdd Fld.LEAT_RXSTAT_CRCERR 1
        else
          let adopt := form || (s3.stage = 2 && s3.f Fld.LEAT_JOIN_CNT = 0)
          if s3.blockFits block form adopt then
            let s4 := { s3 with leat := { s3.leat with blockIn := some n } }
            if adopt then s4.setReg Reg.LEAT_TURNNO (BitVec.ofNat 32 (blockNum block 8 4)) else s4
          else s3)

/-- The rule of LEAT_SHCTL (R369). -/
def State.wShctl (s : State) (v : Word) : State :=
  if !(v.bit 0 && s.compares) || s.fb Fld.LEAT_SHSTAT_BUSY then s
  else
    let s1 := { s with leat := { s.leat with goDone := true } }
    if s1.fb Fld.LEAT_RXSTAT_FRESH && s1.fb Fld.LEAT_RXSTAT_PREV then
      { (s1.setF Fld.LEAT_SHSTAT_BUSY 1) with leat := { s1.leat with shCompare := some s1.shadowFind } }
    else s1.verdict 3 0

/-- SHADOW_COMPARE_DONE (R369, R370). -/
def execShadowCompareDone (s : State) : Host.Outcome State Fault Refusal :=
  .next (
    match s.leat.shCompare with
    | some (r, first) => if s.leatsRun then s.verdict r first else s
    | none => s)

/-- A peer is recorded as lost by isolation (R374, R379): its role changes at the first turn mark at least 10 µs ahead,
its bridges count from here on. -/
def State.isolatePeer (s : State) (l : Lane) : State :=
  if (s.peer l).byIsol.isSome then s
  else
    let r := s.takeTgt
    let n := (laneIdx l).val
    let sh := r.2.lostShorts l 2
    (((r.2.updPeer l (fun p => { p with
      byIsol := some r.1, shorted := sh, eligs := p.eligs.or (some s.eligMask) })).showPeer l).setF
      (Fld.LEAT_PEER_LOST n) 1).setF (Fld.LEAT_PEER_HOW n) 2

/-- ISOLATION_CHECK (R374). A lane that reaches neither of two driving peers takes them to be connected
to each other; one that reaches one of them knows that the other is cut off. -/
def execIsolationCheck (s : State) : Host.Outcome State Fault Refusal :=
  .next (
    if !(s.leatsRun && s.member s.lane) then s
    else
      let d := s.peers.filter (fun l => s.member l)
      let cut := d.filter (fun l => !s.connected l)
      if cut.isEmpty then s
      else if cut.length = 2 then (s.setF Fld.LEAT_LINK_ISOL 1).roleFault
      else if d.length = 1 && s.f Fld.SYS_MODE_ROLE ≠ 3 then (s.setF Fld.LEAT_LINK_ISOL 1).roleFault
      else s.each cut State.isolatePeer)

/-- IMPLICIT_RESIGN_CHECK (R375): 50 µs after a window has closed. -/
def execImplicitResignCheck (s : State) : Host.Outcome State Fault Refusal :=
  .next (
    if !(s.leatsRun && s.f Fld.SYS_MODE_ROLE = 2 && s.member s.lane) then s
    else match s.lead with
      | some l =>
        let p := s.peer l
        if l ≠ s.lane && !s.fb Fld.LEAT_RXSTAT_FRESH && !p.frameSeen && !p.framePrev &&
            p.leaving.isNone && p.byIsol.isNone && !p.implicit then
          (s.updPeer l (fun p => { p with implicit := true, eligs := p.eligs.or (some s.eligMask) })).satAdd
            Fld.LEAT_CNT_IMPLICIT 1
        else s
      | none => s)

/-- The rule of LEAT_RESIGN (R392). -/
def State.wResign (s : State) (e : Engine) (v : Word) : WOut :=
  if !s.super e then .priv
  else
    let taken := match e with | .msp0 => true | .miller => true | _ => false
    if !taken || v.field 16 16 ≠ 0x6E2A || s.f Fld.SYS_MODE_ROLE < 2 then .done s
    else match v.field 0 2 with
      | 0 => .done s.roleFault
      | 1 => .done (if s.f Fld.SYS_MODE_ROLE = 3 && s.otherEligible then s.yieldLead else s)
      | _ => .done s

/-- The record window ends with its reset, once the Miller core has written its record (R224, R372). -/
def State.endWindow (s : State) : State :=
  match s.mode.window with
  | some k => s.recordWindow.assertReset k
  | none => s

/-- The rule of LEAT_RRACK (R372, R392): a record window that a mismatch opened is MSP_MMACK's. -/
def State.wRrack (s : State) (e : Engine) (v : Word) : WOut :=
  s.millerOnly e (
    if v.field 16 16 = 0x91D3 && !s.fb Fld.MSP_MMSTAT_VALID then s.endWindow else s)

/-- RECORD_WINDOW_TIMEOUT (R372): 100 µs without acknowledgement. -/
def execRecordWindowTimeout (s : State) : Host.Outcome State Fault Refusal :=
  .next (if s.live then s.endWindow else s)

/-- RAMP_COMPLETE (R381). -/
def execRampComplete (s : State) : Host.Outcome State Fault Refusal :=
  .next (
    if s.live && s.stage = 4 then
      (if 1000 ≤ s.f Fld.LEAT_ROLE_CLEAN then s.setStage 0 else s.setStage 5)
    else s)

end Sys2Proof.Machine
end

