-- ==== Sys2Proof/Machine/RoleOps.lean ====
section
/-!
DEFINITION. What the lane does with modes and roles at a turn mark, in the order of R33: copies
(R366), departures and succession (R373-R377), promotion (R381, R382), the stop program's triggers
(R32, R387, R396, R398), formation (R361, R363), reintegration stages (R381) and shares (R378, R379).
-/

namespace Sys2Proof.Machine

/-- The turn count as tokens carry it. -/
def State.turn6 (s : State) : BitVec 6 := BitVec.ofNat 6 (s.f Fld.KNR_TIME_TURN)

/-- The window closes at the turn mark (R366). -/
def State.closeWindow (s : State) : State :=
  let takes := s.fb Fld.LEAT_CFG_EN && s.leat.windowOpen &&
    (s.f Fld.SYS_MODE_ROLE = 1 || s.f Fld.SYS_MODE_ROLE = 2 ||
      (match s.mode.forming with | some f => f.lead ≠ s.lane | none => false))
  let s1 := { s with leat := { s.leat with windowOpen := false, goDone := false } }
  if !takes then s1.setF Fld.LEAT_RXSTAT_FRESH 0
  else match s1.leat.blockIn with
    | some n =>
      let s2 := ((((s1.setF Fld.LEAT_RXSTAT_PREV (s1.f Fld.LEAT_RXSTAT_HELD)).setF
        Fld.LEAT_RXSTAT_HELD 1).setF Fld.LEAT_RXSTAT_CUR n).setF Fld.LEAT_RXSTAT_FRESH 1).setF
        Fld.LEAT_RXSTAT_MISS 0
      let s3 := { s2 with leat := { s2.leat with blockIn := none } }.raise 160
      match s3.mode.forming with
      | some f => { s3 with mode := { s3.mode with forming := some { f with copy := true } } }
      | none => s3
    | none =>
      let s2 := ((s1.setF Fld.LEAT_RXSTAT_FRESH 0).satAdd Fld.LEAT_RXSTAT_MISS 1).raise 161
      if s1.leat.touched then s2.setF Fld.LEAT_RXSTAT_PREV 0 else s2

/-- How a peer's departure is counted (LEAT_PEER.HOW), when one is due at this mark (R373-R375); a
member whose STATUS shows it without a role outside the RUN modes has left without a token. -/
def State.departing (s : State) (l : Lane) : Option Nat :=
  let p := s.peer l
  if !p.driving then none
  else match p.leaving with
    | some tok => if tok.tgt = s.turn6 && tok.kind ≠ .yield then some 1 else none
    | none =>
      if p.byIsol.isSome then (if p.byIsol = some s.turn6 then some 2 else none)
      else if p.implicit then some 3
      else match p.given, p.status with
        | none, some t => if t.role.toNat < 2 && !isRun t.mode.toNat && t.mode ≠ 6 then some 0 else none
        | _, _ => none

/-- A peer is lost (R371-R379): it is a member again only through reintegration (R377). -/
def State.losePeer (s : State) (l : Lane) (how : Nat) : State :=
  let sh := s.lostShorts l how
  let n := (laneIdx l).val
  let s1 := s.updPeer l (fun p => { p with
    driving := false, leaving := none, eligs := none, byIsol := none, implicit := false, given := none, lost := true,
    shorted := sh, rampT0 := none, cleanRun := 0,
    status := p.status.map (fun t => { t with role := 0, mode := 2, stage := 0, request := none, elig := false }) })
  (((s1.setF (Fld.LEAT_PEER_LOST n) 1).setF (Fld.LEAT_PEER_HOW n) how).setF
    (Fld.LEAT_PEER_ROLE n) 0).setF (Fld.LEAT_PEER_SHORTED n) sh.toNat

/-- The lead passes to a lane (R376). What the lane reads of a peer's role and eligibility stays its STATUS: only a
formation or a promotion reads a token otherwise (R359). -/
def State.handTo (s : State) (l : Lane) : State :=
  let s1 := (s.setLead (some l)).satAdd Fld.LEAT_CNT_HANDOVER 1
  if l = s.lane then s1.setRole 3 else s1

/-- The lanes that were lead-eligible in their latest STATUS before a lane's departure became known (R376). -/
def State.eligsAt (s : State) (from_ : Lane) : BitVec 3 :=
  (if from_ = s.lane then s.leat.yieldEligs else (s.peer from_).eligs).getD s.eligMask

/-- The successor of a departing lead (R376, R377): `m` are the lanes that were lead-eligible before its departure. -/
def State.successor (s : State) (from_ : Lane) (m : BitVec 3) : Option Lane :=
  (s.after from_).find? (fun l => l ≠ from_ && s.member l && m.getLsbD (laneIdx l).val)

/-- The lead has departed: the next eligible follower takes the lead, or none (R376, R32). -/
def State.succeed (s : State) (from_ : Lane) (m : BitVec 3) : State :=
  match s.successor from_ m with
  | some l => s.handTo l
  | none => s.setLead none

/-- A yield that is due at this mark: the yielding lead follows its successor (R373, R376), unless it has left its
role meanwhile (R360). -/
def State.yieldDue (s : State) (l : Lane) : State :=
  if !s.member l then s
  else match s.successor l (s.eligsAt l) with
  | some x =>
    let s1 := s.handTo x
    if l = s.lane then s1.setRole 2 else s1
  | none => s

/-- Yields due at this mark. -/
def State.applyYields (s : State) : State :=
  let s1 := match s.leat.leaving with
    | some tok => if tok.tgt = s.turn6 then
        ({ s with leat := { s.leat with leaving := none } }).yieldDue s.lane else s
    | none => s
  s1.each s1.peers (fun t l => match (t.peer l).leaving with
    | some tok => if tok.tgt = t.turn6 && tok.kind = .yield then
        ((t.updPeer l (fun p => { p with leaving := none })).yieldDue l).updPeer l (fun p => { p with eligs := none })
      else t
    | none => t)

/-- The departures due at this mark, together (R377). -/
def State.applyLosses (s : State) : State :=
  let due := s.peers.filterMap (fun l => (s.departing l).map (fun h => (l, h)))
  let s1 := s.each due (fun t x => t.losePeer x.1 x.2)
  match s.lead with
  | some l => if due.any (fun x => x.1 = l) then s1.succeed l (s.eligsAt l) else s1
  | none => s1

/-- The number of lanes that drive. -/
def State.driveCount (s : State) : Nat := (lanes.filter (fun l => s.member l)).length

/-- The RUN mode that a number of driving lanes gives (R25). -/
def runMode (n : Nat) : Nat := if 3 ≤ n then mTRIPLEX else if n = 2 then mDUPLEX else mSIMPLEX

/-- The RUN mode follows the number of lanes driving (R25, R29). -/
def State.applyCount (s : State) (cause : Nat) : State :=
  if s.inRun && s.md ≠ runMode s.driveCount then s.setMode (runMode s.driveCount) cause else s

/-- A peer whose promotion is due at this mark (R382), which a stop program in progress holds off (R34), or that
drives again after it, as its STATUS says (DEDUCED, log entry 14). -/
def State.returning (s : State) (l : Lane) : Bool :=
  let p := s.peer l
  if p.driving then false
  else match p.status with
    | some t =>
      (t.stage == 3 && decide (64 ≤ p.cleanRun) && t.clock && s.peerStops.isEmpty &&
        !s.fb Fld.SYS_MODE_STOPPING) ||
      (decide (2 ≤ t.role.toNat) && (isRun t.mode.toNat || t.mode == 6) && p.leaving.isNone &&
        (!p.lost || t.stage == 4 || t.stage == 5))
    | none => false

/-- A peer counts as driving from this mark (R359, R382). -/
def State.admitPeer (s : State) (l : Lane) : State :=
  let n := (laneIdx l).val
  let promoted := match (s.peer l).status with | some t => t.stage == 3 | none => false
  let s1 := s.updPeer l (fun p => { p with
    driving := true, lost := false, leaving := none, eligs := none, cleanRun := 0,
    given := if promoted then some (2, false) else none,
    rampT0 := if promoted then some s.tnow else p.rampT0 })
  (s1.setF (Fld.LEAT_PEER_LOST n) 0).setF (Fld.LEAT_PEER_HOW n) 0

/-- The lane itself is promoted (R20, R34, R382, R398): in RAMP, its weight starting from 0. -/
def State.promoteSelf (s : State) : State :=
  if s.leat.promote && s.md = mREADY && s.stage = 3 && s.onKnaor && !s.stopDem && s.peerStops.isEmpty &&
      s.peers.any (fun l => (s.peer l).driving &&
        match (s.peer l).status with | some t => isRun t.mode.toNat | none => false) then
    let s1 := ((s.setRole 2).setStage 4).setF Fld.LEAT_ROLE_CLEAN 0
    let s2 := { s1 with leat := { s1.leat with
        promote := false, rampT0 := s1.tnow, missRun := [], leaveDue := none, ownElig := some false } }
    let n := 1 + (s2.peers.filter (fun l => (s2.peer l).driving)).length
    s2.setMode (runMode n) 0x21
  else s

/-- The returning lanes become followers, but not at a mark at which a lane departs (R377). -/
def State.promotions (s : State) (departed : Bool) : State :=
  if departed then s
  else
    let back := s.peers.filter (fun l => s.returning l)
    let s1 := s.each back State.admitPeer
    (s1.applyCount 0x21).promoteSelf

/-- The lead's own triggers at a turn mark: three unsent copies (R368), and the yield of a lead that is
no longer eligible (R359). -/
def State.leadChecks (s : State) : State :=
  if s.f Fld.SYS_MODE_ROLE ≠ 3 then s
  else if s.f Fld.LEAT_TXCTL_MISS = 3 then s.roleFault
  else if !s.eligible && s.otherEligible then s.yieldLead
  else s

/-- A follower that is due to decide on its own mismatches (R370). -/
def State.leaveCheck (s : State) : State :=
  match s.leat.leaveDue with
  | some (n + 2) => { s with leat := { s.leat with leaveDue := some (n + 1) } }
  | some 1 =>
    let s1 := { s with leat := { s.leat with leaveDue := none } }
    if s.leat.missRun.any s.otherMismatch then s1 else s1.roleFault
  | _ => s

/-! ### Formation (R361, R363) -/

/-- What a turn mark takes of each peer as received at least 20 µs before it, and of the lane's own bridges as they
stood then (R363, R378). No command tells how long before the mark a token came: of the latest STATUS and the two
before it either may be the one, and likewise of the lane's own state (DESIGN CHOICE, log entry 64). -/
def State.judgeMark (s : State) : State :=
  let s1 := s.each s.peers (fun t l =>
    let (a, t1) := t.takeBit
    let (b, t2) := t1.takeBit
    t2.updPeer l (fun p => { p with
      judged := if a then p.status else if b then p.older[0]? else p.older[1]? }))
  let (a, s2) := s1.takeBit
  let (b, s3) := s2.takeBit
  let now := s.heldMask
  { s3 with leat := { s3.leat with
      heldMark := if a then now else if b then s.leat.ownHeld.getD 0 now else s.leat.ownHeld.getD 1 now } }

/-- What a lane's STATUS says for a request: it asks for the same RUN mode and qualifies under R29. -/
def asksFor (t : BitVec 4) : Option StatusTok → Bool
  | some k => k.request = some t && k.qual
  | none => false

/-- A peer requests the same RUN mode and qualifies under R29, as its STATUS said at least 20 µs before the mark
(R363). -/
def State.peerQualifies (s : State) (l : Lane) (t : BitVec 4) : Bool :=
  s.connected l && s.versionEq l && asksFor t (s.peer l).judged

/-- The lanes that qualify for a request of the lane (R29, R363). -/
def State.qualifying (s : State) (t : BitVec 4) : List Lane :=
  lanes.filter (fun l => if l = s.lane then s.selfQualifies else s.peerQualifies l t)

/-- A lane may become the forming lead (R361). -/
def State.mayForm (s : State) (l : Lane) : Bool :=
  if l = s.lane then s.mayLead
  else match (s.peer l).status with | some k => k.cand | none => false

/-- A pending request for TRIPLEX or DUPLEX at a turn mark (R361, R363). -/
def State.formEvaluate (s : State) (t : BitVec 4) : State :=
  let q := s.qualifying t
  let need := if t == 3 then 3 else 2
  let s1 := { s with mode := { s.mode with marks := s.mode.marks + 1 } }
  let lead := s.order.find? (fun l => q.contains l && s.mayForm l)
  match lead with
  | some l =>
    if q.length = need && q.contains s.lane then
      let tgt := s.turn6 + 2
      let own := decide (l = s.lane)
      let s2 := { s1 with mode := { s1.mode with
        forming := some { tgt := tgt, lead := l, mode := t, members := q, token := own } } }
      if own then s2.sendUp (fun i => .form i ⟨tgt, l⟩) else s2
    else if 16 ≤ s1.mode.marks then s1.endRequest 3 else s1
  | none => if 16 ≤ s1.mode.marks then s1.endRequest 3 else s1

/-- The members of a formation still qualify under R29 and hold FORM and the initial copy (R361): a peer as its STATUS
says, which still reports its request until it ends (R363). -/
def State.stillQualify (s : State) (f : Formation) : Bool :=
  f.members.all (fun l => if l = s.lane then s.selfQualifies else
    s.connected l && s.versionEq l && asksFor f.mode (s.peer l).status &&
    match (s.peer l).status with | some k => k.ready | none => false)

/-- The lane enters the RUN mode as a founding member (R361). -/
def State.found (s : State) (f : Formation) : State :=
  let s1 := s.each s.peers (fun t l =>
    if f.members.contains l then
      (t.updPeer l (fun p => { p with
        driving := true, lost := false, leaving := none, eligs := none
        given := some (if l = f.lead then 3 else 2, true) }))
    else t)
  let s2 := (s1.setRole (if f.lead = s.lane then 3 else 2)).setLead (some f.lead)
  let s3 := (s2.setF Fld.LEAT_ROLE_FOUNDER 1).setF Fld.LEAT_ROLE_CLEAN 0
  let s4 := { s3 with mode := { s3.mode with forming := none }, leat := { s3.leat with ownElig := some true } }
  ((s4.setStage 0).setMode f.mode.toNat 0x10).endRequest 2

/-- A formation at its target mark (R361). -/
def State.formTarget (s : State) : State :=
  match s.mode.forming with
  | some f =>
    if f.tgt ≠ s.turn6 then s
    else if f.token && f.copy && s.md = mREADY && s.stillQualify f then s.found f
    else ({ s with mode := { s.mode with forming := none } }).endRequest 3
  | none => s

/-! ### Stages and shares -/

/-- CIS_VERCMP.EQ is set for every driving lane (R381). -/
def State.versionsMatch (s : State) : Bool :=
  !s.fb Fld.CIS_BOOTSTAT_TRIALRUN && s.peers.all (fun l => !(s.peer l).driving || s.versionEq l)

/-- The reintegration stage at a turn mark (R381). -/
def State.stageMark (s : State) : State :=
  let n := s.f Fld.LEAT_JOIN_CNT
  if s.stage = 1 then
    if !s.ksync then s.setF Fld.LEAT_JOIN_CNT 0
    else if n + 1 = 8 then (s.setStage 2).setRole 1
    else s.setF Fld.LEAT_JOIN_CNT (n + 1)
  else if s.stage = 2 then
    if !s.ksync || !s.leadConnected then s.toListen
    else if s.fb Fld.LEAT_RXSTAT_FRESH && s.versionsMatch then
      (if n + 1 = 8 then s.setStage 3 else s.setF Fld.LEAT_JOIN_CNT (n + 1))
    else s.setF Fld.LEAT_JOIN_CNT 0
  else if s.stage = 3 && !s.leat.promote then
    if !s.ksync || !s.leadConnected then s.toListen
    else if !s.fb Fld.LEAT_RXSTAT_FRESH then s.setStage 2
    else s
  else s

/-- 200 ms in cw.tnow units (R378). -/
def rampLen : Nat := 204800000

/-- The weight of a lane for a bridge position, in units of 1/204,800,000 (R378), from the lane's state and its
peers' STATUS as they stood 20 µs before the mark (`judgeMark`). -/
def State.weight (s : State) (l : Lane) (b : Fin 5) : Nat :=
  if !s.member l then 0
  else if l = s.lane then
    if s.leat.heldMark.getLsbD b then 0
    else if s.stage = 4 then min rampLen (s.tnow - s.leat.rampT0).toNat else rampLen
  else match (s.peer l).judged with
    | some t =>
      if t.held.getLsbD b then 0
      else match (s.peer l).rampT0 with
        | some t0 => min rampLen (s.tnow - t0).toNat
        | none => rampLen
    | none => rampLen

/-- LEAT_SHARE of one bridge position (R378): exact where Q1.31 holds it, else either neighbour, which
the spec does not choose (DESIGN CHOICE, log entry 13). -/
def State.shareMark (s : State) (b : Fin 5) : State :=
  let sum := lanes.foldl (fun acc l => acc + s.weight l b) 0
  if !s.drives || sum = 0 then s.setReg (Reg.LEAT_SHARE b) 0
  else
    let num := s.weight s.lane b * 2 ^ 31
    if num % sum = 0 then s.setReg (Reg.LEAT_SHARE b) (BitVec.ofNat 32 (min (2 ^ 31 - 1) (num / sum)))
    else
      let (up, s1) := s.takeBit
      s1.setReg (Reg.LEAT_SHARE b) (BitVec.ofNat 32 (min (2 ^ 31 - 1) (num / sum + if up then 1 else 0)))

/-- Whether a valid frame of each peer came in the turn moves on (R375). -/
def State.frameMark (s : State) : State :=
  s.each s.peers (fun t l => t.updPeer l (fun p => { p with framePrev := p.frameSeen, frameSeen := false }))

/-- BOOT to READY (R29, R335). -/
def State.bootToReady (s : State) : State :=
  if s.md = mBOOT && s.sealed && !s.fb Fld.PROT_SEAL_BY_ROM && s.f Fld.CIS_BOOTSTAT_HALT = 0 &&
      (s.knrState = 4 || s.knrState = 5) && s.f Fld.SYS_TBSEL_ACTIVE = 2 then
    s.setMode mREADY 0x12
  else s

/-- The pending request after the higher triggers (R33, R34): superseded, carried out by the entry into SAFE-HOLD that
it started or found under way, or evaluated in the state that results. -/
def State.requestMark (before s : State) : State :=
  match s.mode.request with
  | none => s
  | some t =>
    if State.superseded before s t then State.supersede before s
    else if t == 6 && s.md = mSAFEHOLD && before.md ≠ mSAFEHOLD then s.endRequest 2
    else if s.mode.forming.isSome then s
    else if (t == 3 || t == 4) && s.md = mREADY && !s.fb Fld.CIS_BOOTSTAT_TRIALRUN then s.formEvaluate t
    else s.evaluate t

/-- SERVICE ends at the turn mark (R29). -/
def State.serviceMark (s : State) : State :=
  if s.md = mSERVICE && !(s.cogZero && s.parked) then s.setMode mREADY 0x33 else s

/-- The higher triggers of R33 at a turn mark, in its order: the safe-input stop demand, a fault of the lane itself, the
loss of a peer, the stop program's other triggers, and a returning lane, which a stop program holds off (R34). -/
def State.triggersMark (s : State) : State :=
  if s.mode.window.isSome then s
  else
  let s1 := if s.mode.stopDone && s.inRun then s.enterSafeHold else s
  if s1.inReset then s1
  else
    let s2 := if s1.stopDem then s1.stopAct else { s1 with safe := { s1.safe with stopPend := false } }
    let s3 := s2.sharedDemand.leadChecks.leaveCheck
    if s3.mode.window.isSome then s3
    else
      let s4 := s3.applyLosses.applyYields
      let departed := s3.peers.any (fun l => (s3.departing l).isSome)
      let s5 := (s4.applyCount 0x20).stopTriggers
      (s5.promotions departed).serviceMark

/-- Everything that the turn mark does to modes and roles. BOOT to READY, which R33 does not rank, comes before the
triggers that it ranks (DESIGN CHOICE, log entry 65). -/
def State.rolesMark (s : State) : State :=
  let s0 := s.judgeMark.closeWindow.bootToReady
  let s1 := s0.triggersMark
  if s1.inReset || s1.mode.window.isSome then s1
  else
    let s2 := s1.formTarget
    let s3 := (State.requestMark s0 s2).joinCheck
    let s4 := s3.stageMark
    (s4.each bridges State.shareMark).showShorts.frameMark

end Sys2Proof.Machine
end

