-- ==== Sys2Proof/Machine/Sluice.lean ====
section
/-!
DEFINITION. The Sluice units' commands (chapter 08): RUN, triggers, the evaluation limit, tail registers
and flags.
-/

namespace Sys2Proof.Machine

/-- RUN from 0 to 1 in STOPPED (R192): registers at reset, the intake page zero, dividers and trigger
counts restarted. The relay unit keeps its state, which only a reset clears (R189). -/
def State.sluStart (s : State) (n : Fin 5) : State :=
  let s1 := s.updEng (.slu n) (fun x => { relay := x.relay, run := .running })
  let s2 := (List.range 64).foldl (fun t i => t.putIntake n i 0) s1
  let s3 := s2.updSlu n (fun x => { x with
    inputs := x.inputs.map (fun i => { i with divCnt := 0, count := 0 }), emitSeen := false, longSeen := false })
  (s3.setF (Fld.SLU_CTL_RUN n) 1).setF (Fld.SLU_STAT_STATE n) 1

/-- RUN from 1 to 0 (R192, R198, R199): duties stay; a HALTED engine's source deasserts. -/
def State.sluStop (s : State) (n : Fin 5) : State :=
  let s1 := s.updEng (.slu n) (fun x => { x with run := .stopped })
  let s2 := s1.updSlu n (fun x => { x with
    inputs := x.inputs.map (fun i => { i with pend := false, filling := false, ready := false, due := 0 }) })
  let s3 := (((s2.setF (Fld.SLU_CTL_RUN n) 0).setF (Fld.SLU_STAT_STATE n) 0).setF
    (Fld.SLU_STAT_EVAL n) 0).setF (Fld.SLU_STAT_PEND n) 0
  s3.level (32 + 6 * n.val + 3) false

/-- The rule of SLU[n].CTL (R192). Before SEAL the engine is in reset (R96), and RUN stays 0 (DEDUCED, log entry 69). -/
def State.wSluCtl (s : State) (e : Engine) (n : Fin 5) (v : Word) : WOut :=
  s.mspEither e (
    let st := s.sluState n
    if !s.sealed || st = 4 then s
    else if v.bit 0 then (if !s.fb (Fld.SLU_CTL_RUN n) && st == 0 then s.sluStart n else s)
    else if !s.fb (Fld.SLU_CTL_RUN n) then s
    else if st ≠ 3 && s.ownsAny (.slu n) &&
        (s.inRun || s.md == mSAFEHOLD || s.fb Fld.SYS_MODE_STOPPING) then s
    else s.sluStop n)

/-- The rule of SLU[n].TRIG[k] (R195, R198). -/
def State.wTrig (s : State) (n : Fin 5) (k : Fin 4) (v : Word) : State :=
  if s.sluState n ≠ 0 then s
  else (s.plainWrite (Reg.SLU_TRIG n k) v).updInput n k (fun x => { x with divCnt := 0 })

/-- The rule of SLU[n].SWTRG (R194, R198): the pair at either level and the Miller core. -/
def State.wSwtrg (s : State) (e : Engine) (n : Fin 5) (v : Word) : State :=
  if !(isMsp e || e == .miller) || !s.sluTakes n then s
  else s.each inputs4 (fun t k =>
    if v.bit k.val && t.f (Fld.SLU_TRIG_SRC n k) == 0x19 then t.inputEvent n k else t)

/-- TRIGGER_INSTANT (R196, R200): a trigger that its source has given; `vmot` is the code of the drive die's 12-bit monitor,
scaled as an input of R285 (R287). -/
def execTriggerInstant (n : Fin 5) (k : Fin 4) (vmot : BitVec 12) (s : State) :
    Host.Outcome State Fault Refusal :=
  .next (
    if !s.sluTakes n || (s.input n k).due = 0 then s
    else (s.updInput n k (fun x => { x with due := x.due - 1 })).trigger n k
      (BitVec.ofNat 32 (vmot.toNat * 2 ^ 19)))

/-- TRIGGER_BUFFER_COMPLETE (R196). -/
def execTriggerBufferComplete (n : Fin 5) (k : Fin 4) (s : State) : Host.Outcome State Fault Refusal :=
  .next (
    let x := s.input n k
    if s.sluTakes n && x.filling && x.ready then
      (s.updInput n k (fun y => { y with filling := false, ready := false, pend := true })).showPend n
    else s)

/-- EVALUATION_TOO_LONG (R203). -/
def execEvaluationTooLong (n : Fin 5) (s : State) : Host.Outcome State Fault Refusal :=
  .next (
    if !s.live || !s.fb (Fld.SLU_STAT_EVAL n) || (s.unit n).longSeen then s
    else (((s.updSlu n (fun x => { x with longSeen := true })).setF (Fld.SLU_STAT_LONG n) 1).raise
      (32 + 6 * n.val + 4)).loopOverrun n)

/-- The rule of SLU[n].TAIL[k] (R209). -/
def State.wTail (s : State) (e : Engine) (n : Fin 5) (k : Nat) (v : Word) : State :=
  if e = .slu n then s.updSlu n (fun x => { x with tailBuf := Cells.insert k v (Cells.erase x.tailBuf k) }) else s

/-- The rule of SLU[n].FLAG (R210). -/
def State.wFlag (s : State) (e : Engine) (n : Fin 5) (v : Word) : State :=
  let old := s.reg (Reg.SLU_FLAG n)
  if e = .slu n then
    let s1 := s.setReg (Reg.SLU_FLAG n) (old ||| (v &&& 7))
    s1.each [0, 1, 2] (fun t i => if v.bit i && !old.bit i then t.raise (32 + 6 * n.val + i) else t)
  else s.setReg (Reg.SLU_FLAG n) (old &&& v)

/-- The checks of R211 at a turn mark: an engine that owns a bridge and executed no OSCA since the last. -/
def State.oscaMark (s : State) (check : Bool) : State :=
  s.each sluAll (fun t n =>
    let t1 := if check && !(t.unit n).oscaSeen && t.ownsAny (.slu n) then
      (t.setF (Fld.SLU_STAT_OSCMISS n) 1).raise (32 + 6 * n.val + 5) else t
    t1.updSlu n (fun x => { x with oscaSeen := false }))

/-- The visible TAIL values copied to TAILF at a turn mark (R209). -/
def State.tailMark (s : State) : State :=
  s.each sluAll (fun t n =>
    t.each (List.range 16) (fun u k => u.setReg (Reg.SLU_TAILF n k) (u.reg (Reg.SLU_TAIL n k))))

end Sys2Proof.Machine
end

