-- ==== Sys2Proof/Machine/Strobe.lean ====
section
/-!
DEFINITION. Strobe groups (R110-R115): the buffered writes that a firing applies, and what its blocks make
of them (R113, R186, R278, R282, R297, R313).
-/

namespace Sys2Proof.Machine

/-- A buffered word's SH fields come into force. -/
def State.applyShadow (s : State) (a : Nat) (v : Word) : State :=
  match kindAt a with
  | some k => s.setReg a (mergeFields FieldSpec.isSh k.fields (s.reg a) v)
  | none => s

/-- The bridge whose PER is at an address, the channel whose WIN is. -/
def perAt (a : Nat) : Option (Fin 5) := bridges.find? (fun b => Reg.BRG_PER b == a)
def winAt (a : Nat) : Option (Fin 6) := cogs.find? (fun c => Reg.COG_WIN c == a)

/-- One buffered write at a firing: PER and WIN are armed for their blocks' boundaries (R113). -/
def State.fireWrite (s : State) (e : Nat × Word) : State :=
  match perAt e.1, winAt e.1 with
  | some b, _ => s.armPer b e.2
  | none, some c => s.updCog c (fun x => { x with winArmed := some (e.2.field 0 10) })
  | none, none => s.applyShadow e.1 e.2

/-- The duties of a bridge among the writes applied (R282). -/
def firedDuties (due : List (Nat × Word)) (b : Fin 5) : List (Fin 3 × Word) :=
  legs3.filterMap (fun (k : Fin 3) =>
    match due.find? (fun e => e.1 == Reg.BRG_DUTYS b k.val) with
    | some e => some (k, e.2)
    | none => none)

/-- What a bridge makes of a firing of its group: new duties, but for the legs that an EMIT has set at this very instant
(R186), a new commutation table, and the curve unit's evaluation. -/
def State.fireBridge (s : State) (due : List (Nat × Word)) (b : Fin 5) : State :=
  let ds := (firedDuties due b).filter (fun x => !s.now.emits.contains (b, x.1))
  let s1 := if ds.isEmpty then s else s.newDuties b ds
  (s1.settle b).curve b

/-- The groups of a list fire at one instant (R111-R115). FIRED does not count the groups of `again`, which have fired
at this very instant already (R112). -/
def State.fire (s0 : State) (gs again : List Nat) : State :=
  let s := s0.coldNote
  let hit (a : Nat) : Bool := gs.any (fun g => s.inGroup g a)
  let due := s.shadow.filter (fun e => hit e.1)
  let s1 := due.foldl State.fireWrite { s with shadow := s.shadow.filter (fun e => !hit e.1) }
  let s2 := s1.each (gs.filter (fun g => !again.contains g)) (fun t g => t.wrapInc (Fld.SYS_UPDGRP_FIRED g))
  s2.each bridges (fun t b => if gs.contains (s.groupOf (5 + b.val)) then t.fireBridge due b else t)

/-- The sixteen groups. -/
def groups16 : List Nat := List.range 16

/-- The groups that fire at a turn mark (R112): one that SYS_UPD has fired at the same instant is counted once. -/
def State.fireMark (s : State) : State :=
  let gs := groups16.filter (fun g => s.fb (Fld.SYS_UPDGRP_TM g))
  let s1 := s.fire gs s.now.byUpd
  { s1 with now := { s1.now with byMark := gs } }

/-- The groups that SYS_UPD fires (R111, R112). -/
def State.fireUpd (s : State) (gs : List Nat) : State :=
  let s1 := s.fire gs s.now.byMark
  { s1 with now := { s1.now with byUpd := s1.now.byUpd ++ gs } }

/-- OWNER admits an engine (R109, R227). -/
def ownerAdmits (code : Nat) (e : Engine) : Bool :=
  match e with
  | .slu _ => false
  | .miller => code == 1 || code == 3
  | .flume => code == 2 || code == 3
  | _ => code == 0 || code == 3

/-- The rule of SYS_UPD (R111); source 9 where DENIED increased (R229). -/
def State.wUpd (s : State) (e : Engine) (v : Word) : State :=
  let asked := groups16.filter (fun g => v.bit g)
  let ok := asked.filter (fun g => ownerAdmits (s.f (Fld.SYS_UPDGRP_OWNER g)) e)
  let s1 := if ok.isEmpty then s else s.fireUpd ok
  let s2 := s1.satAdd Fld.SYS_UPDSTAT_DENIED (asked.length - ok.length)
  if s2.f Fld.SYS_UPDSTAT_DENIED = s1.f Fld.SYS_UPDSTAT_DENIED then s2 else s2.raise 9

end Sys2Proof.Machine
end

