-- ==== Sys2Proof/Machine/Knaor.lean ====
section
/-!
DEFINITION. Knaor's commands (chapter 14): the engine on and off, turn marks, frames sent and received,
the correction gap, the Weir, the spill segment and the wake pattern. The Knaor engine and its Weir run by the commands;
where a rule asks for a place in the schedule, it is computed.
-/

namespace Sys2Proof.Machine

/-! ### The engine on and off (R321, R352) -/

/-- The engine starts in LISTEN: a channel that is not enabled is lost (R342). -/
def State.knrStart (s : State) : State :=
  let s1 := (s.setF Fld.KNR_CTL_EN 1).updKnr (fun x => { x with
    synced := false, hadMark := false, chans := Vector.replicate 2 {}, rc := 0, acc := 0, clips := 0, sending := none
    rx := Vector.replicate 64 {}, first := none })
  let s2 := s1.each chans2 (fun t c => t.setLost c (!t.chEn c))
  s2.knrGo 1 0

/-- EN is cleared (R321). -/
def State.knrStop (s : State) : State :=
  State.knrMoved s (s.setF Fld.KNR_CTL_EN 0).knrLeave

/-- The wake pattern is sent on a channel (R352); from step 1 of a low-power entry nothing is (R73), and with LISTENONLY
nothing ever. A pattern that the channel is still sending is begun anew (DESIGN CHOICE, log entry 72). -/
def State.wakeOn (s : State) (c : Fin 2) (on : Bool) : State :=
  if on && s.knrState == 1 && s.fb Fld.KNR_WEIR_WAKEOK && !s.knr.heard && !s.fb Fld.KNR_CTL_LISTENONLY &&
      s.whd.phase == .awake then
    ((s.send (.wakePattern c)).updKnr (fun x => { x with
      waking := x.waking.filter (fun w => w.1 != c) ++ [(c, s.age)] })).setF Fld.KNR_STAT_WAKEBUSY 1
  else s

/-- The rule of KNR_CTL (R321, R352). -/
def State.wKnrCtl (s : State) (v : Word) : State :=
  let off := s.knrState == 0
  let s1 := (s.setB Fld.KNR_CTL_LISTENONLY (v.bit 1)).setB Fld.KNR_CTL_JOINING (v.bit 2)
  let s2 := if off then (s1.setB Fld.KNR_CTL_CHEN1 (v.bit 3)).setB Fld.KNR_CTL_CHEN2 (v.bit 4) else s1
  if off then
    if !v.bit 0 then s2
    else
      let s3 := s2.setB Fld.KNR_STAT_CFGERR (!s2.knrCfgOk)
      if s2.knrCfgOk && s2.f Fld.SYS_TBSEL_ACTIVE != 0 && (s2.chEn 0 || s2.chEn 1) then s3.knrStart else s3
  else if !v.bit 0 then s2.knrStop
  else (s2.wakeOn 0 (v.bit 5)).wakeOn 1 (v.bit 6)

/-- WAKE_PATTERN_END (R351, R352): the patterns that began first end, and with the last of them WAKEBUSY. -/
def execWakePatternEnd (s : State) : Host.Outcome State Fault Refusal :=
  .next (
    match s.knr.waking with
    | [] => s
    | w :: _ =>
      if !s.live then s
      else
        let left := s.knr.waking.filter (fun x => x.2 != w.2)
        (s.updKnr (fun x => { x with waking := left })).setB Fld.KNR_STAT_WAKEBUSY (!left.isEmpty))

/-! ### The turn mark (R21, R334) -/

/-- TURN_MARK (R21, R332-R335): groups fire first; then buffers are latched and frozen, copies taken,
triggers given, and modes and roles follow (R33). -/
def execTurnMark (s : State) : Host.Outcome State Fault Refusal :=
  .next (
    if !s.live || !s.hasMarks then s
    else
      let run := s.inRun
      let s1 := (s.setTurn s.nextMark).setReg Reg.LEAT_TURNNO (s.reg Reg.LEAT_TURNNO + 1)
      let s2 := s1.fireMark.latchMark
      let s3 := s2.freezeMark.updKnr (fun x => { x with
        marked := true, hadMark := true
        chl := s.f Fld.KNR_STAT_K1LOST + 2 * s.f Fld.KNR_STAT_K2LOST
        queue := x.queue.map (fun e => { e with elig := true }) })
      let s4 := (s3.cogMark.tailMark.bridgeMark.raise 128).sourceEvent 0x18
      (s4.oscaMark run).rolesMark)

/-! ### Frames sent -/

/-- What a bucket's transmit buffer gives to a frame (R332): before the node's first turn mark the spec
names no latch, so whether the frame is NULL or carries the working copy is free (DESIGN CHOICE, log entry 29). -/
def State.txOf (s : State) (n : Nat) : TxLatch × State :=
  match s.knr.latched with
  | some l => ((l.find? (fun x => x.buf == n)).getD ⟨n, false, 0, []⟩, s)
  | none =>
    let (w, s1) := s.takeBit
    (if w then s.latchBuf n else ⟨n, false, 0, []⟩, s1)

/-- A collision, or a coldstart without an answer (R338, R340): what is being sent stops at once. -/
def State.coldFail (s : State) : State := ((s.satAdd Fld.KNR_CNT_COLDCNT 1).cutTx).knrGo 1 0

/-- A frame is sent on every enabled channel, as far as the Weir lets TXEN be high (R320, R330, R346, R347): `parts`
gives from when to when, of its length. -/
def State.sendFrame (s : State) (h : KHead) (x : TxLatch) (kind : TxKind) (parts : Nat → List (Nat × Nat)) : State :=
  let len := if x.valid then min 64 x.len else 0
  let h1 := { h with null := !x.valid, len := len }
  let bytes := frameBytes h1 ((wordBytes x.data).take len)
  let dur := s.tFrame len
  let high := parts dur
  let s1 := s.updKnr (fun y => { y with
    sending := some ⟨h.bucket, kind, bytes, dur, high⟩, ownSync := y.ownSync || h.sync })
  if high.isEmpty then s1
  else s1.each chans2 (fun t c =>
    if !t.chEn c then t
    else if high = [(0, dur)] then t.send (.frame c bytes)
    else t.send (.frameCut c bytes high))

/-- The Weir held TXEN low at some instant of the transmission (R348). -/
def OwnFrame.cut (x : OwnFrame) : Bool := x.high != [(0, x.len)]

/-- A header of the node's own; a lane that is reintegrating sets JOINING whatever KNR_CTL holds (R383). -/
def State.ownHead (s : State) (typ : Nat) (sync : Bool) (bucket : Nat) : KHead :=
  ⟨typ, sync, false, s.fb Fld.KNR_CTL_JOINING || s.fb Fld.SYS_MODE_JOINING, s.nodeId, bucket, s.f Fld.KNR_TIME_TURN, 0, s.knr.chl⟩

/-- The buffer of a bucket. -/
def State.bufOf (s : State) (b : Nat) : Option Nat :=
  bufs64.find? (fun n => s.isTx n && s.f (Fld.KNR_BUF_CFG_NUM n) == b)

/-- FRAME_LAUNCH (R325, R330, R332, R339, R346): in COLDSTART every turn's frame carries what the buffer held at the start
of its bucket, LOFS before. -/
def execFrameLaunch (f : Launch) (s : State) : Host.Outcome State Fault Refusal :=
  .next (
    let b := f.bucket.toNat
    let sync := s.fb Fld.KNR_CFG0_SYNCN && b == s.f Fld.KNR_CFG3_SBKT
    let at_ := s.onWeir (s.macroAt (s.bucketMacro b + s.f Fld.KNR_CFG1_LOFS) + f.late)
    if !s.live || s.whd.phase ≠ .awake || s.fb Fld.KNR_CTL_LISTENONLY || s.nb ≤ b then s
    else if s.knrState = 4 then
      match s.bufOf b with
      | some n =>
        let r := s.txOf n
        r.2.sendFrame (s.ownHead 0 sync b) r.1 .static (s.weirParts false at_)
      | none =>
        if sync then s.sendFrame (s.ownHead 0 true b) ⟨0, false, 0, []⟩ .static (s.weirParts false at_) else s
    else if s.knrState = 2 && b == s.f Fld.KNR_CFG3_SBKT then
      let r := match s.knr.coldLatch with
        | some l => (l, s)
        | none => s.coldAt (s.age - 1024 * s.f Fld.KNR_CFG1_LOFS)
      let x := match s.bufOf b with
        | some n => (r.1.find? (fun x => x.buf == n)).getD ⟨n, false, 0, []⟩
        | none => ⟨0, false, 0, []⟩
      (r.2.updKnr (fun y => { y with coldLatch := none, coldLog := [] })).sendFrame (s.ownHead 2 true b) x .coldstart
        (s.weirParts true at_)
    else s)

/-- The end of an own transmission on one channel (R342, R348): clipped if the Weir cut it and the loopback is not
valid. -/
def State.txChannel (s : State) (c : Fin 2) (cut loopOk cold : Bool) : State :=
  if !s.chEn c then s
  else
    let clip := cut && !loopOk
    let s1 := if clip then
      (s.satAdd (if c = 0 then Fld.KNR_CNT_CLIP1 else Fld.KNR_CNT_CLIP2) 1).raise (129 + c.val) else s
    let s2 := s1.updChan c (fun x => { x with
      lbBad := x.lbBad || !loopOk
      badTx := if loopOk || clip || cold then 0 else x.badTx + 1 })
    if s2.hasMarks && decide (s2.chLost ≤ (s2.chan c).badTx) && !s2.fb (lostFld c) then s2.setLost c true else s2

/-- The first eligible entry of an ID leaves the queue. -/
def dropEntry (id : Nat) : List SpillEntry → List SpillEntry
  | [] => []
  | e :: r => if e.elig && e.id == id then r else e :: dropEntry id r

/-- The queue changed, with its FILL (KNR_SPQ). -/
def State.setQueue (s : State) (q : List SpillEntry) : State :=
  (s.updKnr (fun x => { x with queue := q })).setF Fld.KNR_SPQ_FILL q.length

/-- FRAME_TRANSMISSION_END (R340, R342, R348, R350). A frame of which TXEN let nothing out has no valid loopback. -/
def execFrameTransmissionEnd (bucket : BitVec 8) (k1 k2 : TxEnd) (s : State) :
    Host.Outcome State Fault Refusal :=
  .next (
    match s.knr.sending with
    | none => s
    | some x =>
      if !s.live || x.place ≠ bucket.toNat then s
      else
        let cold := x.kind == .coldstart
        let ok (k : TxEnd) : Bool := k.loopOk && !x.high.isEmpty
        let s1 := s.updKnr (fun y => { y with sending := none })
        let s2 := (s1.txChannel 0 x.cut (ok k1) cold).txChannel 1 x.cut (ok k2) cold
        let ends := chans2.filter s.chEn
        let one (c : Fin 2) : TxEnd := if c = 0 then k1 else k2
        match x.kind with
        | .coldstart =>
          if s.knrState = 2 && !ends.isEmpty && ends.all (fun c => (one c).differ) then s2.coldFail else s2
        | .spill => s2.setQueue (dropEntry x.place s2.knr.queue)
        | .static =>
          let clipped := ends.any (fun c => x.cut && !ok (one c))
          let n2 := if clipped then s2.knr.clips + 1 else 0
          let s3 := s2.updKnr (fun y => { y with clips := n2 })
          if 2 ≤ n2 && s.knrState = 4 then (s3.updKnr (fun y => { y with clips := 0 })).knrGo 5 1 else s3)

/-! ### Frames received -/

/-- A frame is rejected on a channel (R329). -/
def State.reject (s : State) (c : Fin 2) : State :=
  s.satAdd (if c = 0 then Fld.KNR_ERRCNT_REJ1 else Fld.KNR_ERRCNT_REJ2) 1

/-- The Weir's own measurement (R345): SYNC frames of other nodes whose header CRC is correct, on the
earlier channel, against its own schedule. Its sampler reads the same samples as the engine's (DESIGN CHOICE, log entry
72). -/
def State.weirSees (s : State) (c : Fin 2) (start : Int) (x : KRead) : State :=
  match headOf x.bytes with
  | none => s
  | some h =>
    if s.fb Fld.KNR_STAT_WALIGN && h.sync && h.node != s.nodeId && decide (h.bucket < s.nb) &&
        !s.knr.wdevs.any (fun d => d.1 == h.bucket) then
      let b : Int := 64 * (s.bucketMacro h.bucket + s.f Fld.KNR_CFG1_LOFS : Nat)
      let d := s.toMicro (s.edgeDev c b (start + x.edge + 4 * s.knr.wOff))
      d.2.updKnr (fun y => { y with wdevs := y.wdevs ++ [(h.bucket, d.1)] })
    else s

/-- Both copies of a frame were valid and their payloads differ (R330). -/
def State.secondCopy (s : State) (c : Fin 2) (place : Nat) (payload : List Byte) : State :=
  match s.knr.first with
  | some f =>
    if f.place = place then
      (if f.ch ≠ c && f.payload != payload then s.satAdd Fld.KNR_ERRCNT_CHDIFF 1 else s)
    else s.updKnr (fun x => { x with first := some ⟨place, c, payload⟩ })
  | none => s.updKnr (fun x => { x with first := some ⟨place, c, payload⟩ })

/-- Which lane's health bucket a place is (LEAT_KMAP). -/
def State.kmapOf (s : State) (l : Lane) : Nat :=
  s.f (match l with | .A => Fld.LEAT_KMAP_HBA | .B => Fld.LEAT_KMAP_HBB | .C => Fld.LEAT_KMAP_HBC)

/-- A frame that fits the schedule is taken (R329-R331, R337, R342, R343, R375): `ended` is when its last stop bit ended,
in 1/256 µs after the turn's start, and `dev` its deviation, for which only a static bucket's frame has a time. -/
def State.takeFrame (s : State) (c : Fin 2) (place : Nat) (ended : Int) (dev : Int) (h : KHead) (payload : List Byte) :
    State :=
  let other := h.node != s.nodeId
  let mine := bufs64.filter (fun n => s.isRx n && s.f (Fld.KNR_BUF_CFG_NUM n) == place && s.rxOn n c)
  let s0 := if (h.sync || h.typ == 2) && other then s.updKnr (fun x => { x with sawSync := true }) else s
  let s1 := if h.sync && other && decide (place < s.nb) then
    s0.updKnr (fun x => { x with devs := putDev place c dev x.devs }) else s0
  let n : RxTaken := ⟨s.f Fld.KNR_TIME_TURN, place, c, false, h.node, h.join, payload, ended,
    decide (4 * s.macroAt (s.f Fld.KNR_CFG3_TMARK) < ended)⟩
  let s2 := s1.each (mine.filter (fun i => !s.nodeRefused i h.node)) (fun t i => t.updRx i (fun x => x.take h.null n))
  if mine.any (fun i => s.nodeRefused i h.node) then s2.reject c
  else
    let s3 := if other then s2.updChan c (fun x => { x with heard := true }) else s2
    let s4 := s3.secondCopy c place payload
    s4.each s4.peers (fun t l =>
      if t.kmapOf l = place && decide (place < t.nb) then t.updPeer l (fun p => { p with frameSeen := true }) else t)

/-- The place of the schedule that a frame came in, and whether it lay within it (rule 4 of R329): the bucket of its
reference edge, or the number of the spill count in whose step it started. -/
def State.placeOf (s : State) (start : Int) (x : KRead) : Nat × Bool :=
  match s.bucketAt (start + x.edge) with
  | some b => (b, decide (start + x.last ≤ 4 * s.macroAt (s.bucketMacro (b + 1))))
  | none =>
    let t := start + x.run
    (s.knr.spillC, decide (4 * s.macroAt s.knr.spillT ≤ t ∧
      t < 4 * s.macroAt (s.knr.spillT + s.f Fld.KNR_CFG2_SSTEP) ∧ s.knr.spillC ≤ 255 ∧
      s.knr.spillT < s.spillEnd))

/-- The instant at which the last stop bit of a frame ended on the schedule that the frame sets (R338): its reference
edge then comes just where it should, in 1/256 µs rounded down. -/
def State.integratedEnd (s : State) (c : Fin 2) (bucket : Nat) (x : KRead) : Int :=
  let b : Int := 64 * (s.bucketMacro bucket + s.f Fld.KNR_CFG1_LOFS : Nat)
  (0 - s.edgeDev c b 0) / 25 + (x.last - x.edge : Int)

/-- FRAME_RECEIVED (R328, R329, R337, R338, R340): by rules 1-3, then by the state. -/
def execFrameReceived (ch : Fin 2) (rx : FrameRx) (s : State) : Host.Outcome State Fault Refusal :=
  .next (
    if !s.live || s.knrState = 0 || !s.chEn ch then s
    else
      let x := receive s.tCell rx.line
      match frameOf x with
      | none => (s.weirSees ch rx.start x).reject ch
      | some (h, payload) =>
        if s.knrState = 1 then
          let s1 := s.updKnr (fun y => { y with heard := true })
          if !h.sync && h.typ != 2 then s1
          else
            let s2 := (s1.knrGo 3 0).startSchedule h.turn
            s2.takeFrame ch h.bucket (s2.integratedEnd ch h.bucket x) 0 h payload
        else
          let w := s.weirSees ch rx.start x
          let p := s.placeOf rx.start x
          let where_ := p.2 && h.bucket == p.1
          let fits := where_ && h.turn == s.f Fld.KNR_TIME_TURN
          if s.knrState = 2 && h.node != s.nodeId && (h.typ == 2 || (h.sync && !fits)) then w.coldFail
          else if !fits then
            let s1 := if where_ && (h.sync || h.typ == 2) && h.node != s.nodeId then
              w.updKnr (fun y => { y with turnBad := true }) else w
            s1.reject ch
          else
            let d := if h.sync && h.node != s.nodeId then
                w.toMicro (s.edgeDev ch (s.macroAt (s.bucketMacro p.1 + s.f Fld.KNR_CFG1_LOFS)) (rx.start + x.edge))
              else (0, w)
            d.2.takeFrame ch p.1 (rx.start + x.last) d.1 h payload)

/-! ### The correction gap and the Weir (R338, R341-R345) -/

/-- What the gap of a turn gives (R344): the offset found, whether it is applied, whether
synchronisation is lost, and the new rate and sum. -/
structure GapResult where
  off    : Int
  apply  : Bool
  lost   : Bool
  rc     : Int
  acc    : Int
  miss   : Nat
  consistent : Bool
deriving DecidableEq, Repr

/-- The computation of R344. Outside ACTIVE and PASSIVE an offset beyond OFFLIM is not applied, and in HOLD an offset is
applied only if the turn is consistent (R341), so that none else adds to acc. -/
def State.gapResult (s : State) : GapResult :=
  let x := s.knr
  let sched := s.knrState == 4 || s.knrState == 5
  let other := !x.devs.isEmpty
  let miss := if other then 0 else x.miss + 1
  let off := if other then midpoint (s.kept.map Deviation.value) else 0
  let big := decide ((s.offLim : Int) < off.natAbs)
  let consistent := x.sawSync && !x.turnBad && !big
  let odd := s.f Fld.KNR_TIME_TURN % 2 == 1
  if !sched && big then ⟨off, false, false, x.rc, if odd then 0 else x.acc, miss, consistent⟩
  else
    let used := if s.knrState == 6 && !consistent then 0 else off
    let acc := x.acc + used
    let rc := if odd then x.rc + half0 acc else x.rc
    let lost := sched && (big || decide (s.rateLim < rc.natAbs) || decide (2 ≤ miss))
    if lost then ⟨off, false, true, x.rc, 0, miss, consistent⟩
    else ⟨off, used == off, false, rc, if odd then 0 else acc, miss, consistent⟩

/-- WDIFF at a Weir turn start. -/
def State.showWdiff (s : State) : State := s.setF Fld.KNR_WDIFF_WDIFF (sat16 s.knr.wOff)

/-- The next turn begins: TURN, the corrections and the counts of the new turn. -/
def State.endTurn (s : State) (g : GapResult) : State :=
  let nsync := s.kept.length
  let s1 := s.updKnr (fun x => { x.newTurn with
    miss := g.miss, acc := g.acc, rc := g.rc, rcNow := g.rc
    wOff := x.wOff + x.rcNow + (if g.apply then g.off else 0)
    gapDone := !x.weirFirst, weirFirst := false, marked := false, spillC := s.nb, spillT := s.bucketMacro s.nb })
  let s2 := if s.knr.weirFirst then s1.showWdiff else s1
  let s3 := ((s2.setF Fld.KNR_CORR_OFF (sat16 g.off)).setF Fld.KNR_CORR_RATE (sat16 g.rc)).setF
    Fld.KNR_WDIFF_NSYNC nsync
  let s4 := s3.setTurn (s.f Fld.KNR_TIME_TURN + 1)
  s4.each chans2 (fun t c => t.chanTurn c s.hasMarks)

/-- |WDIFF| ≤ GM ÷ 2 at the turn's start (R338). -/
def State.wdiffOk (s : State) : Bool :=
  decide ((BitVec.ofNat 16 (s.f Fld.KNR_WDIFF_WDIFF)).toInt.natAbs ≤ 8 * (s.f Fld.KNR_WEIR_GM + 1))

/-- The move of a gap (R338): `before` is the state in the turn that ends. -/
def State.gapMove (s before : State) (g : GapResult) : State :=
  let st := before.knrState
  let lo := s.fb Fld.KNR_CTL_LISTENONLY
  if g.lost then (s.satAdd Fld.KNR_ERRCNT_SYNCLOSS 1).knrGo 6 0
  else if st = 6 then
    let n := before.knr.holdTurns + 1
    let c := if g.consistent then before.knr.consist + 1 else 0
    if s.f Fld.KNR_SYNCCFG_HOLDMAX ≤ n then s.knrGo 1 0
    else if 2 ≤ c then s.knrGo 5 3
    else s.updKnr (fun x => { x with holdTurns := n, consist := c })
  else if st = 3 then
    if !g.consistent then s.knrGo 1 0
    else if 1 ≤ before.knr.consist then (if lo then s.knrGo 5 2 else s.knrGo 4 0)
    else (s.updKnr (fun x => { x with consist := 1, ksyncSeen := true })).showKsync
  else if st = 2 then
    if g.consistent && !before.knr.devs.isEmpty then
      (if 1 ≤ before.knr.consist then s.knrGo 4 0 else s.updKnr (fun x => { x with consist := 1 }))
    else if 7 ≤ before.knr.coldTurns then s.coldFail
    else s.updKnr (fun x => { x with consist := 0, coldTurns := before.knr.coldTurns + 1 })
  else if st = 5 then
    let n := if before.knr.passStart && before.ksync && before.wdiffOk && !lo then before.knr.passTurns + 1 else 0
    if 4 ≤ n then s.knrGo 4 0 else s.updKnr (fun x => { x with passTurns := n })
  else s

/-- CORRECTION_GAP (R338, R341, R342, R344): the end of the gap, where the next turn starts. -/
def execCorrectionGap (s : State) : Host.Outcome State Fault Refusal :=
  .next (
    if !s.live || s.knrState < 2 then s
    else
      let g := s.gapResult
      let t := (s.endTurn g).gapMove s g
      t.updKnr (fun x => { x with passStart := t.knrState == 5 }))

/-- LISTEN_TIMEOUT (R338, R339). -/
def execListenTimeout (s : State) : Host.Outcome State Fault Refusal :=
  .next (
    if s.live && s.knrState = 1 && s.fb Fld.KNR_CFG0_COLD && !s.fb Fld.KNR_CTL_LISTENONLY &&
        s.whd.phase = .awake then
      ((s.knrGo 2 0).startSchedule 0).updKnr (fun x => { x with coldLatch := some s.latchTx })
    else s)

/-- WEIR_TURN_START (R345): its turn count advances, and the spill frames of R347 are counted anew. -/
def execWeirTurnStart (s : State) : Host.Outcome State Fault Refusal :=
  .next (
    if !s.live || !s.fb Fld.KNR_STAT_WALIGN then s
    else
      let lim : Int := s.f Fld.KNR_WEIR_WSTEP + 1
      let m := if s.knr.wdevs.isEmpty then 0 else max (-lim) (min lim (median (s.knr.wdevs.map (fun d => d.2))))
      let s1 := s.updKnr (fun x => { x with 
        wdevs := [], wOff := x.wOff - m, wTurn := (x.wTurn + 1) % 64, spillSent := 0 })
      if s.knr.gapDone then (s1.updKnr (fun x => { x with gapDone := false })).showWdiff
      else s1.updKnr (fun x => { x with weirFirst := true }))

/-! ### The spill segment (R347, R349, R350) -/

/-- The entry that place c of the spill count sends (R349): the oldest eligible one with that ID, where its frame ends
before the spill end less GM. -/
def State.spillEntry (s : State) : Option SpillEntry :=
  if s.knrState ≠ 4 || s.fb Fld.KNR_CTL_LISTENONLY || s.whd.phase ≠ .awake then none
  else
    (s.knr.queue.find? (fun e => e.elig && e.id == s.knr.spillC)).filter (fun e =>
      decide (125 * s.macroAt s.knr.spillT + 8000 + s.tFrame e.len + s.gm ≤ 125 * s.macroAt s.spillEnd))

/-- SPILL_STEP (R347, R349): place c of the count, from t on. -/
def execSpillStep (heard : Bool) (ended : Int) (s : State) : Host.Outcome State Fault Refusal :=
  .next (
    let x := s.knr
    if !s.live || s.knrState < 2 || 255 < x.spillC || s.spillEnd ≤ x.spillT then s
    else
      let next (u : State) (t : Nat) : State :=
        u.updKnr (fun y => { y with spillC := x.spillC + 1, spillT := t + s.f Fld.KNR_CFG2_SSTEP })
      match s.spillEntry with
      | some e =>
        let from_ := s.macroAt x.spillT + 64
        let parts := s.weirSpill (s.onWeir from_)
        let u := s.sendFrame (s.ownHead 1 false x.spillC) ⟨0, true, e.len, e.data⟩ .spill parts
        let v := if (parts (s.tFrame e.len)).isEmpty then u
          else u.updKnr (fun y => { y with spillSent := y.spillSent + 1 })
        next v (s.macroFrom (from_ + ((s.tFrame e.len + 124) / 125 : Nat)))
      | none => next s (if heard then s.macroFrom ended else x.spillT))

/-- The rule of KNR_SPPUSH (R350). -/
def State.wSpPush (s : State) (v : Word) : State :=
  let id := v.field 0 8
  let len := v.field 8 7
  let q := s.knr.queue
  if 32 ≤ q.length || decide (id < s.nb) || !s.tableBit Reg.KNR_SPGRANT id ||
      decide (s.f Fld.KNR_CFG2_LMAXS < len) then
    (s.satAdd Fld.KNR_CNT_SPREJ 1).raise 134
  else s.setQueue (q ++ [{ id := id, len := len, data := (List.range 16).map (fun i => s.reg (Reg.KNR_SPSTAGE i)) }])

end Sys2Proof.Machine
end

