-- ==== Sys2Proof/Machine/MemOps.lean ====
section
/-!
DEFINITION. The sine area (R175, R182), and loads and stores of the memories (R102, R137, R138, R175,
R190, R191, R213): what they return and which exceptions they raise.
-/

namespace Sys2Proof.Machine

/-! ### The sine area -/

/-- π × 2^120, floored. -/
def piScaled : Nat := 4175892906503776358826876457663557747

/-- The terms of the sine series after the one given, `j` the next one's number, summed with
alternating signs: x in `x2` is squared and scaled by 2^120. -/
def sineTail (x2 : Nat) : Nat → Nat → Nat → Int
  | 0, _, _ => 0
  | fuel + 1, j, t =>
    let u : Nat := t * x2 / 2 ^ 120 / ((2 * j) * (2 * j + 1))
    (0 - (u : Int)) - sineTail x2 fuel (j + 1) u

/-- S[k] = rnd (sin (k × π / 2048)), k ≤ 1023, in units of 2^-31; S[1024] is 0x7FFFFFFF (R182). The series
is summed to more than 100 bits, and no S[k] lies near a rounding boundary. -/
def sineS (k : Nat) : Nat :=
  if k = 1024 then 0x7FFFFFFF
  else
    let x := k * piScaled / 2048
    let z := (x : Int) + sineTail (x * x / 2 ^ 120) 20 1 x
    (z.toNat * 2 ^ 32 + 2 ^ 120) / 2 ^ 121

/-- The sine area's byte at an offset from its start (R175). -/
def sineByte (off : Nat) : Byte := BitVec.ofNat 8 (sineS (off / 4) / 2 ^ (8 * (off % 4)))

/-- The lane address lies in a sine area: that of a Sluice engine, of core 0 or of core 1. -/
def sineOff (a : Nat) : Option Nat :=
  if 0x20000000 ≤ a ∧ a < 0x200A0000 ∧ 0x17000 ≤ (a - 0x20000000) % 0x20000 ∧ (a - 0x20000000) % 0x20000 < 0x18000
  then some ((a - 0x20000000) % 0x20000 - 0x17000)
  else if 0x20147000 ≤ a ∧ a < 0x20148000 then some (a - 0x20147000)
  else if 0x201C7000 ≤ a ∧ a < 0x201C8000 then some (a - 0x201C7000)
  else none

/-- The byte at a lane address. -/
def State.memByte (s : State) (a : Nat) : Byte :=
  match sineOff a with
  | some o => sineByte o
  | none => s.mem.byte a

/-- The number of the `n` bytes from a lane address up. -/
def State.memNum (s : State) (a : Nat) : Nat → Nat
  | 0 => 0
  | n + 1 => (s.memByte a).toNat + 256 * s.memNum (a + 1) n

/-- The word at a lane address. -/
def State.memWord (s : State) (a : Nat) : Word := BitVec.ofNat 32 (s.memNum a 4)

/-! ### Loads and stores -/

/-- A load's or store's outcome: an exception, a refusal with its source (Flume, R97), or a place; `zero`
reads zero and ignores a store; with `oneCopy` the word is bad in one of the pair's copies. -/
inductive Place where
  | exc (c : Exc)
  | dropped (src : Nat)
  | mem (a : Nat)
  | regs (a : Nat)
  | zero
  | oneCopy
deriving DecidableEq, Repr

/-- The size code of R137: 0 byte, 1 half-word, 2 word. -/
def bytesOf (size : Nat) : Nat := if size = 0 then 1 else if size = 1 then 2 else 4

/-- An address that is not aligned to its size (R138), or a narrow access of the register space (R102). -/
def alignBad (l : Loc) (a size : Nat) : Bool :=
  a % bytesOf size != 0 || (l == .regs && size != 2)

/-- Where an engine's data access goes, with its checks in the order of R154: alignment, the regions or
the local rule of the engine, an address in no memory, and a word with an uncorrectable error, which a load and a
narrow store need (R152). -/
def State.place (s : State) (e : Engine) (store : Bool) (size : Nat) (addr : Word) : Place :=
  let a := addr.toNat
  let l := s.locate e a
  let k : AccKind := if store then .wr else .rd
  let flume := e == .flume
  if alignBad l a size then
    (if flume && l == .regs then .dropped 11 else .exc { code := 7, info := size, bad := some addr })
  else if l.checked && !s.permits e k a then
    (if flume then .dropped 11 else .exc { code := if store then 5 else 4, bad := some addr })
  else match l with
    | .none => .exc { code := 8, info := 1, bad := some addr }
    | .zero => .zero
    | .regs => .regs a
    | .mem la _ own sine =>
      -- another engine's write to a Sluice engine's sine area is ignored (R190)
      if store && sine then
        (if !own && decide (la < 0x200A0000) then .zero else .exc { code := 5, bad := some addr })
      else if (!store || size != 2) && s.oneCopy e la then .oneCopy
      else if (!store || size != 2) && s.bad0 la then .exc { code := 0x0A, info := 1, bad := some addr }
      else .mem la

/-- Bytes stored at a lane address; a whole word written ends its error (R440), in both copies of the pair (R213). -/
def State.putMem (s : State) (a n v : Nat) : State :=
  { s with
    mem := s.mem.write a n v
    ecc := if n = 4 then s.ecc.filter (fun w => w != a) else s.ecc
    ecc1 := if n = 4 then s.ecc1.filter (fun w => w != a) else s.ecc1 }

/-- The engine whose LUT memory, but for its sine area, a lane address lies in. -/
def lutOwner (lockstep : Bool) (la : Nat) : Option Engine :=
  if 0x20000000 ≤ la ∧ la < 0x200A0000 then
    (if 0x10000 ≤ (la - 0x20000000) % 0x20000 ∧ (la - 0x20000000) % 0x20000 < 0x17000 then
      some (.slu ⟨(la - 0x20000000) / 0x20000 % 5, Nat.mod_lt _ (by decide)⟩) else none)
  else if 0x20140000 ≤ la ∧ la < 0x20147000 then some .msp0
  else if 0x201C0000 ≤ la ∧ la < 0x201C7000 then (if lockstep then none else some .msp1)
  else none

/-- A store by an engine or a port: the old word of another engine's LUT memory is kept for the LUTG that it may overlap
(R177). -/
def State.storeMem (s : State) (by_ : Option Engine) (a n v : Nat) : State :=
  let w := wordBase a
  let foreign := match lutOwner s.lockstep a with
    | some o => by_ != some o
    | none => false
  let s1 := if foreign && !s.now.lut.any (fun x => x.1 == w) then
      { s with now := { s.now with lut := s.now.lut ++ [(w, s.memWord w)] } } else s
  s1.putMem a n v

/-- LUT memory's lane address for an engine (R190, R213). -/
def lutBase : Engine → Nat
  | .slu n => 0x20010000 + n.val * 0x20000
  | .msp1 => 0x201C0000
  | _ => 0x20140000

end Sys2Proof.Machine
end

