-- ==== Sys2Proof/Machine/Millstone.lean ====
section
/-!
DEFINITION. The comparator of the Millstone pair (R220-R224) and its injection test in SERVICE (R226).
-/

namespace Sys2Proof.Machine

/-- A mismatch (R219, R222, R223): issue stops, what is held is discarded, the capture registers take it, a low-power entry
ends, and the lane reacts by its mode. -/
def State.mismatch (s0 : State) (lanes0 lanes1 ret pc : Word) (inj : Bool) : State :=
  let s := { s0 with pair := {} }
  let s1 := (((s.setReg (Reg.MSP_MMLANE 0) lanes0).setReg (Reg.MSP_MMLANE 1) lanes1).setReg Reg.MSP_MMRET ret).setReg
    Reg.MSP_MMPC pc
  let s2 := ((s1.setF Fld.MSP_MMSTAT_VALID 1).setB Fld.MSP_MMSTAT_INJ inj).level 14 true
  let s3 := if s2.whd.phase = .armed then
    { s2 with whd := { s2.whd with phase := .awake, target := 0 } }.arm false else s2
  s3.stopPair.pairFault

/-! ### The comparator (R220) -/

/-- A lane that compares bits of a word. -/
def slice (a b : Word) (lo w : Nat) : Bool := a.field lo w != b.field lo w

/-- Lane `k` reports a mismatch between what the two cores show; `watch` is the comparator's own watch of lanes 60-63
(R220). -/
def cmpLane (a b : CmpView) (watch : BitVec 4) (k : Nat) : Bool :=
  if k < 8 then slice a.wb b.wb (4 * k) 4
  else if k = 8 then a.dest != b.dest
  else if k = 9 then a.wen != b.wen
  else if k < 18 then slice a.addr b.addr (4 * (k - 10)) 4
  else if k < 26 then slice a.data b.data (4 * (k - 18)) 4
  else if k = 26 then a.size != b.size
  else if k = 27 then a.target != b.target
  else if k < 36 then slice a.npc b.npc (4 * (k - 28)) 4
  else if k = 36 then a.psw.extractLsb' 0 6 != b.psw.extractLsb' 0 6
  else if k = 37 then a.psw.extractLsb' 8 3 != b.psw.extractLsb' 8 3
  else if k = 38 then a.fcsr.extractLsb' 0 5 != b.fcsr.extractLsb' 0 5
  else if k = 39 then a.fcsr.extractLsb' 8 2 != b.fcsr.extractLsb' 8 2
  else if k = 40 then a.taken != b.taken
  else if k = 41 then a.code != b.code
  else if k = 42 then a.info != b.info
  else if k = 43 then a.vector != b.vector
  else if k = 44 then a.cwNum != b.cwNum
  else if k = 45 then a.cwEn != b.cwEn
  else if k = 46 then a.dest2 != b.dest2
  else if k = 47 then a.en2 != b.en2
  else if k = 48 then a.sealing != b.sealing
  else if k = 49 then a.sleeping != b.sleeping
  else if k = 50 then a.strobe != b.strobe
  else if k = 51 then a.point != b.point
  else if k = 52 then a.fifoKey != b.fifoKey
  else if k = 53 then a.fifoKind != b.fifoKind
  else if k = 54 then a.fifoPos != b.fifoPos
  else if k = 55 then a.fifoSum != b.fifoSum
  else if k < 60 then slice a.retired b.retired (8 * (k - 56)) 8
  else watch.getLsbD (k - 60)

/-- The mismatching lanes 32n to 32n + 31 as MSP_MMLANE[n] holds them. -/
def cmpWord (a b : CmpView) (watch : BitVec 4) (n : Nat) : Word :=
  BitVec.ofNat 32 ((List.range 32).foldl (fun acc k => if cmpLane a b watch (32 * n + k) then acc + 2 ^ k else acc) 0)

/-- The instructions that core 0 has retired after the one that core 1 is to retire next. -/
def State.lagBehind (s : State) : Nat := (s.pair.trail.tail.filter (fun r => r.retires)).length

/-- Core 1 may retire its next instruction (R215): core 0 has retired two more, or is suspended by a later one, or
stopped. -/
def State.mayRetire (s : State) : Bool :=
  match (s.eng .msp0).run with
  | .running => !s.pair.trail.isEmpty && decide (2 ≤ s.lagBehind)
  | .waiting => !s.pair.trail.tail.isEmpty
  | .sleeping => !s.pair.trail.tail.isEmpty
  | _ => !s.pair.trail.isEmpty

/-- The pair compares: it runs in lockstep, and no injection test and no open record window keeps it from it (R222,
R225). -/
def State.comparing (s : State) : Bool :=
  s.live && s.lockstep && !s.fb Fld.MSP_STAT_INJ_BUSY && !s.fb Fld.MSP_MMSTAT_VALID

/-- COMPARATOR_MISMATCH (R220-R223): core 1 retires an instruction, and the comparator sees `core0` and `core1` differ, or
its own watch alarms. The capture names that instruction, the oldest that core 1 has yet to retire. -/
def execComparatorMismatch (core0 core1 : CmpView) (trees monitors : BitVec 2) (s : State) :
    Host.Outcome State Fault Refusal :=
  .next (
    let l0 := cmpWord core0 core1 (monitors ++ trees) 0
    let l1 := cmpWord core0 core1 (monitors ++ trees) 1
    match s.pair.trail with
    | r :: _ =>
      if s.comparing && s.mayRetire && (l0 != 0 || l1 != 0) then s.mismatch l0 l1 r.key r.pc false else s
    | [] => s)

/-- The rule of MSP_MMACK (R224). -/
def State.wMmack (s : State) (e : Engine) (v : Word) : WOut :=
  s.millerOnly e (
    if v.field 16 16 = 0x3D9E && s.fb Fld.MSP_MMSTAT_VALID then s.endWindow else s)

/-- The rule of MSP_INJCTL (R226, R227); a stop demand refuses it (R26, R398). -/
def State.wInjctl (s : State) (e : Engine) (v : Word) : WOut :=
  s.mspOnly e (
    if v.field 16 16 = 0x1A6B && s.md == mSERVICE && s.lockstep && !s.fb Fld.MSP_STAT_INJ_BUSY && !s.stopDem then
      (s.setF Fld.MSP_STAT_INJ_BUSY 1).updEng .msp0 (fun x => { x with run := .stopped })
    else s)

/-- INJECTION_TEST_END (R226): the failing lanes, none for a pass. A failed test names no instruction, so
what MSP_MMRET and MSP_MMPC capture is free (DESIGN CHOICE, log entry 27). -/
def execInjectionTestEnd (fail0 fail1 : Word) (s : State) : Host.Outcome State Fault Refusal :=
  .next (
    if !s.live || !s.fb Fld.MSP_STAT_INJ_BUSY then s
    else
      let s1 := s.setF Fld.MSP_STAT_INJ_BUSY 0
      if fail0 = 0 ∧ fail1 = 0 then
        ((s1.setF Fld.MSP_INJSTAT_PASS 1).satAdd Fld.MSP_INJSTAT_RUNS 1).updEng .msp0 (fun x =>
          { x with run := .running })
      else
        let r := s1.takeWord
        let p := r.2.takeWord
        p.2.mismatch fail0 fail1 r.1 p.1 true)

end Sys2Proof.Machine
end

