-- ==== Sys2Proof/Machine/Plumb.lean ====
section
/-!
DEFINITION. The Plumb (chapter 18): measurements and their comparison with the baseline, wear allowance
and retirement, priming, the reserve's self-test, memory rows and the hourly sample.
-/

namespace Sys2Proof.Machine

/-- The Miller core's supervision program runs: from SEAL on, unless the core has halted. -/
def State.supervised (s : State) : Bool :=
  s.live && s.sealed && (s.eng .miller).run != .halted && (s.eng .miller).run != .inReset

/-- A function applied to the Plumb. -/
def State.updPlb (s : State) (h : Plumb → Plumb) : State := { s with plb := h s.plb }

/-- Quarter degrees in the ten bits of TJ. -/
def tjBits (tj : Int) : Nat := (tj % 1024).toNat

/-! ### Comparison (R432, R433): exact ratios -/

/-- The ratio `n / d`, `d` positive. -/
def ratio (n : Int) (d : Nat) : Ratio := ⟨n, d - 1⟩

/-- A ratio's denominator. -/
def Ratio.bot (r : Ratio) : Nat := r.den + 1

/-- The sum of two ratios. -/
def Ratio.plus (a b : Ratio) : Ratio := ratio (a.num * b.bot + b.num * a.bot) (a.bot * b.bot)

/-- The mean of some ratios. -/
def meanRatio (xs : List Ratio) : Ratio :=
  let t := xs.foldl Ratio.plus (ratio 0 1)
  ratio t.num (t.bot * max 1 xs.length)

/-- The two points whose line gives the value at code `c` (R432): those on each side of it, or the two
nearest where it lies beyond the outermost. The points rise by code. -/
def linePoints (c : Nat) : List BasePoint → Option (BasePoint × BasePoint)
  | p :: q :: r => if c ≤ q.code ∨ r = [] then some (p, q) else linePoints c (q :: r)
  | _ => none

/-- A quantity of the baseline at code `c`. With a single point the spec gives no line, and `slope` is the
free value that stands for it. -/
def baseAt (ps : List BasePoint) (slope : Int) (y : BasePoint → Int) (c : Nat) : Ratio :=
  match linePoints c ps with
  | some (p, q) =>
    let d : Nat := q.code - p.code
    ratio (y p * (d : Int) + (y q - y p) * ((c : Int) - (p.code : Int))) d
  | none =>
    match ps with
    | p :: _ => ratio (y p + slope * ((c : Int) - (p.code : Int))) 1
    | [] => ratio 0 1

/-- The time of a site at a point. -/
def siteTime (i : Nat) (p : BasePoint) : Int := (p.times.getD i 0 : Int)

/-- The slowdown of R432 for time `t` at code `c` and Tj; `other` stands for it where the formula divides
by nothing positive. -/
def slowdown (ps : List BasePoint) (slope : Int) (i c t : Nat) (tj : Int) (other : Ratio) : Ratio :=
  let tb := baseAt ps slope (siteTime i) c
  let temp := baseAt ps slope (fun (p : BasePoint) => p.tj) c
  let an := Config.alphaNum i
  let ad := Config.alphaDen + 1
  let cn : Int := (ad * temp.bot : Nat) + (an : Int) * (tj * (temp.bot : Int) - temp.num)
  let cd : Nat := ad * temp.bot
  let bottom : Int := cn * tb.num
  if bottom ≤ 0 then other
  else ratio ((t * cd * tb.bot : Nat) - bottom) bottom.toNat

/-- SLOW as the register holds it: times 4,096, halves to even, saturated to signed 16 bits. -/
def slowCode (s : Ratio) : Int := max (-32768) (min 32767 (halfEvenInt (s.num * 4096) s.bot))

/-- The time at 20 + w codes is short enough for slowdown `s` (R433). -/
def codesPay (ps : List BasePoint) (slope : Int) (i : Nat) (s : Ratio) (w : Nat) : Bool :=
  let a := baseAt ps slope (siteTime i) (20 + w)
  let b := baseAt ps slope (siteTime i) 20
  decide (((s.bot : Int) + s.num) * a.num * (b.bot : Int) ≤ b.num * ((s.bot * a.bot : Nat) : Int))

/-- REQW: the smallest that pays, 31 when none does. -/
def reqw (ps : List BasePoint) (slope : Int) (i : Nat) (s : Ratio) : Nat :=
  ((List.range 31).find? (codesPay ps slope i s)).getD 31

/-- SLOW of a site as a number. -/
def State.slowOf (s : State) (i : Nat) : Int := (BitVec.ofNat 16 (s.f (Fld.PLB_SITE_SLOW i))).toInt

/-- WORST and SLOWMAX. -/
def State.showWorst (s : State) : State :=
  let w := (List.range 12).foldl (fun b i => if s.slowOf b < s.slowOf i then i else b) 0
  (s.setF Fld.PLB_STAT_WORST w).setF Fld.PLB_STAT_SLOWMAX (s.f (Fld.PLB_SITE_SLOW w))

/-- An accepted measurement of time `t` (R432, R433). -/
def State.takeSample (s : State) (ps : List BasePoint) (i : Fin 12) (t : Nat) (tj : Int) : State :=
  let (w, s1) := s.takeWord
  let (o, s2) := s1.takeWord
  let x := slowdown ps w.toInt i (s.f Fld.PWR_VSTAT_TARGET) t tj (ratio o.toInt 4096)
  let xs := (x :: s2.plb.sites[i.val].samples).take 16
  let m := meanRatio xs
  let site : Site := { s2.plb.sites[i.val] with samples := xs }
  let s3 := s2.updPlb (fun p => { p with sites := p.sites.set i.val site })
  ((s3.setF (Fld.PLB_SITE_SLOW i) (slowCode m % 65536).toNat).setF (Fld.PLB_SITE_REQW i)
    (reqw ps w.toInt i m)).showWorst

/-- The unit of a site, where it is an engine, executes nothing: it contributes its replica only (R428). -/
def State.unitIdle (s : State) (i : Fin 12) : Bool :=
  let idle (e : Engine) : Bool := (s.eng e).run != .running
  match i with
  | 0 => idle .msp0
  | 1 => idle (if s.lockstep then .msp0 else .msp1)
  | 2 => idle (.slu 0)
  | 3 => idle (.slu 1)
  | 4 => idle (.slu 2)
  | 5 => idle (.slu 3)
  | 6 => idle (.slu 4)
  | 7 => idle .flume
  | 8 => idle .miller
  | _ => false

/-- PLUMB_MEASUREMENT (R429, R432): discarded without a timebase, during a voltage change or a dip, or
when Tj moved; the site's time is the larger of the two. -/
def execPlumbMeasurement (m : PlumbMeas) (s : State) : Host.Outcome State Fault Refusal :=
  .next (
    if !s.supervised || !s.fb Fld.PLB_CFG_EN then s
    else
      let s1 := s.setF Fld.PLB_TEMP_TJ (tjBits m.tj)
      if !s.fb Fld.SYS_TBSEL_ACTIVE || s.f Fld.PWR_VSTAT_PENDING != s.f Fld.PWR_VSTAT_TARGET || s.dip ||
          m.dip || m.tjMoved || m.unsteady then s1
      else match s1.plb.log.baseline with
        | some ps => s1.takeSample ps m.site (if s.unitIdle m.site then m.replica else max m.replica m.real) m.tj
        | none => s1)

/-! ### Rounds (R433-R435) -/

/-- A site is in service: worn ones stay so. -/
def State.inService (s : State) (i : Fin 12) : Bool :=
  s.f (Fld.PLB_SITE_STATE i) == 0 || s.f (Fld.PLB_SITE_STATE i) == 3

/-- A site judged at the end of a round: its warning, and the rounds that qualify it in a row. -/
def State.judge (s : State) (i : Fin 12) : State :=
  if !s.inService i then s
  else
    let x := s.plb.sites[i.val]
    let warn := decide ((s.f Fld.PLB_CFG_WARN : Int) ≤ s.slowOf i)
    let due := decide (492 ≤ s.slowOf i) || decide (s.headroom < s.f (Fld.PLB_SITE_REQW i))
    let y : Site := { x with warned := warn, rounds := if due then x.rounds + 1 else 0 }
    let s1 := s.updPlb (fun p => { p with sites := p.sites.set i.val y })
    if warn && !x.warned then s1.raise 208 else s1

/-- A site is due for retirement and nothing has been done about it. -/
def State.isDue (s : State) (i : Fin 12) : Bool :=
  s.f (Fld.PLB_SITE_STATE i) == 0 && decide (4 ≤ s.plb.sites[i.val].rounds) &&
  s.plb.pendSite.map (fun n => n.val + 2) != some i.val

/-- A wear retirement is decided on, and recorded for the next boot when the Cistern is free (R435). -/
def State.retire (s : State) (n : Fin 5) : State :=
  (s.updPlb (fun p => { p with pendSite := some n, retireDue := true })).retireNow

/-- The Sluice site that takes the reserve: the one with the larger SLOW, ties to the lower index. -/
def State.pickDue (s : State) (best : Option (Fin 5)) (n : Fin 5) : Option (Fin 5) :=
  match best with
  | none => some n
  | some b => if s.slowOf (2 + b.val) < s.slowOf (2 + n.val) then some n else some b

/-- PLUMB_ROUND_END (R433-R435). -/
def execPlumbRoundEnd (s : State) : Host.Outcome State Fault Refusal :=
  .next (
    if !s.supervised || !s.fb Fld.PLB_CFG_EN || s.plb.log.baseline.isNone then s
    else
      let top := sites12.foldl (fun m i => if s.inService i then max m (s.f (Fld.PLB_SITE_REQW i)) else m) 0
      let s1 := (s.setF Fld.PWR_GOV_WEAR (min s.headroom top)).each sites12 State.judge
      let cand := sluices.filter (fun n => s1.isDue ⟨2 + n.val, by omega⟩)
      let s2 := match s1.reserveFree && s1.plb.pendSite.isNone, cand.foldl s1.pickDue none with
        | true, some n => s1.retire n
        | _, _ => s1
      s2.each sites12 (fun t i => if t.isDue i then t.setF (Fld.PLB_SITE_STATE i) 3 else t))

/-! ### Baselining (R430, R431) -/

/-- The codes that a baseline measures: those within FLOOR and CEIL. -/
def State.baseCodes (s : State) : List Nat :=
  [0, 10, 20, 30, 40, 50].filter (fun c => decide (s.f Fld.PWR_GOV_FLOOR ≤ c ∧ c ≤ s.f Fld.PWR_GOV_CEIL))

/-- The rule of PLB_BASECTL (R431). In SERVICE a stop demand refuses it (R26, R398). -/
def State.wBasectl (s : State) (e : Engine) (v : Word) : WOut :=
  s.mspOnly e (
    if v.field 16 16 ≠ 0x4B17 || s.fb Fld.PLB_STAT_BUSY then s
    else if s.md ≠ mSERVICE then s.setF Fld.PLB_STAT_BRES 2
    else if s.stopDem then s
    else if bridges.any (fun b => s.fb (Fld.BRG_CTL_RUN b)) then s.setF Fld.PLB_STAT_BRES 3
    else if s.plb.log.baseline.isSome then s.setF Fld.PLB_STAT_BRES 4
    else
      ((s.updPlb (fun p => { p with baseGoals := s.baseCodes })).setF Fld.PLB_STAT_BUSY 1).setF
        Fld.PLB_STAT_BRES 0)

/-- BASELINE_DONE (R430, R431): the points of every present code, once all have been measured and VCORE is
back at the governor's target; or an end without a baseline. -/
def execBaselineDone (r : BaselineRes) (s : State) : Host.Outcome State Fault Refusal :=
  checked (WellFormed.baselineOk r) (
    if !s.live || !s.fb Fld.PLB_STAT_BUSY then s
    else match r with
      | .requestFailed => s.abortBaseline
      | .points ps =>
        if !s.plb.baseGoals.isEmpty || s.f Fld.PWR_VSTAT_TARGET != s.govTarget ||
            ps.map (·.code) != s.baseCodes then s
        else
          let mask := ps.foldl (fun m p => m + 2 ^ (p.code / 10)) 0
          let s1 := s.wearRecord 0x07 (BitVec.ofNat 32 mask ::
            ps.map (fun (p : BasePoint) => BitVec.ofInt 32 p.tj))
          (((s1.updLog (fun l => { l with baseline := some ps })).setF Fld.PLB_STAT_BASE 1).setF
            Fld.PLB_STAT_BUSY 0).setF Fld.PLB_STAT_BRES 1)

/-! ### Priming and the reserve (R436, R438) -/

/-- The halted engine that a priming request means; of several, the spec names none. -/
def State.takeHalted (s : State) : Option (Fin 5) × State :=
  match sluices.filter (fun (n : Fin 5) => s.f (Fld.SLU_STAT_STATE n) == 3) with
  | [] => (none, s)
  | [n] => (some n, s)
  | n :: r =>
    let (w, s1) := s.takeWord
    (some ((n :: r).getD (w.toNat % (r.length + 1)) n), s1)

/-- The rule of PLB_PRIME (R436, R438); a stop demand refuses the self-test (R26, R398). -/
def State.wPrime (s : State) (e : Engine) (v : Word) : WOut :=
  s.mspOnly e (
    if v.field 16 16 ≠ 0x2E95 then s
    else if v.field 0 2 = 1 then
      match s.takeHalted with
      | (some n, s1) => s1.startPrime n
      | (none, s1) => s1
    else if v.field 0 2 = 2 then
      (if s.md = mSERVICE ∧ s.f Fld.PLB_SPARE_RESIDX ≠ 7 ∧ s.stopDem = false then s.updPlb (fun p => { p with selfTest := true })
       else s)
    else s)

/-- PRIMING_DONE (R436): once the Cistern is free and no dip is present. -/
def execPrimingDone (s : State) : Host.Outcome State Fault Refusal :=
  .next (
    match s.plb.priming with
    | none => s
    | some n =>
      if !s.live || !s.cisFree then s
      else
        let (res, s0) := (s.retireRecord (2 + n.val) 1).takeWord
        let s1 := (s0.wearRecord 0x03 [BitVec.ofNat 32 n.val, BitVec.ofNat 32 substituteIdx, res]).updLog
          (fun l => { l with retIdx := n.val, resIdx := 7 })
        let s2 := (s1.updPlb (fun p => { p with priming := none })).updEng (.slu 4)
          (fun x => { x with run := .stopped })
        let s3 := (((s2.setF (Fld.SLU_STAT_STATE 4) 0).substitute n.val substituteIdx).setF
          Fld.PLB_SPARE_RESIDX 7).setF Fld.PLB_SPARE_RETIDX n.val
        ((s3.setF (Fld.PLB_SITE_STATE (2 + n.val)) 2).setF (Fld.PLB_SITE_STATE 6) 0).raise 210)

/-- RESERVE_SELF_TEST_DONE (R438). -/
def execReserveSelfTestDone (pass : Bool) (s : State) : Host.Outcome State Fault Refusal :=
  .next (
    if !s.live || !s.plb.selfTest then s
    else
      let s1 := s.endSelfTest
      if pass then s1.setF Fld.PLB_SPARE_TPASS 1
      else ((s1.updLog (fun l => { l with resBad := true })).setF Fld.PLB_SPARE_TFAIL 1).setF
        Fld.PLB_SPARE_RESBAD 1)

/-! ### Memory rows (R439, R440) -/

/-- The Sluice engine whose array it is. -/
def arrayOwner (arr : Nat) : Option (Fin 5) :=
  if h : 9 ≤ arr ∧ arr < 14 then some ⟨arr - 9, by omega⟩
  else if h : 14 ≤ arr ∧ arr < 19 then some ⟨arr - 14, by omega⟩
  else none

/-- The rows of an array. -/
def rowCount (arr : Nat) : Nat := rowSpares arr * 16

/-- An array may be tested and repaired: a Sluice engine's only while it is STOPPED or RESERVE. -/
def State.arrayIdle (s : State) (arr : Nat) : Bool :=
  match arrayOwner arr with
  | some n => s.f (Fld.SLU_STAT_STATE n) == 0 || s.f (Fld.SLU_STAT_STATE n) == 4
  | none => true

/-- The errors corrected in a row since reset. -/
def Plumb.errsOf (p : Plumb) (arr row : Nat) : Nat :=
  match p.rowErrs.find? (fun e => e.1 == (arr, row)) with
  | some e => e.2
  | none => 0

/-- The spare rows of an array in use or used-bad. -/
def Plumb.rowsUsed (p : Plumb) (arr : Fin 19) : Nat := p.log.rows[arr.val]

/-- The lane address of an array (R439). -/
def arrayBase (arr : Nat) : Nat :=
  if arr < 4 then 0x10000000 + arr * 0x80000
  else if arr = 4 then 0x10200000
  else if arr = 5 then 0x20100000
  else if arr = 6 then 0x20180000
  else if arr = 7 then 0x20140000
  else if arr = 8 then 0x201C0000
  else if arr < 14 then 0x20000000 + (arr - 9) * 0x20000
  else 0x20010000 + (arr - 14) * 0x20000

/-- A word holds an uncorrectable error from now on (R440); in lockstep core 1's arrays are the pair's second copies
(R214). -/
def State.spoil (s : State) (arr row : Nat) (w : Fin 128) : State :=
  let a := arrayBase arr + 512 * row + 4 * w.val
  if s.lockstep && (arr == 6 || arr == 8) then
    (if s.ecc1.contains (a - 0x80000) then s else { s with ecc1 := (a - 0x80000) :: s.ecc1 })
  else if s.ecc.contains a then s else { s with ecc := a :: s.ecc }

/-- MARCH_TEST_ROW (R440): the corrections count (source 25); a fault leaves the words that it names with an error that
cannot be corrected; a fault, or four corrections, starts a repair while a spare row is left. -/
def execMarchTestRow (arr : Fin 19) (row corrected : Nat) (found : Option (List (Fin 128))) (s0 : State) :
    Host.Outcome State Fault Refusal :=
  checked (WellFormed.rowOk arr row) (
    if !s0.supervised || !s0.arrayIdle arr || rowCount arr ≤ row then s0
    else
      let fault := found.isSome
      let s := (s0.each (found.getD []) (fun t w => t.spoil arr.val row w)).raiseN 25 (min corrected 16)
      let n := s.plb.errsOf arr row + corrected
      let s1 := (s.satAdd (Fld.PLB_ROWS_CORR arr) corrected).updPlb (fun p => { p with
        rowErrs := if n = 0 then p.rowErrs
          else ((arr.val, row), n) :: p.rowErrs.filter (fun e => e.1 != (arr.val, row)) })
      let s2 := if fault then s1.raise 214 else s1
      if (fault || decide (4 ≤ n)) && !s2.plb.repairing.any (fun e => e.1 == (arr.val, row)) &&
          decide (s2.plb.rowsUsed arr < rowSpares arr) then
        s2.updPlb (fun p => { p with
          repairing := p.repairing ++ [((arr.val, row), if fault then 0 else 1)] })
      else s2)

/-- ROW_REPAIR_DONE (R439, R440): the row stands in a spare; a spare that fails its own test is used-bad
and the next is taken. -/
def execRowRepairDone (arr : Fin 19) (row : Nat) (spareOk : Bool) (s : State) :
    Host.Outcome State Fault Refusal :=
  checked (WellFormed.rowOk arr row) (
    match s.plb.repairing.find? (fun e => e.1 == (arr.val, row)) with
    | none => s
    | some (_, cause) =>
      if !s.live || !s.arrayIdle arr then s
      else
        let used := s.plb.rowsUsed arr
        let s1 := (s.updLog (fun l => { l with rows := l.rows.set arr.val (used + 1) })).setF
          (Fld.PLB_ROWS_USED arr) (used + 1)
        let done := spareOk || decide (rowSpares arr ≤ used + 1)
        let s2 := if done then s1.updPlb (fun p => { p with
          repairing := p.repairing.filter (fun e => e.1 != (arr.val, row)) }) else s1
        if spareOk then
          let s3 := s2.wearRecord 0x04 [BitVec.ofNat 32 arr.val, BitVec.ofNat 32 row,
            BitVec.ofNat 32 used, BitVec.ofNat 32 cause]
          let s4 := s3.updLog (fun l => { l with rowMap := l.rowMap ++ [(arr.val * 1024 + row, used)] })
          (s4.updPlb (fun p => { p with rowErrs := p.rowErrs.filter (fun e => e.1 != (arr.val, row)) })).raise 211
        else s2)

/-! ### The hourly sample (R444) -/

/-- The SLOW words of a SAMPLE: two sites a word, the lower index in the low half. -/
def State.slowWords (s : State) : List Word :=
  (List.range 6).map (fun k => BitVec.ofNat 32
    (s.f (Fld.PLB_SITE_SLOW (2 * k)) + 2 ^ 16 * s.f (Fld.PLB_SITE_SLOW (2 * k + 1))))

/-- HOUR_TICK (R444). -/
def execHourTick (s : State) : Host.Outcome State Fault Refusal :=
  .next (
    if !s.live then s
    else
      let s1 := s.wrapInc Fld.HLTH_HOURS_HOURS
      if s1.supervised then
        s1.wearRecord 0x01 (s1.reg Reg.HLTH_HOURS :: s1.slowWords ++ [s1.reg Reg.PWR_GOV, s1.reg Reg.PLB_TEMP])
      else s1)

end Sys2Proof.Machine
end

