-- ==== Sys2Proof/Machine/RegIf.lean ====
section
/-!
DEFINITION. What a write of any register does (R101-R118): the register's own rule where its chapter
gives one, otherwise the access codes of its fields. One function per block, by the block table of R101.
-/

namespace Sys2Proof.Machine

/-- An index of the five instances of a block. -/
def fin5 (n : Nat) : Fin 5 := ⟨n % 5, Nat.mod_lt _ (by decide)⟩
/-- An index of three. -/
def fin3 (n : Nat) : Fin 3 := ⟨n % 3, Nat.mod_lt _ (by decide)⟩
/-- An index of two. -/
def fin2 (n : Nat) : Fin 2 := ⟨n % 2, Nat.mod_lt _ (by decide)⟩
/-- An index of four. -/
def fin4 (n : Nat) : Fin 4 := ⟨n % 4, Nat.mod_lt _ (by decide)⟩
/-- An index of six. -/
def fin6 (n : Nat) : Fin 6 := ⟨n % 6, Nat.mod_lt _ (by decide)⟩

/-- SYS: the fields of slots 25-31 of SYS_GRPSEL are reserved (R109). -/
def State.wSys (s : State) (e : Engine) (a : Nat) (v : Word) : WOut :=
  if a = Reg.SYS_MODEREQ then s.wModeReq e v
  else if a = Reg.SYS_RSTCTL then s.wRstctl e v
  else if a = Reg.SYS_TBSEL then .done (s.wTbsel v)
  else if a = Reg.SYS_WDG then .done (s.wWdg v)
  else if a = Reg.SYS_WDGKICK then s.wWdgkick e v
  else if a = Reg.SYS_UPD then .done (s.wUpd e v)
  else if a = Reg.SYS_GRPSEL 3 then .done (s.plainWrite a (v &&& 0xF))
  else .done (s.plainWrite a v)

/-- PWR_GOV: a write that would leave FLOOR above 20, CEIL below 20 or FLOOR above CEIL is ignored as a
whole (R66). -/
def State.wGov (s : State) (v : Word) : State :=
  let fl := if s.sealed then s.f Fld.PWR_GOV_FLOOR else v.field 0 6
  let ce := if s.sealed then s.f Fld.PWR_GOV_CEIL else v.field 8 6
  if 20 < fl ∨ ce < 20 ∨ ce < fl then s
  else s.plainWrite Reg.PWR_GOV v

/-- PWR. -/
def State.wPwr (s : State) (e : Engine) (a : Nat) (v : Word) : WOut :=
  if a = Reg.PWR_VREQ then s.wVreq e v
  else if a = Reg.PWR_GOV then .done (s.wGov v)
  else .done (s.plainWrite a v)

/-- CIS: the key hash is read-only once fused (R100). -/
def State.wCis (s : State) (e : Engine) (a : Nat) (v : Word) : WOut :=
  if a = Reg.CIS_CMD then s.wCisCmd e v
  else if a = Reg.CIS_CONFIRM then s.wCisConfirm e v
  else if a = Reg.CIS_DATA then .done (s.wCisData e v)
  else if Reg.CIS_KEYH 0 ≤ a ∧ a ≤ Reg.CIS_KEYH 7 ∧ s.cis.keyLock then .done s
  else .done (s.plainWrite a v)

/-- PROT: before SEAL it is written by supervisor-level Millstone code only (R96). -/
def State.wProt (s : State) (e : Engine) (a : Nat) (v : Word) : WOut :=
  if s.sealed then .done (s.plainWrite a v)
  else s.mspEither e (s.plainWrite a v)

/-- CAT. -/
def State.wCat (s : State) (a : Nat) (v : Word) : State :=
  if a = Reg.CAT_DONE then s.wCatDone v
  else if 0x40040100 ≤ a ∧ a < 0x40040200 then
    (if (a - 0x40040100) % 0x40 < 0x1C then
      s.wCatEn ((a - 0x40040100) / 0x40) ((a - 0x40040100) % 0x40 / 4) v
     else s)
  else s.plainWrite a v

/-- WHD: posted (R117). -/
def State.wWhd (s : State) (a : Nat) (v : Word) : State := if whdTakes a then s.postWhd a v else s

/-- OVCFG: an EVMAX of 0 is taken as 1. -/
def State.wOvcfg (s : State) (n : Fin 5) (v : Word) : State :=
  s.plainWrite (Reg.SLU_OVCFG n) (if v.field 0 10 = 0 then v.put 0 10 1 else v)

/-- SLU[n]. -/
def State.wSlu (s : State) (e : Engine) (a : Nat) (v : Word) : WOut :=
  let n := fin5 ((a - 0x40100000) / 0x10000)
  let off : Nat := a % 0x10000
  if off = 0 then s.wSluCtl e n v
  else if 0x10 ≤ off ∧ off < 0x20 then .done (s.wTrig n (fin4 ((off - 0x10) / 4)) v)
  else if off = 0x20 then .done (s.wSwtrg e n v)
  else if off = 0x28 then .done (s.wOvcfg n v)
  else if off = 0x30 then .done (s.wFlag e n v)
  else if 0x200 ≤ off ∧ off < 0x240 then .done (s.wTail e n ((off - 0x200) / 4) v)
  else .done (s.plainWrite a v)

/-- MSP. -/
def State.wMsp (s : State) (e : Engine) (a : Nat) (v : Word) : WOut :=
  if a = Reg.MSP_MMACK then s.wMmack e v
  else if a = Reg.MSP_INJCTL then s.wInjctl e v
  else .done (s.plainWrite a v)

/-- BRG[b]: what a write of PCFG changes shows at once. -/
def State.wBrg (s : State) (a : Nat) (v : Word) : State :=
  let b := fin5 ((a - 0x40200000) / 0x1000)
  let off : Nat := a % 0x1000
  if off = 0 then s.wRun b v
  else if off = 0x20 ∨ off = 0x24 ∨ off = 0x28 then s.newDuties b [(fin3 ((off - 0x20) / 4), v)]
  else if off = 0x44 then s.wAng b v
  else if off = 0x104 then s.wCatch b v
  else if off = 0x180 then s.wKecfg b v
  else if off = 0x188 then s.wKeest b v
  else if off = 0x18C then s.wLockcfg b v
  else if off = 0x200 then s.wCrvcfg b v
  else if off = 0x208 then s.wCrvin b v
  else if off = 0x800 then (s.plainWrite a v).settle b
  else if off = 0x804 then s.wPcmd b v
  else s.plainWrite a v

/-- COG[n] and the repeaters, which follow their channels (R317). -/
def State.wCog (s : State) (a : Nat) (v : Word) : State :=
  let off : Nat := a % 0x1000
  if a < 0x40306000 then
    (if off = 0x44 then s.wCmp (fin6 ((a - 0x40300000) / 0x1000)) 0 v
     else if off = 0x54 then s.wCmp (fin6 ((a - 0x40300000) / 0x1000)) 1 v
     else if off = 0 then (s.plainWrite a v).rptUpdate
     else s.plainWrite a v)
  else (s.plainWrite a v).rptUpdate

/-- KNR: buffer configuration only while STATE = OFF (R331), LEN and VALID through the strobe group; a
receive buffer's data are its frozen copy. -/
def State.wKnr (s : State) (a : Nat) (v : Word) : State :=
  if a = Reg.KNR_CTL then s.wKnrCtl v
  else if a = Reg.KNR_SPPUSH then s.wSpPush v
  else if 0x40401000 ≤ a ∧ a < 0x40401400 ∧ a % 0x10 = 0 ∧ s.knrState ≠ 0 then
    { s with shadow := Cells.insert a v (Cells.erase s.shadow a) }
  else if 0x40402000 ≤ a ∧ a < 0x40403000 then
    (if s.isRx ((a - 0x40402000) / 0x40) then s else s.coldNote.plainWrite a v)
  else s.plainWrite a v

/-- LEAT. -/
def State.wLeat (s : State) (e : Engine) (a : Nat) (v : Word) : WOut :=
  if a = Reg.LEAT_SHCTL then .done (s.wShctl v)
  else if a = Reg.LEAT_RESIGN then s.wResign e v
  else if a = Reg.LEAT_RRACK then s.wRrack e v
  else .done (s.plainWrite a v)

/-- RACE. -/
def State.wRace (s : State) (a : Nat) (v : Word) : State :=
  if a = Reg.RACE_CTL then s.wRaceCtl v
  else if a = Reg.RACE_DBCTL then s.wDbctl v
  else if a = Reg.RACE_TRPUSH then s.wTrpush v
  else s.plainWrite a v

/-- The bits of NBT, and those of DBT (R426). -/
def nbtBits : Word := 0x07FFFFFF
def dbtBits : Word := 0xFFF1E3FF

/-- CAN[n]. -/
def State.wCan (s : State) (a : Nat) (v : Word) : State :=
  let n := fin2 ((a - 0x40600000) / 0x1000)
  let off : Nat := a % 0x1000
  if off = 0 then s.wCanCtl n v
  else if off = 4 then s.wCanCfg n a nbtBits v
  else if off = 8 then s.wCanCfg n a dbtBits v
  else if 0x100 ≤ off ∧ off < 0x200 then
    s.wCanCfg n a (if off % 8 = 0 then 0xBFFFFFFF else 0x1FFFFFFF) v
  else if off = 0x260 then s.wTxpush n v
  else if off = 0x360 then s.wRxpop n v
  else s.plainWrite a v

/-- PLB. -/
def State.wPlb (s : State) (e : Engine) (a : Nat) (v : Word) : WOut :=
  if a = Reg.PLB_BASECTL then s.wBasectl e v
  else if a = Reg.PLB_PRIME then s.wPrime e v
  else .done (s.plainWrite a v)

/-- HLTH: HLTH_SET is written by the Millstone pair (R445). -/
def State.wHlth (s : State) (e : Engine) (a : Nat) (v : Word) : State :=
  if a = Reg.HLTH_SET ∧ !isMsp e then s else s.plainWrite a v

/-- What a write of the register at `a` does, once the write is let through; a reserved address ignores it
(R8, R101). -/
def State.regRule (s : State) (e : Engine) (a : Nat) (v : Word) : WOut :=
  if (kindAt a).isNone then .done s
  else if a < 0x40010000 then s.wSys e a v
  else if a < 0x40020000 then s.wPwr e a v
  else if a < 0x40030000 then s.wCis e a v
  else if a < 0x40040000 then s.wProt e a v
  else if a < 0x40050000 then .done (s.wCat a v)
  else if a < 0x40100000 then .done (s.wWhd a v)
  else if a < 0x40180000 then s.wSlu e a v
  else if a < 0x40200000 then s.wMsp e a v
  else if a < 0x40280000 then .done (s.wBrg a v)
  else if a < 0x40300000 then (if a = Reg.DRV_SPWTEST then s.wSpwtest e v else .done (s.wDrv a v))
  else if a < 0x40380000 then .done (s.wCog a v)
  else if a < 0x40400000 then .done (s.plainWrite a v)
  else if a < 0x40480000 then .done (s.wKnr a v)
  else if a < 0x40500000 then s.wLeat e a v
  else if a < 0x40580000 then .done (s.plainWrite a v)
  else if a < 0x40600000 then .done (s.wRace a v)
  else if a < 0x40680000 then .done (s.wCan a v)
  else if a < 0x40700000 then s.wPlb e a v
  else .done (s.wHlth e a v)

/-- A register write that an engine's store makes: the state after it, or the exception. -/
def State.regStore (s : State) (e : Engine) (a : Nat) (v : Word) : State ⊕ Exc :=
  s.writeEff e a (fun t => t.regRule e a v)

end Sys2Proof.Machine
end

