-- ==== Sys2Proof/Machine/Pair.lean ====
section
/-!
DEFINITION. The Millstone pair in lockstep (R214-R219): core 1 follows core 0 at two retired instructions, what can change
between the two executions is captured, and what leaves the pair is held until core 1 has compared. Then how every engine
issues an instruction, and a register write as a command.
-/

namespace Sys2Proof.Machine

/-! ### Core 1 (R215, R219) -/

/-- A store by an engine reaches memory once core 1 has compared it: one of the pair outside its own copies (R219). -/
def State.holds (s : State) (e : Engine) (la : Nat) : Bool := s.paired e && !inPair la

/-- What is done as core 0 at a level that may no longer be its present one. -/
def State.atLevel (s : State) (sup : Bool) (h : State → State) : State :=
  let was := (s.eng .msp0).psw.bit 9
  let t := h (s.updEng .msp0 (fun x => { x with psw := x.psw.put 9 1 (Word.ofBool sup) }))
  if t.live then t.updEng .msp0 (fun x => { x with psw := x.psw.put 9 1 (Word.ofBool was) }) else t

/-- A held action is performed, once (R219). -/
def State.perform (s : State) : HeldAct → State
  | .mem la n v => s.storeMem (some .msp0) la n v
  | .reg a v sup => s.atLevel sup (fun t => match t.regStore .msp0 a v with
    | .inl u => u
    | .inr _ => t)

/-- Core 1 retires its next instruction as core 0 did, which frees its entry of the lag FIFO, and the comparator finds
it equal: its held action is performed (R217, R219). -/
def State.retireHead (s : State) : State :=
  match s.pair.trail with
  | [] => s
  | r :: rest =>
    let s1 := { s with pair := { s.pair with trail := rest } }.setEng .msp1 { r.after with run := .running }
    match r.act with
    | some a => s1.perform a
    | none => s1

/-- Core 1 retires what the lag lets it, at most `n` instructions (R215). -/
def State.catchUp (s : State) : Nat → State
  | 0 => s
  | n + 1 => if s.live && s.lockstep && s.mayRetire then s.retireHead.catchUp n else s

/-- Core 1 retires everything, at most `n` instructions: the lag closes. -/
def State.closeAll (s : State) : Nat → State
  | 0 => s
  | n + 1 => if s.live && s.lockstep then s.retireHead.closeAll n else s

/-- Core 1 has retired what it may before the next instruction of core 0. -/
def State.keepUp (s : State) (e : Engine) : State := if s.paired e then s.catchUp s.pair.trail.length else s

/-- Core 1 has retired all that core 0 has: what the pair waits for where a later access of it may only take effect after
a held one (R105, R159; DESIGN CHOICE, log entry 68). -/
def State.closeLag (s : State) (e : Engine) : State := if s.paired e then s.closeAll s.pair.trail.length else s

/-- The entries of the lag FIFO in use (R217). -/
def State.fifoUse (s : State) : Nat := (s.pair.trail.filter (fun r => r.input.isSome)).length

/-- All entries of the lag FIFO are in use (R218). -/
def State.fifoFull (s : State) : Bool := decide (32 ≤ s.fifoUse)

/-- The input-capture stage takes an asynchronous input for the instruction in progress (R216, R217). -/
def State.capture (s : State) (e : Engine) (k : InputKind) (v : Word) : State :=
  if s.paired e then { s with pair := { s.pair with input := some ⟨k, v⟩ } } else s

/-- The instruction in progress holds an action (R219). -/
def State.hold (s : State) (a : HeldAct) : State := { s with pair := { s.pair with act := some a } }

/-- A held register write is waiting. -/
def State.heldReg (s : State) : Bool :=
  s.pair.trail.any (fun r => match r.act with | some (.reg _ _ _) => true | _ => false)

/-- The state as core 0 sees memory: with its own held stores (R158). -/
def State.ahead (s : State) (e : Engine) : State :=
  if s.paired e then
    s.pair.trail.foldl (fun t r => match r.act with
      | some (.mem la n v) => t.putMem la n v
      | _ => t) s
  else s

/-- A write of MSP_INJCTL stops core 0 after the writing instruction, with the lag closed (R226). -/
def HeldAct.closes : Option HeldAct → Bool
  | some (.reg a _ _) => a == Reg.MSP_INJCTL
  | _ => false

/-- `t` is what an engine's instruction has made of `s`: of the pair, core 1 has it yet to retire, with what it captured
and holds (R217-R219). An engine that has stopped or left lockstep keeps nothing of the lag. -/
def State.push (t s : State) (e : Engine) : State :=
  if !s.paired e then t
  else if !t.live || !t.lockstep || (t.eng e).run == .stopped then { t with pair := {} }
  else
    let x := s.eng e
    let y := t.eng e
    let r : Lagged := ⟨x.retired, x.pc, y, y.retired != x.retired, t.pair.input, t.pair.act⟩
    let t1 := { t with pair := { trail := t.pair.trail ++ [r] } }
    let t2 := t1.setF Fld.MSP_STAT_FIFOMAX (max (t1.f Fld.MSP_STAT_FIFOMAX) t1.fifoUse)
    if HeldAct.closes r.act then t2.closeLag e else t2

/-! ### Issue -/

/-- An exception of an engine. A double fault of the pair stops it with every older instruction completed (R151, R156). -/
def State.raiseExc (s : State) (e : Engine) (c : Exc) : State :=
  if (s.eng e).psw.bit 10 then (s.closeLag e).takeExc e c else s.takeExc e c

/-- A word that one core alone finds uncorrectable (R214): core 0 takes ECC or core 1 does, which lane 40 shows; what the
other lanes show is free (DESIGN CHOICE, log entry 61). Every older instruction has compared equal. -/
def State.eccMismatch (s : State) (e : Engine) : State :=
  let s1 := s.closeLag e
  let (l0, s2) := s1.takeWord
  let (l1, s3) := s2.takeWord
  s3.mismatch l0 (l1.put 8 1 1) (s.eng e).retired (s.eng e).pc false

/-- One instruction of `n` words of major `major`: nothing when the engine does not issue; otherwise the exception it
raises, in the order of R154, or its effect. `ok` says that the word is legal (R131), `priv` is the privilege check,
`drain` that the lag closes first, `wants` that the instruction needs an entry of the lag FIFO (R218). Where what core 1
retires before it keeps it from issuing, that alone happens. -/
def State.issue (s : State) (e : Engine) (n major : Nat) (ok : Bool) (body : State → State)
    (priv : State → Option Exc := fun _ => none) (drain : State → Bool := fun _ => false)
    (wants : State → Bool := fun _ => false) : State :=
  let s0 := s.keepUp e
  let s1 := if drain s0 then s0.closeLag e else s0
  if !s1.canIssue e || (s1.paired e && s1.fifoFull && wants s1) then
    (if s.canIssue e || s0.canIssue e then s1 else s)
  else if s1.fetchOneCopy e n then s1.eccMismatch e
  else
    let t := match s1.fetchExc e n with
      | some c => s1.raiseExc e c
      | none =>
        if !ok then s1.raiseExc e { code := 1, info := major }
        else match priv s1 with
          | some c => s1.raiseExc e c
          | none => match s1.alignFetch e with
            | some c => s1.raiseExc e c
            | none => body s1
    t.push s1 e

/-- An instruction that only acts on its engine's registers. -/
def State.issueReg (s : State) (e : Engine) (n major : Nat) (ok : Bool) (h : EngState → EngState) : State :=
  s.issue e n major ok (fun t => t.updEng e (fun x => (h x).next n))

/-- A supervisor-only action at task level (R150). -/
def State.needsSuper (s : State) (e : Engine) (info : Nat) : Option Exc :=
  if s.super e then none else some { code := 2, info := info }

/-! ### Register writes as commands -/

/-- A register write as a command: nothing when the engine does not issue (DESIGN CHOICE, log entry 7). The pair closes
the lag first, and the write has compared as it is performed (log entry 68). -/
def State.access (s : State) (e : Engine) (a : Nat) (h : State → WOut) : State :=
  let s1 := s.closeLag e
  if s1.canIssue e then
    match s1.writeEff e a h with
    | .inl t => t
    | .inr c => (s1.raiseExc e c).push s1 e
  else if s.canIssue e then s1 else s

/-- A register write as a command: a misaligned one has no effect and raises ALIGN_DATA, and a Flume
transfer is abandoned (R102). -/
def State.regCommand (s : State) (e : Engine) (addr v : Word) : State :=
  let a := addr.toNat
  if a % 4 ≠ 0 then
    let s1 := s.closeLag e
    if s1.canIssue e then
      match e with
      | .flume => s1.raise 11
      | _ => (s1.raiseExc e { code := 7, info := 2, bad := some addr }).push s1 e
    else if s.canIssue e then s1 else s
  else s.access e a (fun t => t.regRule e a v)

/-- Core 1 takes over what a command other than an instruction has done to core 0's registers. -/
def State.twin (s : State) (e : Engine) : State :=
  if s.paired e && s.live then s.setEng .msp1 { s.eng e with run := .running } else s

end Sys2Proof.Machine
end

