-- ==== Sys2Proof/Machine/Operands.lean ====
section
/-!
DEFINITION. The operand forms of the base set (R127, R130): register operands, immediates, f register
fields, and the shape of an instruction that computes one g register.
-/

namespace Sys2Proof.Machine

/-- Register `i` of the g file. -/
def EngState.getG (x : EngState) (i : BitVec 5) : Word := x.g[i.toNat]

/-- A g register written. -/
def EngState.setG (x : EngState) (i : BitVec 5) (w : Word) : EngState :=
  { x with g := x.g.set i.toNat w i.isLt }

/-- Register `i` of the f file, by the low four bits of its field (R127). -/
def EngState.getF (x : EngState) (i : BitVec 5) : Word :=
  x.f[i.toNat % 16]'(Nat.mod_lt _ (by decide))

/-- An f register written. -/
def EngState.setFr (x : EngState) (i : BitVec 5) (w : Word) : EngState :=
  { x with f := x.f.set (i.toNat % 16) w (Nat.mod_lt _ (by decide)) }

/-- A field that names an f register has bit 4 clear (R127). -/
def fOk (i : BitVec 5) : Bool := !i.getLsbD 4

/-- The engine implements floating point (R125). -/
def hasFpu : Engine → Bool
  | .flume => false | _ => true

/-- imm17, sign-extended (R134). -/
def simm17 (i : BitVec 17) : Word := i.signExtend 32
/-- imm17, zero-extended (CMPUI). -/
def uimm17 (i : BitVec 17) : Word := i.setWidth 32
/-- imm14, sign-extended (R137). -/
def simm14 (i : BitVec 14) : Word := i.signExtend 32
/-- offset24, sign-extended and times 4 (R139). -/
def soff24 (i : BitVec 24) : Word := i.signExtend 32 <<< 2

/-- A g register computed from two operands, with its flags. -/
def EngState.alu (x : EngState) (h : AluFn) (d : BitVec 5) (a b : Word) : EngState :=
  let r := h a b x.psw
  ({ x with psw := r.2 }).setG d r.1

/-- The flags alone of a computation. -/
def EngState.flagsOnly (x : EngState) (h : AluFn) (a b : Word) : EngState :=
  { x with psw := (h a b x.psw).2 }

/-- Format A, two operands (R132). -/
def State.opA (s : State) (o : FmtA) (h : AluFn) : State :=
  s.issueReg o.eng 1 0 true (fun x => x.alu h o.gd (x.getG o.ga) (x.getG o.gb))

/-- Format A, one operand: gb must be 0 (R132). -/
def State.opA1 (s : State) (o : FmtA) (h : AluFn) : State :=
  s.issueReg o.eng 1 0 (o.gb == 0) (fun x => x.alu h o.gd (x.getG o.ga) 0)

/-- Format I with an immediate of its own major (R134). -/
def State.opI (s : State) (o : FmtI) (major : Nat) (h : AluFn) (imm : Word) : State :=
  s.issueReg o.eng 1 major true (fun x => x.alu h o.gd (x.getG o.ga) imm)

/-- The shifts of major 0x05: imm[16:7] must be 0 (R134). -/
def State.opSh (s : State) (o : FmtSh) (h : AluFn) : State :=
  s.issueReg o.eng 1 5 (o.hi == 0) (fun x => x.alu h o.gd (x.getG o.ga) (o.amt.setWidth 32))

/-- A long-immediate pair: the prefix's [11:0] is zero (R135). -/
def State.opLI (s : State) (o : FmtLI) (ok : Bool) (h : EngState → EngState) : State :=
  s.issueReg o.eng 2 0x1F (o.low == 0 && ok) h

end Sys2Proof.Machine
end

