-- ==== Sys2Proof/Machine/Branch.lean ====
section
/-!
DEFINITION. Branches, CALL and the register jumps (R139, R140).
-/

namespace Sys2Proof.Machine

/-- A branch of major 0x14: taken where the flags say so (R139). -/
def State.branch (s : State) (o : FmtB) (taken : Word → Bool) : State :=
  s.issue o.eng 1 0x14 true (fun t => t.updEng o.eng (fun x =>
    { x with pc := if taken x.psw then x.pc + soff24 o.off else x.pc + 4
             retired := x.retired + 1 }))

/-- BAL (R139). -/
def execBal (o : FmtB) (s : State) : Host.Outcome State Fault Refusal := .next (s.branch o (fun _ => true))
/-- BEQ (R139). -/
def execBeq (o : FmtB) (s : State) : Host.Outcome State Fault Refusal := .next (s.branch o (fun p => p.bit 1))
/-- BNE (R139). -/
def execBne (o : FmtB) (s : State) : Host.Outcome State Fault Refusal := .next (s.branch o (fun p => !p.bit 1))
/-- BLT (R139). -/
def execBlt (o : FmtB) (s : State) : Host.Outcome State Fault Refusal :=
  .next (s.branch o (fun p => p.bit 0 != p.bit 3))
/-- BGE (R139). -/
def execBge (o : FmtB) (s : State) : Host.Outcome State Fault Refusal :=
  .next (s.branch o (fun p => p.bit 0 == p.bit 3))
/-- BLTU (R139). -/
def execBltu (o : FmtB) (s : State) : Host.Outcome State Fault Refusal := .next (s.branch o (fun p => !p.bit 2))
/-- BGEU (R139). -/
def execBgeu (o : FmtB) (s : State) : Host.Outcome State Fault Refusal := .next (s.branch o (fun p => p.bit 2))
/-- CALL (R139). -/
def execCall (o : FmtB) (s : State) : Host.Outcome State Fault Refusal :=
  .next (s.issue o.eng 1 0x14 true (fun t => t.updEng o.eng (fun x =>
    let y := x.setG 31 (x.pc + 4)
    { y with pc := x.pc + soff24 o.off, retired := x.retired + 1 })))

/-- A jump to a register, which raises ALIGN_FETCH itself where the target is not word-aligned
(R140). -/
def State.jump (s : State) (e : Engine) (ok : Bool) (target : Word) (h : EngState → EngState) : State :=
  s.issue e 1 0x15 ok (fun t =>
    if target.toNat % 4 ≠ 0 then t.raiseExc e { code := 6, bad := some target }
    else t.updEng e (fun x => { h x with pc := target, retired := x.retired + 1 }))

/-- JR: gd and gb are 0 (R140). -/
def execJr (o : FmtA) (s : State) : Host.Outcome State Fault Refusal :=
  .next (s.jump o.eng (o.gd == 0 && o.gb == 0) ((s.eng o.eng).getG o.ga) (fun x => x))
/-- JALR: gb is 0; the target is ga before the instruction (R140). -/
def execJalr (o : FmtA) (s : State) : Host.Outcome State Fault Refusal :=
  .next (s.jump o.eng (o.gb == 0) ((s.eng o.eng).getG o.ga) (fun x => x.setG o.gd (x.pc + 4)))

end Sys2Proof.Machine
end

