-- ==== Sys2Proof/Machine/Race.lean ====
section
/-!
DEFINITION. What the Race port receives and sends (R411-R421), and the ROM's commissioning service.
-/

namespace Sys2Proof.Machine

/-! ### Inbound packets (R416, R417) -/

/-- The address lies in an enabled inbound window (R98). -/
def State.inWindow (s : State) (a : Nat) : Bool :=
  (List.range 4).any (fun n => s.fb (Fld.PROT_RWIN_LIMIT_EN n) &&
    decide (s.f (Fld.PROT_RWIN_BASE_BASE n) ≤ a / 4096) && decide (a / 4096 ≤ s.f (Fld.PROT_RWIN_LIMIT_LIMIT n)))

/-- A WRITE may reach the address: never the SAFE window (R406), CIS_DATA under the commissioning
set-up. -/
def State.raceMay (s : State) (a : Nat) : Bool :=
  a % 4 == 0 && !(decide (0x40500000 ≤ a ∧ a < 0x40580000)) &&
  (s.inWindow a || (a == Reg.CIS_DATA && s.fb Fld.PROT_SEAL_BY_ROM))

/-- The addresses and words of a WRITE. -/
def raceTargets (ws : List Word) : List (Nat × Word) :=
  (racePayload ws).zipIdx.map (fun (e : Word × Nat) =>
    ((if raceFix ws then ws.getD 1 0 else ws.getD 1 0 + BitVec.ofNat 32 (4 * e.2)).toNat, e.1))

/-- A block whose writes follow the ownership tables (R97): the port owns none. -/
def ownedBlock (a : Nat) : Bool :=
  decide (0x40200000 ≤ a ∧ a < 0x40205000) || decide (0x40580000 ≤ a ∧ a < 0x40602000) ||
  decide (0x40308000 ≤ a ∧ a < 0x40309000) ||
  decide (0x40300000 ≤ a ∧ a < 0x40306000 ∧ 0x40 ≤ a % 0x1000 ∧ a % 0x1000 < 0x60)

/-- One word written by the port. A register takes it as from an engine that is neither Millstone nor
Miller and owns nothing (DEDUCED, log entry 34); read-only and absent memory ignores it. -/
def State.raceStore (s : State) (a : Nat) (v : Word) : State :=
  match laneLoc s.lockstep a with
  | .mem la _ _ false => s.storeMem none la 4 v.toNat
  | .regs =>
    if s.sealed && ownedBlock a then s.refuseOwner
    else match s.regRule .flume a v with
      | .done t => t
      | .priv => s
  | _ => s

/-- One more word of the first buffer has been written. -/
def State.wordDone (s : State) : State :=
  s.updRace (fun r => match r.bufs with
    | b :: rest => { r with bufs := { b with done := b.done + 1 } :: rest }
    | [] => r)

/-- The words of a WRITE in order; it pauses before a word that CIS_DATA cannot take yet (R417). -/
def State.raceWords (s : State) : List (Nat × Word) → State
  | [] => s.finFront
  | (a, v) :: r =>
    if a = Reg.CIS_DATA && (s.fb Fld.CIS_STAT_BUSY || s.cisHeld) then s
    else State.raceWords (s.raceStore a v).wordDone r

/-- A refused packet: nothing is written. -/
def State.raceReject (s : State) : State := (s.satAdd Fld.RACE_CNT_RXREJ 1).finFront

/-- The first buffer is carried out as far as it can be (R416, R417). -/
def State.carry (s : State) : State :=
  match s.race.bufs with
  | [] => s
  | b :: _ =>
    if b.fin then s
    else match raceType b.words with
      | 1 =>
        let ts := raceTargets b.words
        if b.done = 0 && !ts.all (fun e => s.raceMay e.1) then s.raceReject
        else s.raceWords (ts.drop b.done)
      | 2 => s.deliver.romTry
      | _ => s.raceReject

/-- A discarded packet (R411): the fourth in a row takes the link down (R412); its credit comes back unless
it was a SYNC, which holds none. -/
def State.raceDiscard (s : State) (sync : Bool) : State :=
  let s1 := (s.satAdd Fld.RACE_CNT_RXERR 1).updRace (fun r => { r with badRun := r.badRun + 1 })
  let s2 := if sync then s1 else s1.giveCredits 1
  if 4 ≤ s2.race.badRun then s2.linkDown.raceNext else s2

/-- A packet arrives (R411, R412, R416). While the link is down only SYNC packets count. -/
def State.packetIn (s : State) (p : RacePkt) : State :=
  let sync := raceType p.words == 5
  if !s.raceOn then s
  else if !s.fb Fld.RACE_STAT_UP then
    let n := if sync && packetValid p then s.race.syncRun + 1 else 0
    let s1 := s.updRace (fun r => { r with syncRun := n })
    if 16 ≤ n then s1.linkUp.raceNext else s1
  else if !sync && decide (8 ≤ s.race.bufs.length + s.race.owed) then
    (s.satAdd Fld.RACE_CNT_RXERR 1).linkDown.raceNext
  else if !packetValid p then s.raceDiscard sync
  else
    let s1 := s.updRace (fun r => { r with badRun := 0 })
    if sync then s1
    else
      (((s1.setF Fld.RACE_STAT_LASTSEQ (raceSeq p.words)).updRace (fun r => { r with
        bufs := r.bufs ++ [{ words := p.words }] })).showBufs).carry

/-- RACE_WRITE (R416). -/
def execRaceWrite (p : RacePkt) (s : State) : Host.Outcome State Fault Refusal := checked (WellFormed.packetOk [1] p) (s.packetIn p)
/-- RACE_DOORBELL (R416). -/
def execRaceDoorbell (p : RacePkt) (s : State) : Host.Outcome State Fault Refusal := checked (WellFormed.packetOk [2] p) (s.packetIn p)
/-- RACE_TRACE_RECEIVED (R416). -/
def execRaceTraceReceived (p : RacePkt) (s : State) : Host.Outcome State Fault Refusal := checked (WellFormed.packetOk [3, 4] p) (s.packetIn p)
/-- RACE_SYNC (R412). -/
def execRaceSync (p : RacePkt) (s : State) : Host.Outcome State Fault Refusal := checked (WellFormed.packetOk [5] p) (s.packetIn p)

/-- RACE_BUFFER_FREED (R413): the first buffer, carried out, is free again and its credit goes back; the
next is carried out. -/
def execRaceBufferFreed (s : State) : Host.Outcome State Fault Refusal :=
  .next (
    match s.race.bufs with
    | [] => s
    | b :: rest =>
      if !s.live || !b.fin then s
      else
        let s1 := (s.updRace (fun r => { r with bufs := rest })).showBufs
        (if s1.fb Fld.RACE_STAT_UP then s1.giveCredits 1 else s1).carry)

/-! ### Link and outbound packets -/

/-- CREDIT_RECEIVED (R414): CRAVAIL saturates at 15; there are no credits while the link is down (R412). -/
def execCreditReceived (s : State) : Host.Outcome State Fault Refusal :=
  .next (
    if s.raceOn && s.fb Fld.RACE_STAT_UP then (s.satAdd Fld.RACE_STAT_CRAVAIL 1).raceNext else s)

/-- RCK_LOSS (R412). -/
def execRckLoss (s : State) : Host.Outcome State Fault Refusal :=
  .next (if s.raceOn && s.fb Fld.RACE_STAT_UP then s.linkDown.raceNext else s)

/-- SYNC_DUE (R412): no packet has been sent for 256 word times. -/
def execSyncDue (s : State) : Host.Outcome State Fault Refusal :=
  .next (
    if s.raceOn && s.fb Fld.RACE_STAT_UP && s.race.sending.isNone then s.startSync else s)

/-- CREDIT_STALL (R414). -/
def execCreditStall (s : State) : Host.Outcome State Fault Refusal :=
  .next (
    if s.raceOn && s.outWaits && !s.fb Fld.RACE_STAT_CRAVAIL then
      (s.setF Fld.RACE_STAT_STALL 1).level 195 true
    else s)

/-- The reply to SPEED has been sent: the ROM restarts the link at the new MUL (R421). -/
def State.romSpeed (s : State) : State :=
  match s.race.romMul with
  | some m =>
    let s1 := (s.updRace (fun r => { r with romMul := none })).raceStop
    (s1.wRaceCtl (BitVec.ofNat 32 (m % 64 * 256))).wRaceCtl (BitVec.ofNat 32 (m % 64 * 256 + 1))
  | none => s

/-- OUTBOUND_PACKET_SENT (R414, R418, R420): a stalled packet that has gone ends the stall. -/
def execOutboundPacketSent (s : State) : Host.Outcome State Fault Refusal :=
  .next (
    match s.race.sending with
    | none => s
    | some (k, ws) =>
      if !s.live || s.whd.phase ≠ .awake then s
      else
        let s1 := (s.send (.race ws)).updRace (fun r => { r with sending := none })
        let s2 := if k = .sync then s1 else (s1.setF Fld.RACE_STAT_STALL 0).level 195 false
        let s3 := if k = .doorbell then ((s2.setF Fld.RACE_STAT_DBOBUSY 0).romSpeed).romTry else s2
        s3.raceNext)

/-! ### The commissioning service (R421) -/

/-- A word of the inbound mailbox. -/
def State.dbin (s : State) (i : Nat) : Word := s.reg (Reg.RACE_DBIN i)

/-- SETADDR (R421). -/
def execSetaddr (s : State) : Host.Outcome State Fault Refusal :=
  .next (s.romServe 1 (fun t => (t.plainWrite Reg.CIS_ADDR (t.dbin 1)).romDue 1))

/-- COMMAND (R421): the reply waits until DONE sets. -/
def execCommand (s : State) : Host.Outcome State Fault Refusal :=
  .next (s.romServe 2 (fun t =>
    let t1 := t.plainWrite Reg.CIS_ARG (t.dbin 2)
    match t1.wCisCmd .msp0 (t.dbin 1) with
    | .priv => t1
    | .done u =>
      if u.cis.running.isNone && u.fb Fld.CIS_STAT_DONE then u.romDue 2
      else u.updRace (fun r => { r with romWait := true })))

/-- SETKEY (R421). -/
def execSetkey (s : State) : Host.Outcome State Fault Refusal :=
  .next (s.romServe 3 (fun t =>
    (if t.cis.keyLock then t
     else t.each (List.range 8) (fun u i => u.setReg (Reg.CIS_KEYH i) (t.dbin (1 + i)))).romDue 3))

/-- QUERY (R421). -/
def execQuery (s : State) : Host.Outcome State Fault Refusal :=
  .next (s.romServe 4 (fun t => t.romDue 4))

/-- SPEED (R421): the reply goes out at the present MUL. -/
def execSpeed (s : State) : Host.Outcome State Fault Refusal :=
  .next (s.romServe 5 (fun t => t.romDue 5))

end Sys2Proof.Machine
end

