-- ==== Sys2Proof/Machine/CisternEnd.lean ====
section
/-!
DEFINITION. What ends a wait for the Cistern, and so lets an inbound Race WRITE go on (R417): its commands
and data writes end (R89, R90), a sector is remapped (R441), a dip comes and goes (R69, R70).
-/

namespace Sys2Proof.Machine

/-- CIS_COMMAND_DONE (R89): a COMMAND of the ROM's service is answered now (R421). -/
def execCisCommandDone (s : State) : Host.Outcome State Fault Refusal := .next (s.cisDone.romDone.carry)

/-- CIS_DATA_WRITE_DONE (R90): `readBack` says whether the cells read back what was written. Where they
do not, the sector is worn: it is copied into a spare with BUSY = 1 throughout, or, with every spare in
use, the write ends with RESULT = STATE (R441). -/
def execCisDataWriteDone (readBack : Bool) (s : State) : Host.Outcome State Fault Refusal :=
  .next (
    if !s.cis.dataBusy || s.cis.remapping.isSome then s
    else if readBack then s.cisDataDone.carry
    else if 164 ≤ s.f Fld.PLB_SPARE_MRAMUSED then (s.setF Fld.CIS_STAT_RESULT rSTATE).cisDataDone.carry
    else { s with cis := { s.cis with remapping := some s.dataSector } }.showCisBusy)

/-- A Cistern sector of the directory: never remapped (R441). -/
def dirSector (n : Nat) : Bool := decide (0xF00 ≤ n ∧ n < 0xF10)

/-- SECTOR_REMAP_DONE (R441): the pair is entered in the remap table, a SECTREP record is written, and the
data write that found the sector worn, if any, is complete. -/
def execSectorRemapDone (sector : Nat) (s : State) : Host.Outcome State Fault Refusal :=
  checked (WellFormed.sectorOk sector) (
    let due := match s.cis.remapping with
      | some k => k == sector
      | none => true
    let used := s.f Fld.PLB_SPARE_MRAMUSED
    if !s.live || !due || dirSector sector || 4096 ≤ sector || 164 ≤ used then s
    else
      let s1 := { s with cis := { s.cis with
        remapping := none, remapTab := s.cis.remapTab ++ [(sector, used)] } }
      let s2 := (s1.setF Fld.PLB_SPARE_MRAMUSED (used + 1)).wearRecord 0x05
        [BitVec.ofNat 32 sector, BitVec.ofNat 32 used]
      let s3 := (s2.raise 212).showCisBusy
      if s.cis.remapping.isSome then s3.cisDataDone.carry else s3)

/-! ### Dips -/

/-- The bit, the count and whether the warning acts, of a rail (R67, R124). -/
def dipBit : DipRail → Field
  | .vio => Fld.PWR_BOW_VIO_BOW | .vcore => Fld.PWR_BOW_VCORE_BOW
def dipCount : DipRail → Field
  | .vio => Fld.PWR_BOW_VIO_CNT | .vcore => Fld.PWR_BOW_VCORE_CNT
def State.dipArmed (s : State) : DipRail → Bool
  | .vio => true | .vcore => s.power.warnArmed

/-- HOLD: the credits are withheld while a dip is present (R415). -/
def State.showHold (s : State) : State := s.setB Fld.RACE_STAT_HOLD s.dip

/-- DIP_WARNING (R69): the rail's bit, BOW, source 1, the counter and the health word. -/
def execDipWarning (rail : DipRail) (s : State) : Host.Outcome State Fault Refusal :=
  .next (
    if !s.live || !s.dipArmed rail || s.fb (dipBit rail) then s
    else
      let s1 := ((s.setF (dipBit rail) 1).setF Fld.PWR_BOW_BOW 1).satAdd (dipCount rail) 1
      ((s1.setF Fld.HLTH_WORD_BOW 1).showHold).raise 1)

/-- DIP_CLEAR (R70, R415): with the last rail's bit, the refusal and the hold end, and the credits held
back return together. -/
def execDipClear (rail : DipRail) (s : State) : Host.Outcome State Fault Refusal :=
  .next (
    if !s.live || !s.fb (dipBit rail) then s
    else
      let s1 := (((s.setF (dipBit rail) 0).setF Fld.PWR_BOW_BOW_CLEAR 1).showHold).raise 2
      if s1.dip then s1
      else
        let n := s1.race.owed
        let s2 := s1.updRace (fun r => { r with owed := 0 })
        (if s2.fb Fld.RACE_STAT_UP then s2.giveCredits n else s2).carry)

end Sys2Proof.Machine
end

