-- ==== Sys2Proof/Machine/FloatOps.lean ====
section
/-!
DEFINITION. Binary32 arithmetic (R141-R143): exact values, one rounding by cw.fcsr.RM, the canonical
NaN and the sticky flags.
-/

namespace Sys2Proof.Machine

/-- A binary32 value: NaN (signalling or not), an infinity, or (-1)^neg × m × 2^(e - 149). -/
inductive FVal where
  | nan (signalling : Bool)
  | inf (neg : Bool)
  | fin (neg : Bool) (m e : Nat)
deriving DecidableEq, Repr

/-- A word as a binary32 value. -/
def fval (w : Word) : FVal :=
  let neg := w.bit 31
  let ex := w.field 23 8
  let fr := w.field 0 23
  if ex = 255 then (if fr = 0 then .inf neg else .nan (!w.bit 22))
  else if ex = 0 then .fin neg fr 0
  else .fin neg (fr + 2 ^ 23) (ex - 1)

/-- The canonical NaN (R141). -/
def canonNaN : Word := 0x7FC00000

/-- The sticky flags as bits of cw.fcsr. -/
def fNX : Nat := 1
def fUF : Nat := 2
def fOF : Nat := 4
def fDZ : Nat := 8
def fNV : Nat := 16

/-- The sign bit as a number. -/
def signBit (neg : Bool) : Nat := if neg then 2 ^ 31 else 0

/-- An infinity. -/
def infW (neg : Bool) : Word := BitVec.ofNat 32 (signBit neg + 0x7F800000)
/-- A zero. -/
def zeroW (neg : Bool) : Word := BitVec.ofNat 32 (signBit neg)

/-- Whether a value with this sign, floor `q` and remainder `r` of `d` rounds away from zero: RM 0
nearest-even, 1 toward zero, 2 toward +infinity, 3 toward -infinity. -/
def roundsUp (rm : Nat) (neg : Bool) (q r d : Nat) : Bool :=
  if rm = 0 then decide (d < 2 * r) || (2 * r == d && q % 2 == 1)
  else if rm = 1 then false
  else if rm = 2 then !neg && r != 0
  else neg && r != 0

/-- `n / d × 2^-k` floored, with remainder and divisor. -/
def scaleDown (n d k : Nat) : Nat × Nat × Nat :=
  let d' := d * 2 ^ k
  (n / d', n % d', d')

/-- What an overflow gives: infinity or the largest finite value, by RM. -/
def overflowW (rm : Nat) (neg : Bool) : Word :=
  let toInf := if rm = 0 then true else if rm = 1 then false else if rm = 2 then !neg else neg
  if toInf then infW neg else BitVec.ofNat 32 (signBit neg + 0x7F7FFFFF)

/-- The value ± (n / d) × 2^-149, n > 0, rounded once (R141): the word and the flags. -/
def roundRat (rm : Nat) (neg : Bool) (n d : Nat) : Word × Nat :=
  -- the weight of the last place: the floor of n / d keeps at most 24 bits
  let q0 := n / d
  let k := Nat.log2 q0 - 23
  let (q, r, d') := scaleDown n d k
  let q1 := if roundsUp rm neg q r d' then q + 1 else q
  let (m, k1) := if q1 = 2 ^ 24 then (2 ^ 23, k + 1) else (q1, k)
  let nx := if r = 0 then 0 else fNX
  if m < 2 ^ 23 then
    -- subnormal or zero
    let uf := if r = 0 then 0 else fUF
    (BitVec.ofNat 32 (signBit neg + m), nx + uf)
  else if 254 ≤ k1 then (overflowW rm neg, fOF + fNX)
  else
    -- tiny before rounding but the least normal number after it
    let wasTiny := decide (q < 2 ^ 23)
    let tinyAfter :=
      -- rounded to 24 bits with an unbounded exponent, still below 2^-126
      let (qq, rr, dd) := scaleDown (2 * n) d 0
      let up := roundsUp rm neg qq rr dd
      decide ((if up then qq + 1 else qq) < 2 ^ 24)
    let uf := if r ≠ 0 ∧ wasTiny ∧ (!Config.tinyAfterRounding || tinyAfter) then fUF else 0
    (BitVec.ofNat 32 (signBit neg + (k1 + 1) * 2 ^ 23 + (m - 2 ^ 23)), nx + uf)

/-- A signed exact number z × 2^-k × 2^-149 rounded; an exact zero takes the sign given. -/
def roundInt (rm : Nat) (zeroNeg : Bool) (z : Int) (d : Nat) : Word × Nat :=
  if z = 0 then (zeroW zeroNeg, 0) else roundRat rm (decide (z < 0)) z.natAbs d

/-- The signed integer m × 2^e of a finite value, in units of 2^-149. -/
def finInt (neg : Bool) (m e : Nat) : Int := if neg then -(m * 2 ^ e : Nat) else (m * 2 ^ e : Nat)

/-- Whether a value is a signalling NaN. -/
def isSNaN : FVal → Bool
  | .nan sg => sg | _ => false
/-- Whether a value is a NaN. -/
def isNaN : FVal → Bool
  | .nan _ => true | _ => false

/-- A NaN result; NV where an operand signals. -/
def nanResult (xs : List FVal) : Word × Nat := (canonNaN, if xs.any isSNaN then fNV else 0)

/-- The sign of an exact zero sum (IEEE 754): that of both operands where they agree, otherwise
minus only when rounding toward -infinity. -/
def zeroSumNeg (rm : Nat) (n1 n2 : Bool) : Bool := if n1 = n2 then n1 else rm == 3

/-- Addition. -/
def fAdd (rm : Nat) (a b : FVal) : Word × Nat :=
  match a, b with
  | .nan _, _ => nanResult [a, b]
  | _, .nan _ => nanResult [a, b]
  | .inf n1, .inf n2 => if n1 = n2 then (infW n1, 0) else (canonNaN, fNV)
  | .inf n1, _ => (infW n1, 0)
  | _, .inf n2 => (infW n2, 0)
  | .fin n1 m1 e1, .fin n2 m2 e2 =>
    roundInt rm (zeroSumNeg rm n1 n2) (finInt n1 m1 e1 + finInt n2 m2 e2) 1

/-- A value with its sign inverted. -/
def fNegV : FVal → FVal
  | .nan sg => .nan sg
  | .inf n => .inf (!n)
  | .fin n m e => .fin (!n) m e

/-- Multiplication. -/
def fMul (rm : Nat) (a b : FVal) : Word × Nat :=
  match a, b with
  | .nan _, _ => nanResult [a, b]
  | _, .nan _ => nanResult [a, b]
  | .inf n1, .inf n2 => (infW (n1 != n2), 0)
  | .inf n1, .fin n2 m _ => if m = 0 then (canonNaN, fNV) else (infW (n1 != n2), 0)
  | .fin n1 m _, .inf n2 => if m = 0 then (canonNaN, fNV) else (infW (n1 != n2), 0)
  | .fin n1 m1 e1, .fin n2 m2 e2 =>
    if m1 = 0 ∨ m2 = 0 then (zeroW (n1 != n2), 0)
    else roundRat rm (n1 != n2) (m1 * m2 * 2 ^ (e1 + e2)) (2 ^ 149)

/-- Division. -/
def fDiv (rm : Nat) (a b : FVal) : Word × Nat :=
  match a, b with
  | .nan _, _ => nanResult [a, b]
  | _, .nan _ => nanResult [a, b]
  | .inf _, .inf _ => (canonNaN, fNV)
  | .inf n1, .fin n2 _ _ => (infW (n1 != n2), 0)
  | .fin n1 _ _, .inf n2 => (zeroW (n1 != n2), 0)
  | .fin n1 m1 e1, .fin n2 m2 e2 =>
    if m2 = 0 then (if m1 = 0 then (canonNaN, fNV) else (infW (n1 != n2), fDZ))
    else if m1 = 0 then (zeroW (n1 != n2), 0)
    else roundRat rm (n1 != n2) (m1 * 2 ^ e1 * 2 ^ 149) (m2 * 2 ^ e2)

/-- The integer square root, bit by bit: `fuel` bits are tried from the top. -/
def isqrtFrom (n : Nat) : Nat → Nat → Nat
  | 0, r => r
  | b + 1, r => if (r + 2 ^ b) * (r + 2 ^ b) ≤ n then isqrtFrom n b (r + 2 ^ b) else isqrtFrom n b r

/-- The floor of the square root. -/
def isqrt (n : Nat) : Nat := isqrtFrom n (Nat.log2 n / 2 + 1) 0

/-- Square root. The root is held with 40 more bits and a sticky half, so it is rounded as if
exact. -/
def fSqrt (rm : Nat) (a : FVal) : Word × Nat :=
  match a with
  | .nan _ => nanResult [a]
  | .inf n => if n then (canonNaN, fNV) else (infW false, 0)
  | .fin n m e =>
    if m = 0 then (zeroW n, 0)
    else if n then (canonNaN, fNV)
    else
      -- sqrt (m 2^e 2^-149) = sqrt (m 2^e 2^149 2^80) 2^-40 in units of 2^-149
      let x := m * 2 ^ e * 2 ^ 149 * 2 ^ 80
      let r := isqrt x
      let r2 := if r * r = x then 2 * r else 2 * r + 1
      roundRat rm false r2 (2 ^ 41)

/-- Fused multiply-add fd + fa × fb, rounded once. -/
def fFma (rm : Nat) (d a b : FVal) : Word × Nat :=
  let prodBad : Bool := match a, b with
    | .inf _, .fin _ m _ => m == 0
    | .fin _ m _, .inf _ => m == 0
    | _, _ => false
  if isNaN a || isNaN b || isNaN d then
    let r := nanResult [a, b, d]
    if prodBad && Config.fmaInvalidOnNaN then (canonNaN, fNV) else r
  else if prodBad then (canonNaN, fNV)
  else
    match d, a, b with
    | .fin n0 m0 e0, .fin n1 m1 e1, .fin n2 m2 e2 =>
      let pn := n1 != n2
      let p : Int := finInt pn (m1 * m2) (e1 + e2)
      let z : Int := finInt n0 m0 e0 * 2 ^ 149 + p
      roundInt rm (zeroSumNeg rm n0 pn) z (2 ^ 149)
    | .inf n0, .fin _ _ _, .fin _ _ _ => (infW n0, 0)
    | .inf n0, a', b' =>
      let pn := (match a' with | .inf n => n | .fin n _ _ => n | .nan _ => false) !=
                (match b' with | .inf n => n | .fin n _ _ => n | .nan _ => false)
      if n0 = pn then (infW n0, 0) else (canonNaN, fNV)
    | _, a', b' =>
      let pn := (match a' with | .inf n => n | .fin n _ _ => n | .nan _ => false) !=
                (match b' with | .inf n => n | .fin n _ _ => n | .nan _ => false)
      (infW pn, 0)

/-- How two values compare: none when unordered. -/
def fCompare (a b : FVal) : Option Ordering :=
  let key : FVal → Option Int := fun v => match v with
    | .nan _ => none
    | .inf n => some (if n then -(2 ^ 300) else 2 ^ 300)
    | .fin n m e => some (finInt n m e)
  match key a, key b with
  | some x, some y => some (compare x y)
  | _, _ => none

/-- FMIN (`least`) and FMAX: a NaN operand yields the other (R142). -/
def fMinMax (least : Bool) (wa wb : Word) : Word × Nat :=
  let a := fval wa
  let b := fval wb
  let nv := if isSNaN a || isSNaN b then fNV else 0
  if isNaN a && isNaN b then (canonNaN, nv)
  else if isNaN a then (wb, nv)
  else if isNaN b then (wa, nv)
  else match fCompare a b with
    | some .lt => (if least then wa else wb, nv)
    | some .gt => (if least then wb else wa, nv)
    | _ => (if wa = wb then wa else if Config.minMaxZero least wa wb then wa else wb, nv)

/-- A finite value rounded to an integer: RM as `roundsUp`; with whether it was inexact. -/
def fToInt (rm : Nat) (neg : Bool) (m e : Nat) : Int × Bool :=
  let (q, r, d) := scaleDown (m * 2 ^ e) 1 149
  let q1 := if roundsUp rm neg q r d then q + 1 else q
  (if neg then -(q1 : Int) else q1, r != 0)

/-- Binary32 to signed integer, saturating; NaN gives 0; NV in both cases (R142). -/
def fCvt (rm : Nat) (a : FVal) : Word × Nat :=
  match a with
  | .nan _ => (0, fNV)
  | .inf n => (if n then 0x80000000 else 0x7FFFFFFF, fNV)
  | .fin n m e =>
    let (z, nx) := fToInt rm n m e
    let r := sat32 z
    (r.1, if r.2 then fNV else if nx then fNX else 0)

/-- Signed integer to binary32. -/
def fOfInt (rm : Nat) (w : Word) : Word × Nat :=
  roundInt rm false (w.toInt * 2 ^ 149) 1

/-- RM of an engine. -/
def EngState.rm (x : EngState) : Nat := x.fcsr.field 8 2

/-- The sticky flags joined into cw.fcsr. -/
def EngState.stick (x : EngState) (fl : Nat) : EngState :=
  { x with fcsr := x.fcsr ||| BitVec.ofNat 32 fl }

/-- FCMP's flags (R143). -/
def fcmpFlags (psw : Word) (c : Option Ordering) : Word :=
  let set (n z cc v : Bool) := setFlag (setFlag (setFlag (setFlag psw 0 n) 1 z) 2 cc) 3 v
  match c with
  | some .lt => set true false false false
  | some .eq => set false true true false
  | some .gt => set false false true false
  | none => set true false false true

end Sys2Proof.Machine
end

