-- ==== Sys2Proof/Machine/CtlOps.lean ====
section
/-!
DEFINITION. The numbers of the control extension (R164-R166): operands as exact integers in the unit of
their form, exact results in Q(√3), and their one rounding and saturation; the angles of R182 and the
shape of a format C instruction (R161, R171).
-/

namespace Sys2Proof.Machine

/-- How many units make 1: 2^31 in Q1.31, 2^149 in binary32. -/
def unitOf (t : Bool) : Nat := if t then 2 ^ 149 else 2 ^ 31

/-- The largest finite binary32 value in its unit. -/
def maxFin : Int := (2 ^ 24 - 1) * 2 ^ 253

/-- An operand in its form, and whether it was a NaN (R165). -/
def operand (t : Bool) (w : Word) : Int × Bool :=
  if !t then (w.toInt, false)
  else match fval w with
    | .nan _ => (0, true)
    | .inf n => (if n then -maxFin else maxFin, false)
    | .fin n m e => (finInt n m e, false)

/-- An exact result: (a + b √3) / (den + 1). -/
structure Surd where
  a : Int
  b : Int
  den : Nat
deriving DecidableEq, Repr

/-- A rational result. -/
def Surd.rat (n : Int) (d : Nat) : Surd := ⟨n, 0, d - 1⟩

/-- The divisor. -/
def Surd.d (x : Surd) : Nat := x.den + 1

/-- The floor of b √3. -/
def sqrt3Floor (b : Int) : Int :=
  if 0 ≤ b then (isqrt (3 * b.natAbs * b.natAbs) : Int)
  else -(isqrt (3 * b.natAbs * b.natAbs) : Int) - 1

/-- The floor of (a + b √3) / d. -/
def surdFloor (a b : Int) (d : Nat) : Int := (a + sqrt3Floor b) / (d : Int)

/-- a + b √3 is negative. -/
def surdNeg (a b : Int) : Bool :=
  if 0 ≤ a ∧ 0 ≤ b then false
  else if a ≤ 0 ∧ b ≤ 0 then a != 0 || b != 0
  else if 0 < a then decide (a * a < 3 * b * b)
  else decide (3 * b * b < a * a)

/-- The nearest integer, halves to even (R164); with b not 0 the value is irrational and no half. -/
def Surd.round (x : Surd) : Int :=
  if x.b = 0 then halfEvenInt x.a x.d
  else surdFloor (2 * x.a + x.d) (2 * x.b) (2 * x.d)

/-- A result of an instruction: its word, whether it saturated or overflowed (Q), and its flags of
cw.fcsr. -/
structure Res where
  w  : Word
  q  : Bool := false
  fl : Nat := 0
deriving DecidableEq, Repr

/-- A binary32 result that overflows is the largest finite value of its sign (R165). -/
def finiteRes (neg : Bool) (r : Word × Nat) : Res :=
  if r.2 / fOF % 2 = 1 then { w := BitVec.ofNat 32 (signBit neg + 0x7F7FFFFF), q := true, fl := fOF + fNX }
  else { w := r.1, fl := r.2 }

/-- An exact value in its form, rounded once and saturated once (R166). An exact zero is +0. -/
def Surd.out (x : Surd) (t : Bool) : Res :=
  if !t then
    let r := sat32 x.round
    { w := r.1, q := r.2 }
  else
    let neg := surdNeg x.a x.b
    if x.a = 0 ∧ x.b = 0 then { w := 0 }
    else if x.b = 0 then finiteRes neg (roundRat 0 neg x.a.natAbs x.d)
    else
      let m := if neg then surdFloor (-x.a * 2 ^ 64) (-x.b * 2 ^ 64) x.d else surdFloor (x.a * 2 ^ 64) (x.b * 2 ^ 64) x.d
      finiteRes neg (roundRat 0 neg (2 * m.toNat + 1) (2 ^ 65))

/-- An exact integer of units as a word of its form. -/
def wordOf (t : Bool) (z : Int) : Word := ((Surd.rat z 1).out t).w

/-! ### Sine and cosine (R182) -/

/-- quarter(v), 0 ≤ v ≤ 2^30, in units of 2^-31. -/
def quarter (v : Nat) : Int :=
  let k : Nat := v / 2 ^ 20
  let f : Nat := v % 2 ^ 20
  if 1024 ≤ k then sineS 1024
  else
    let a : Int := sineS k
    let b : Int := sineS (k + 1)
    halfEvenInt (a * 2 ^ 20 + (b - a) * f) (2 ^ 20)

/-- sine(a). -/
def sine (a : Word) : Int :=
  let q := a.toNat / 2 ^ 30
  let u := a.toNat % 2 ^ 30
  if q = 0 then quarter u
  else if q = 1 then quarter (2 ^ 30 - u)
  else if q = 2 then -quarter u
  else -quarter (2 ^ 30 - u)

/-- cosine(a). -/
def cosine (a : Word) : Int := sine (a + 0x40000000)

/-! ### Format C -/

/-- The engine implements the extension (R161). -/
def hasCtl : Engine → Bool
  | .slu _ => true | .msp0 => true | .msp1 => true | _ => false

/-- The engine is a Sluice engine. -/
def isSluice : Engine → Bool
  | .slu _ => true | _ => false

/-- A register number that is even, and one that is a multiple of 4 (R170). -/
def even (i : BitVec 4) : Bool := !i.getLsbD 0
def quad (i : BitVec 4) : Bool := !i.getLsbD 0 && !i.getLsbD 1

/-- A field of ARG. -/
def argField (arg : BitVec 12) (lo w : Nat) : Nat := arg.toNat / 2 ^ lo % 2 ^ w

/-- Lc, with ARG[11:4] zero. -/
def argLc (arg : BitVec 12) : BitVec 4 := arg.setWidth 4

/-- A format C instruction that acts on its engine's registers. -/
def State.opC (s : State) (o : FmtC) (major : Nat) (ok : Bool) (h : EngState → EngState) : State :=
  s.issueReg o.eng 1 major (hasCtl o.eng && ok) h

/-- A result written to an L register, with Q and cw.fcsr (R167). -/
def EngState.putL (x : EngState) (i : BitVec 4) (r : Res) : EngState :=
  let y := (x.setL i r.w).stick r.fl
  if r.q then { y with psw := setFlag y.psw 4 true } else y

/-- NV where one of the operands read was a NaN (R165). -/
def EngState.nv (x : EngState) (ns : List Bool) : EngState := if ns.any id then x.stick fNV else x

/-- An operand of an instruction in its form. -/
def EngState.val (x : EngState) (t : Bool) (i : BitVec 4) : Int := (operand t (x.getL i)).1

/-- The operand is a NaN. -/
def EngState.isN (x : EngState) (t : Bool) (i : BitVec 4) : Bool := (operand t (x.getL i)).2

/-- c + x × y, over operands in units (R174, R181). -/
def mulAdd (t : Bool) (c x y : Int) : Surd := Surd.rat (c * unitOf t + x * y) (unitOf t)

/-! ### Gain tables (R175, R176) -/

/-- The lane address of word `i` of table `n` in an engine's LUT memory. -/
def lutAddr (e : Engine) (n i : Nat) : Nat := lutBase e + n * 0x108 + 4 * i

/-- Word `i` of table `n` of an engine's LUT memory. -/
def State.lutWord (s : State) (e : Engine) (n i : Nat) : Word := s.memWord (lutAddr e n i)

/-- Of the words that a store in this instant has changed under a LUTG of table `n`, those that it still reads as they
were: each by a free choice (R177). -/
def State.lutOld (s : State) (e : Engine) (n : Nat) : List (Nat × Word) × State :=
  (s.now.lut.filter (fun x => decide (lutAddr e n 0 ≤ x.1 ∧ x.1 < lutAddr e n 66))).foldl
    (fun acc x => let (old, t) := acc.2.takeBit
                  (if old then acc.1 ++ [x] else acc.1, t)) ([], s)

/-- A word of the table as one LUTG reads it. -/
def State.lutSeen (s : State) (e : Engine) (n : Nat) (old : List (Nat × Word)) (i : Nat) : Word :=
  match old.find? (fun x => x.1 == lutAddr e n i) with
  | some x => x.2
  | none => s.lutWord e n i

/-- The breakpoints that the bisection of R176 reads. -/
def bisectReads (x : Int) (pt : Nat → Int) : Nat → Nat → Nat → List Nat
  | 0, _, _ => []
  | fuel + 1, lo, hi =>
    if hi - lo ≤ 1 then []
    else
      let mid := (lo + hi) / 2
      mid :: (if pt mid ≤ x then bisectReads x pt fuel mid hi else bisectReads x pt fuel lo mid)

/-- The words of a table that LUTG reads for x (R176). -/
def lutReads (x : Int) (pt : Nat → Int) : List Nat :=
  if x ≤ pt 0 then [0, 1]
  else if pt 32 ≤ x then [0, 64, 65]
  else
    let lo := bisect x pt 8 0 32
    [0, 64] ++ (bisectReads x pt 8 0 32).map (fun k => 2 * k) ++ [2 * lo, 2 * (lo + 1), 2 * lo + 1] ++
      (if pt (lo + 1) ≤ pt lo then [] else [2 * (lo + 1) + 1])

/-- The words of a table, `word`, that LUTG reads for the input `w`. -/
def lutUsed (t : Bool) (word : Nat → Word) (w : Word) : List Nat :=
  lutReads (operand t w).1 (fun k => (operand t (word (2 * k))).1)

/-- LUTG's result over the words of a table and whether it read a NaN (R176). -/
def lutgOf (t : Bool) (word : Nat → Word) (w : Word) : Res × Bool :=
  let x := operand t w
  let pt (k : Nat) := (operand t (word (2 * k))).1
  let g (k : Nat) := (operand t (word (2 * k + 1))).1
  let r := interpolate x.1 pt g 32
  ((Surd.rat r.1 r.2).out t, x.2 || (lutUsed t word w).any (fun i => (operand t (word i)).2))

/-- LUTG's result over the table in memory. -/
def State.lutg (s : State) (e : Engine) (t : Bool) (n : Nat) (w : Word) : Res × Bool := lutgOf t (s.lutWord e n) w

/-! ### Space vectors (R184) -/

/-- The legs' voltages of SVM, doubled: v × 2 = a + b √3. -/
def svmV (al be : Int) : Fin 3 → Int × Int
  | 0 => (2 * al, 0)
  | 1 => (-al, be)
  | 2 => (-al, -be)

/-- a - b of two numbers of Q(√3). -/
def sub3 (x y : Int × Int) : Int × Int := (x.1 - y.1, x.2 - y.2)

/-- The greatest and the least of three numbers of Q(√3). -/
def extreme (v : Fin 3 → Int × Int) (greatest : Bool) : Int × Int :=
  let better (x y : Int × Int) : Bool :=
    if greatest then surdNeg (sub3 y x).1 (sub3 y x).2 else surdNeg (sub3 x y).1 (sub3 x y).2
  let m := if better (v 1) (v 0) then v 1 else v 0
  if better (v 2) m then v 2 else m

/-- SVM's duty of a leg in its form's unit, and whether the vector is limited. -/
def svmDuty (t : Bool) (al be : Int) (k : Fin 3) : Surd × Bool :=
  let u : Int := unitOf t
  let v := svmV al be
  let hi := extreme v true
  let lo := extreme v false
  let sp := sub3 hi lo
  -- everything doubled: span = sp / 2, v - (hi + lo) / 2 = num / 4
  let num : Int × Int := (2 * (v k).1 - hi.1 - lo.1, 2 * (v k).2 - hi.2 - lo.2)
  let excess : Int × Int := (sp.1 - 2 * u, sp.2)
  if !surdNeg excess.1 excess.2 && excess != (0, 0) then
    -- 1/2 + (num / 4) / (sp / 2) = 1/2 + num / (2 sp), in units of 1/u
    let n := sp.1 * sp.1 - 3 * sp.2 * sp.2
    let p : Int × Int := (num.1 * sp.1 - 3 * num.2 * sp.2, num.2 * sp.1 - num.1 * sp.2)
    let sg : Int := if n < 0 then -1 else 1
    (⟨u * n.natAbs + sg * u * p.1, sg * u * p.2, 2 * n.natAbs - 1⟩, true)
  else (⟨2 * u + num.1, num.2, 3⟩, false)

/-- A duty that rounds to 1 is 0x7FFFFFFF in Q1.31 without Q (R184). -/
def Surd.duty (x : Surd) (t : Bool) : Res := if t then x.out t else { x.out t with q := false }

end Sys2Proof.Machine
end

