-- ==== Sys2Proof/Machine/Control.lean ====
section
/-!
DEFINITION. The control extension (chapter 07): loop registers, numbers, transforms, output, triggers,
oscillation and relay.
-/

namespace Sys2Proof.Machine

/-- MACQ (R174). -/
def execMacq (o : FmtC) (s : State) : Host.Outcome State Fault Refusal :=
  .next (s.opC o 0x18 (o.arg == 0) (fun x =>
    (x.putL o.ld ((mulAdd o.t (x.val o.t o.ld) (x.val o.t o.la) (x.val o.t o.lb)).out o.t)).nv
      [x.isN o.t o.ld, x.isN o.t o.la, x.isN o.t o.lb]))

/-- SATQ: Lb, T and [9:5] must be 0 (R170). -/
def State.satq (s : State) (o : FmtQ) (h : EngState → EngState) : State :=
  s.issueReg o.eng 1 0x18 (hasCtl o.eng && o.lb == 0 && !o.t && o.mid == 0) h

/-- SATQ SHLS (R174). -/
def execSatqShls (o : FmtQ) (s : State) : Host.Outcome State Fault Refusal :=
  .next (s.satq o (fun x =>
    x.putL o.ld ((Surd.rat (x.val false o.la * 2 ^ o.sh.toNat) 1).out false)))

/-- SATQ SHRR (R174). -/
def execSatqShrr (o : FmtQ) (s : State) : Host.Outcome State Fault Refusal :=
  .next (s.satq o (fun x =>
    x.putL o.ld ((Surd.rat (x.val false o.la) (2 ^ o.sh.toNat)).out false)))

/-- SATQ QTOF (R174): 2^-31 is 2^118 units of 2^-149. -/
def execSatqQtof (o : FmtQ) (s : State) : Host.Outcome State Fault Refusal :=
  .next (s.satq o (fun x =>
    x.putL o.ld ((Surd.rat (x.val false o.la * 2 ^ (118 + o.sh.toNat)) 1).out true)))

/-- SATQ FTOQ (R174). -/
def execSatqFtoq (o : FmtQ) (s : State) : Host.Outcome State Fault Refusal :=
  .next (s.satq o (fun x =>
    (x.putL o.ld ((Surd.rat (x.val true o.la) (2 ^ (118 + o.sh.toNat))).out false)).nv [x.isN true o.la]))

/-- LUTG (R176, R177): it never saturates. A word that it reads with an uncorrectable error halts a Sluice engine (R204);
on the pair, which takes no exception here (R171), Ld takes a free value (DESIGN CHOICE, log entry 61). -/
def execLutg (o : FmtC) (s : State) : Host.Outcome State Fault Refusal :=
  let n := argField o.arg 0 6
  .next (s.issue o.eng 1 0x18 (hasCtl o.eng && o.lb == 0 && argField o.arg 6 6 == 0) (fun u0 =>
    let (old, u) := u0.lutOld o.eng n
    let word := u.lutSeen o.eng n old
    let w := (u.eng o.eng).getL o.la
    let used := (lutUsed o.t word w).map (lutAddr o.eng n)
    if used.any (fun a => u.oneCopy o.eng a) then u.eccMismatch o.eng
    else if used.any (fun a => u.bad0 a) then
      match o.eng with
      | .slu k => u.haltSluice k 0xFF
      | _ =>
        let (v, u1) := u.takeWord
        u1.updEng o.eng (fun x => (x.setL o.ld v).next 1)
    else
      let r := lutgOf o.t word w
      u.updEng o.eng (fun x => ((x.putL o.ld r.1).nv [r.2]).next 1)))

/-- LMOV (R173). -/
def execLmov (o : FmtC) (s : State) : Host.Outcome State Fault Refusal :=
  let dir := argField o.arg 10 2
  let n : BitVec 5 := o.arg.setWidth 5
  .next (s.opC o 0x18 (o.la == 0 && o.lb == 0 && !o.t && argField o.arg 5 5 == 0 && (dir ≤ 1 || fOk n)) (fun x =>
    if dir = 0 then x.setL o.ld (x.getG n)
    else if dir = 1 then x.setG n (x.getL o.ld)
    else if dir = 2 then x.setL o.ld (x.getF n)
    else x.setFr n (x.getL o.ld)))

/-- INTH (R178): with SAT = 1 it writes nothing. -/
def execInth (o : FmtC) (s : State) : Host.Outcome State Fault Refusal :=
  .next (s.opC o 0x19 (o.arg == 0) (fun x =>
    if x.psw.bit 5 then x
    else (x.putL o.ld ((mulAdd o.t (x.val o.t o.ld) (x.val o.t o.la) (x.val o.t o.lb)).out o.t)).nv
      [x.isN o.t o.ld, x.isN o.t o.la, x.isN o.t o.lb]))

/-- CLMP (R179). -/
def execClmp (o : FmtC) (s : State) : Host.Outcome State Fault Refusal :=
  .next (s.opC o 0x19 (argField o.arg 4 8 == 0) (fun x =>
    let a := x.val o.t o.la
    let lo := x.val o.t o.lb
    let hi := x.val o.t (argLc o.arg)
    let y := (x.setL o.ld (wordOf o.t (min (max a lo) hi))).nv
      [x.isN o.t o.la, x.isN o.t o.lb, x.isN o.t (argLc o.arg)]
    { y with psw := setFlag y.psw 5 (decide (a < lo) || decide (hi < a)) }))

/-- FFV (R180). -/
def execFfv (o : FmtC) (s : State) : Host.Outcome State Fault Refusal :=
  .next (s.opC o 0x19 (argField o.arg 4 8 == 0) (fun x =>
    let a := x.val o.t o.la
    let nom := x.val o.t o.lb
    let meas := x.val o.t (argLc o.arg)
    let r : Res :=
      if nom ≤ 0 then (Surd.rat 0 1).out o.t
      else if meas ≤ 0 ∨ 4 * meas ≤ nom then { (Surd.rat (4 * a) 1).out o.t with q := true }
      else (Surd.rat (a * nom) meas.toNat).out o.t
    (x.putL o.ld r).nv [x.isN o.t o.la, x.isN o.t o.lb, x.isN o.t (argLc o.arg)]))

/-- FFA (R181). -/
def execFfa (o : FmtC) (s : State) : Host.Outcome State Fault Refusal :=
  .next (s.opC o 0x19 (argField o.arg 4 8 == 0) (fun x =>
    (x.putL o.ld ((mulAdd o.t (x.val o.t o.la) (x.val o.t o.lb) (x.val o.t (argLc o.arg))).out o.t)).nv
      [x.isN o.t o.la, x.isN o.t o.lb, x.isN o.t (argLc o.arg)]))

/-- CLRK (R183): division by √3 is √3 / 3. -/
def execClrk (o : FmtC) (s : State) : Host.Outcome State Fault Refusal :=
  let m3 := argField o.arg 4 1 == 1
  .next (s.opC o 0x1A (even o.ld && argField o.arg 5 7 == 0 && (m3 || argLc o.arg == 0)) (fun x =>
    let a := x.val o.t o.la
    let b := x.val o.t o.lb
    let c := x.val o.t (argLc o.arg)
    let al : Surd := if m3 then ⟨2 * a - b - c, 0, 2⟩ else ⟨a, 0, 0⟩
    let be : Surd := if m3 then ⟨0, b - c, 2⟩ else ⟨0, a + 2 * b, 2⟩
    ((x.putL o.ld (al.out o.t)).putL (o.ld + 1) (be.out o.t)).nv
      [x.isN o.t o.la, x.isN o.t o.lb, m3 && x.isN o.t (argLc o.arg)]))

/-- PARK (R183). -/
def execPark (o : FmtC) (s : State) : Host.Outcome State Fault Refusal :=
  .next (s.opC o 0x1A (even o.ld && even o.la && o.arg == 0) (fun x =>
    let a := x.val o.t o.la
    let b := x.val o.t (o.la + 1)
    let sn := sine (x.getL o.lb)
    let cs := cosine (x.getL o.lb)
    ((x.putL o.ld ((Surd.rat (a * cs + b * sn) (2 ^ 31)).out o.t)).putL (o.ld + 1)
      ((Surd.rat (b * cs - a * sn) (2 ^ 31)).out o.t)).nv [x.isN o.t o.la, x.isN o.t (o.la + 1)]))

/-- IPRK (R183). -/
def execIprk (o : FmtC) (s : State) : Host.Outcome State Fault Refusal :=
  .next (s.opC o 0x1A (even o.ld && even o.la && o.arg == 0) (fun x =>
    let d := x.val o.t o.la
    let q := x.val o.t (o.la + 1)
    let sn := sine (x.getL o.lb)
    let cs := cosine (x.getL o.lb)
    ((x.putL o.ld ((Surd.rat (d * cs - q * sn) (2 ^ 31)).out o.t)).putL (o.ld + 1)
      ((Surd.rat (d * sn + q * cs) (2 ^ 31)).out o.t)).nv [x.isN o.t o.la, x.isN o.t (o.la + 1)]))

/-- SINC (R183). -/
def execSinc (o : FmtC) (s : State) : Host.Outcome State Fault Refusal :=
  .next (s.opC o 0x1A (even o.ld && o.la == 0 && o.arg == 0) (fun x =>
    (x.putL o.ld ((Surd.rat (sine (x.getL o.lb) * unitOf o.t) (2 ^ 31)).out o.t)).putL (o.ld + 1)
      ((Surd.rat (cosine (x.getL o.lb) * unitOf o.t) (2 ^ 31)).out o.t)))

/-- SVM (R184): Ld + 3 keeps its value. -/
def execSvm (o : FmtC) (s : State) : Host.Outcome State Fault Refusal :=
  .next (s.opC o 0x1B (quad o.ld && even o.la && o.lb == 0 && o.arg == 0) (fun x =>
    let a := x.val o.t o.la
    let b := x.val o.t (o.la + 1)
    let u := (svmDuty o.t a b 0).1.duty o.t
    let v := (svmDuty o.t a b 1).1.duty o.t
    let w := (svmDuty o.t a b 2).1.duty o.t
    let y := (((x.putL o.ld u).putL (o.ld + 1) v).putL (o.ld + 2) w).nv
      [x.isN o.t o.la, x.isN o.t (o.la + 1)]
    if (svmDuty o.t a b 0).2 then { y with psw := setFlag y.psw 4 true } else y))

/-- A leg's duty word of EMIT as Q1.31 (R185); a binary32 duty is held to 0-1 and rounded. -/
def emitWord (t : Bool) (w : Word) : Word :=
  if !t then w
  else
    let z := (operand true w).1
    if z ≤ 0 then 0 else ((Surd.rat z (2 ^ 118)).out false).w

/-- The legs that EMIT's MASK selects. -/
def emitLegs (arg : BitVec 12) : List (Fin 3) := legs3.filter (fun k => arg.getLsbD (3 + k.val))

/-- A field as a bridge number. -/
def bridgeOf (n : Nat) : Option (Fin 5) := bridges.find? (fun b => b.val == n)

/-- EMIT (R185, R186, R208). -/
def execEmit (o : FmtC) (s : State) : Host.Outcome State Fault Refusal :=
  let stamp := argField o.arg 6 1 == 1
  let legs := emitLegs o.arg
  let ok := isSluice o.eng && (stamp || o.ld == 0) && decide (o.la.toNat ≤ 13) && o.lb == 0 &&
    argField o.arg 7 5 == 0 && legs != [] && (bridgeOf (argField o.arg 0 3)).isSome
  .next (s.issue o.eng 1 0x1B ok (fun t =>
    match o.eng, bridgeOf (argField o.arg 0 3) with
    | .slu n, some b =>
      let x := t.eng o.eng
      let at_ (k : Fin 3) : BitVec 4 := o.la + BitVec.ofNat 4 k.val
      let t1 := t.updEng o.eng (fun y => y.nv (legs.map (fun k => x.isN o.t (at_ k))))
      if !t1.ownerOk o.eng (0x40200000 + 0x1000 * b.val) then
        t1.refuseOwner.updEng o.eng (fun y => y.next 1)
      else
        let t1' := { t1 with now := { t1.now with emits := t1.now.emits ++ legs.map (fun k => (b, k)) } }
        let t2 := (t1'.newDuties b (legs.map (fun k => (k, emitWord o.t (x.getL (at_ k)))))).measure n
        t2.updEng o.eng (fun y => (if stamp then y.setL o.ld s.tnow else y).next 1)
    | _, _ => t))

/-- WTRG (R187, R199). -/
def execWtrg (o : FmtC) (s : State) : Host.Outcome State Fault Refusal :=
  let mask : BitVec 4 := o.arg.setWidth 4
  let ok := isSluice o.eng && even o.ld && o.la == 0 && o.lb == 0 && !o.t &&
    argField o.arg 4 8 == 0 && mask != 0
  .next (s.issue o.eng 1 0x1B ok (fun t =>
    match o.eng with
    | .slu n =>
      let t1 := (t.showTail n).setF (Fld.SLU_STAT_EVAL n) 0
      match t1.lowestPending n mask with
      | some k => t1.accept n k o.ld
      | none =>
        (((t1.setF (Fld.SLU_STAT_STATE n) 2).setF (Fld.SLU_OVRN_CONS n) 0).updSlu n (fun x =>
          { x with overCnt := 0 })).updEng o.eng (fun y => { y with run := .waitTrig, wtrg := ⟨o.ld, mask⟩ })
    | _ => t))

/-- A suspended WTRG completes (R187, R197, R199). -/
def execTriggerAccept (n : Fin 5) (s : State) : Host.Outcome State Fault Refusal :=
  let e := s.eng (.slu n)
  .next (if s.live && e.run == .waitTrig then
    match s.lowestPending n e.wtrg.mask with
    | some k => s.accept n k e.wtrg.ld
    | none => s
  else s)

/-- The OSCA status word (R188). -/
structure OscStat where
  cnt  : Nat
  pos  : Bool
  arm  : Bool
  trip : Bool
  rem  : Nat
deriving DecidableEq, Repr

/-- A status word read. -/
def oscOf (w : Word) : OscStat := ⟨w.field 0 8, w.bit 8, w.bit 9, w.bit 10, w.field 16 16⟩

/-- A status word written. -/
def oscWord (x : OscStat) : Word :=
  BitVec.ofNat 32 (x.cnt + 2 ^ 8 * Word.ofBool x.pos + 2 ^ 9 * Word.ofBool x.arm +
    2 ^ 10 * Word.ofBool x.trip + 2 ^ 16 * x.rem)

/-- One step of OSCA (R188) over the status, PK, PP and the configuration word: the new status, and what
PK and PP become (none: unchanged). -/
def oscStep (e h pk pp : Int) (cfg : Word) (x : OscStat) : OscStat × Option Int × Option Int :=
  let m : Int := e.natAbs
  let cross := e != 0 && decide (0 < e) != x.pos
  let cnt1 : Nat := if cross && x.arm then
    (if (cfg.field 8 8 : Int) * pp ≤ 256 * pk then min (x.cnt + 1) 255 else 0) else x.cnt
  let pp1 : Option Int := if cross && x.arm then some pk else none
  let pos1 := if cross then decide (0 < e) else x.pos
  let arm1 := (!cross && x.arm) || decide (h < m)
  let pk0 : Int := if cross then 0 else pk
  let pk1 : Option Int := if pk0 < m then some m else if cross then some 0 else none
  let trip1 := x.trip || (cfg.field 0 8 != 0 && decide (cfg.field 0 8 ≤ cnt1))
  let w := cfg.field 16 16
  if w = 0 then (⟨cnt1, pos1, arm1, trip1, x.rem⟩, pk1, pp1)
  else if x.rem ≤ 1 then (⟨0, pos1, arm1, trip1, w⟩, pk1, pp1)
  else (⟨cnt1, pos1, arm1, trip1, x.rem - 1⟩, pk1, pp1)

/-- An L register set to an exact value without Q, where there is one. -/
def EngState.setVal (x : EngState) (t : Bool) (i : BitVec 4) (v : Option Int) : EngState :=
  match v with
  | some z => x.setL i (wordOf t z)
  | none => x

/-- OSCA (R188); a Sluice engine's counts for R211. -/
def execOsca (o : FmtC) (s : State) : Host.Outcome State Fault Refusal :=
  .next (s.issue o.eng 1 0x1C (hasCtl o.eng && quad o.ld && o.arg == 0) (fun u =>
    let u1 := u.updEng o.eng (fun x =>
      let r := oscStep (x.val o.t o.la) (x.val o.t o.lb) (x.val o.t (o.ld + 1)) (x.val o.t (o.ld + 2))
        (x.getL (o.ld + 3)) (oscOf (x.getL o.ld))
      let y := (((x.setL o.ld (oscWord r.1)).setVal o.t (o.ld + 1) r.2.1).setVal o.t (o.ld + 2) r.2.2).nv
        [x.isN o.t o.la, x.isN o.t o.lb, x.isN o.t (o.ld + 1), x.isN o.t (o.ld + 2)]
      { y with psw := setFlag y.psw 1 (!r.1.trip) }.next 1)
    match o.eng with
    | .slu n => u1.updSlu n (fun x => { x with oscaSeen := true })
    | _ => u1))

/-- The RLY status word (R189). -/
def rlyWord (out valid blocked : Bool) (cyc : Nat) : Word :=
  BitVec.ofNat 32 (Word.ofBool out + 2 * Word.ofBool valid + 4 * Word.ofBool blocked + 256 * cyc)

/-- RLY in SERVICE (R189); `t` is the stamp of the trigger accepted last. The unit keeps MX and MN as words of the form T,
which an RLY with another T without START takes in its own form (DESIGN CHOICE, log entry 69). -/
def EngState.rly (x : EngState) (o : FmtC) (t : Word) : EngState :=
  let e := x.val o.t o.la
  let d := x.val o.t o.lb
  let eps : Int := (x.val o.t (argLc o.arg)).natAbs
  let st := x.getL o.ld
  let start := argField o.arg 4 1 == 1
  let ew := wordOf o.t e
  let r := x.relay
  let mx : Int := if start then e else max (operand o.t r.mx).1 e
  let mn : Int := if start then e else min (operand o.t r.mn).1 e
  let rise := !start && !st.bit 0 && decide (eps < e)
  let fall := !start && st.bit 0 && decide (e < -eps)
  let out := if start then decide (0 ≤ e) else rise || (st.bit 0 && !fall)
  let meas := rise && r.have0
  let cyc := if start then 0 else if meas then min (st.field 8 8 + 1) 255 else st.field 8 8
  let valid := !start && (meas || st.bit 1)
  let x1 := x.setL o.ld (rlyWord out valid false cyc)
  let x2 := x1.putL (o.ld + 1) ((Surd.rat (if out then d else -d) 1).out o.t)
  let x3 := if meas then
    (x2.setL (o.ld + 2) (t - r.t0)).putL (o.ld + 3) ((Surd.rat (mx - mn) 2).out o.t) else x2
  { x3 with
    relay :=
      if start then { r with have0 := false, mx := ew, mn := ew }
      else if rise then { t0 := t, have0 := true, mx := ew, mn := ew }
      else { r with mx := wordOf o.t mx, mn := wordOf o.t mn } }

/-- RLY (R189): outside SERVICE it gives 0. -/
def execRly (o : FmtC) (s : State) : Host.Outcome State Fault Refusal :=
  .next (s.issue o.eng 1 0x1C (isSluice o.eng && quad o.ld && argField o.arg 5 7 == 0) (fun u =>
    match o.eng with
    | .slu n => u.updEng o.eng (fun x =>
      let y := if u.md = mSERVICE then x.rly o (u.unit n).t0
        else
          let st := x.getL o.ld
          (x.setL o.ld (rlyWord (st.bit 0) (st.bit 1) true (st.field 8 8))).setL (o.ld + 1) 0
      (y.nv [x.isN o.t o.la, x.isN o.t o.lb, x.isN o.t (argLc o.arg)]).next 1)
    | _ => u))

/-- A lane address in an engine's own local or LUT memory, a Sluice engine's intake page, or shared
memory: what LLD and LST reach (R173). -/
def lReach (e : Engine) (la : Nat) : Bool :=
  match e with
  | .slu n => decide (0x20000000 + n.val * 0x20000 ≤ la) && decide (la < 0x20018100 + n.val * 0x20000)
  | .msp1 => (decide (0x20180000 ≤ la) && decide (la < 0x201C8000)) || (decide (0x10000000 ≤ la) && decide (la < 0x10240000))
  | _ => (decide (0x20100000 ≤ la) && decide (la < 0x20148000)) || (decide (0x10000000 ≤ la) && decide (la < 0x10240000))

/-- Where LLD and LST go: the checks of LDW and STW, then BUS outside their memories (R173). -/
def State.placeL (s : State) (e : Engine) (store : Bool) (addr : Word) : Place :=
  match s.place e store 2 addr with
  | .mem la => if lReach e la then .mem la else .exc { code := 8, info := 1, bad := some addr }
  | .exc c => .exc c
  | .oneCopy => .oneCopy
  | _ => .exc { code := 8, info := 1, bad := some addr }

/-- The address of LLD and LST. -/
def EngState.lAddr (x : EngState) (o : FmtL) : Word := x.getG o.base + BitVec.ofNat 32 (4 * o.off.toNat)

/-- The fields of LLD and LST that must be 0. -/
def lFields (o : FmtL) : Bool := hasCtl o.eng && o.la == 0 && o.lb == 0 && !o.t

/-- LLD (R173). On a Sluice engine a word with an uncorrectable error halts it without an exception (R204). -/
def execLld (o : FmtL) (s : State) : Host.Outcome State Fault Refusal :=
  .next (s.issue o.eng 1 0x1D (lFields o)
    (fun u =>
      match (u.ahead o.eng).placeL o.eng false ((u.eng o.eng).lAddr o) with
      | .mem la =>
        let w := (u.ahead o.eng).memWord la
        (if inPair la then u else u.capture o.eng .load w).updEng o.eng (fun x => (x.setL o.ld w).next 1)
      | .exc c =>
        (match o.eng with
          | .slu n => if c.code = 0x0A then u.haltSluice n 0xFF else u.raiseExc o.eng c
          | _ => u.raiseExc o.eng c)
      | .oneCopy => u.eccMismatch o.eng
      | _ => u)
    (drain := fun u => u.heldReg && (u.locate o.eng ((u.eng o.eng).lAddr o).toNat).outside)
    (wants := fun u => (u.locate o.eng ((u.eng o.eng).lAddr o).toNat).outside))

/-- LST (R173). -/
def execLst (o : FmtL) (s : State) : Host.Outcome State Fault Refusal :=
  .next (s.issue o.eng 1 0x1D (lFields o) (fun u =>
    match (u.ahead o.eng).placeL o.eng true ((u.eng o.eng).lAddr o) with
    | .mem la =>
      let v := ((u.eng o.eng).getL o.ld).toNat
      (if u.holds o.eng la then u.hold (.mem la 4 v) else u.storeMem (some o.eng) la 4 v).updEng o.eng
        (fun x => x.next 1)
    | .exc c => u.raiseExc o.eng c
    | _ => u))

end Sys2Proof.Machine
end

