-- ==== Sys2Proof/Machine/Float.lean ====
section
/-!
DEFINITION. The floating-point instructions of major 0x16 (R142, R143). On an engine without floating
point every one is ILLEGAL (R125), as is a field that names an f register with bit 4 set (R127) or an
unused field that is not 0.
-/

namespace Sys2Proof.Machine

/-- An instruction of major 0x16 that acts on the engine's registers. -/
def State.opF (s : State) (o : FmtA) (ok : Bool) (h : EngState → EngState) : State :=
  s.issueReg o.eng 1 0x16 (hasFpu o.eng && ok) h

/-- An f register written with a result and its flags. -/
def EngState.putF (x : EngState) (d : BitVec 5) (r : Word × Nat) : EngState :=
  (x.setFr d r.1).stick r.2

/-- Two f operands. -/
def State.opF2 (s : State) (o : FmtA) (h : Nat → FVal → FVal → Word × Nat) : State :=
  s.opF o (fOk o.gd && fOk o.ga && fOk o.gb) (fun x =>
    x.putF o.gd (h x.rm (fval (x.getF o.ga)) (fval (x.getF o.gb))))

/-- One f operand; gb is unused. -/
def State.opF1 (s : State) (o : FmtA) (h : Word → Word) : State :=
  s.opF o (fOk o.gd && fOk o.ga && o.gb == 0) (fun x => x.setFr o.gd (h (x.getF o.ga)))

/-- FADD (R142). -/
def execFadd (o : FmtA) (s : State) : Host.Outcome State Fault Refusal := .next (s.opF2 o fAdd)
/-- FSUB (R142). -/
def execFsub (o : FmtA) (s : State) : Host.Outcome State Fault Refusal :=
  .next (s.opF2 o (fun rm a b => fAdd rm a (fNegV b)))
/-- FMUL (R142). -/
def execFmul (o : FmtA) (s : State) : Host.Outcome State Fault Refusal := .next (s.opF2 o fMul)
/-- FDIV (R142). -/
def execFdiv (o : FmtA) (s : State) : Host.Outcome State Fault Refusal := .next (s.opF2 o fDiv)
/-- FSQRT (R142). -/
def execFsqrt (o : FmtA) (s : State) : Host.Outcome State Fault Refusal :=
  .next (s.opF o (fOk o.gd && fOk o.ga && o.gb == 0) (fun x =>
    x.putF o.gd (fSqrt x.rm (fval (x.getF o.ga)))))
/-- FMA (R142). -/
def execFma (o : FmtA) (s : State) : Host.Outcome State Fault Refusal :=
  .next (s.opF2 o (fun rm a b => fFma rm (fval ((s.eng o.eng).getF o.gd)) a b))
/-- FMIN (R142). -/
def execFmin (o : FmtA) (s : State) : Host.Outcome State Fault Refusal :=
  .next (s.opF o (fOk o.gd && fOk o.ga && fOk o.gb) (fun x =>
    x.putF o.gd (fMinMax true (x.getF o.ga) (x.getF o.gb))))
/-- FMAX (R142). -/
def execFmax (o : FmtA) (s : State) : Host.Outcome State Fault Refusal :=
  .next (s.opF o (fOk o.gd && fOk o.ga && fOk o.gb) (fun x =>
    x.putF o.gd (fMinMax false (x.getF o.ga) (x.getF o.gb))))
/-- FABS (R142). -/
def execFabs (o : FmtA) (s : State) : Host.Outcome State Fault Refusal :=
  .next (s.opF1 o (fun w => w &&& 0x7FFFFFFF))
/-- FNEG (R142). -/
def execFneg (o : FmtA) (s : State) : Host.Outcome State Fault Refusal :=
  .next (s.opF1 o (fun w => w ^^^ 0x80000000))
/-- FMOV (R142). -/
def execFmov (o : FmtA) (s : State) : Host.Outcome State Fault Refusal := .next (s.opF1 o (fun w => w))
/-- FCMP: gd is unused (R142, R143). -/
def execFcmp (o : FmtA) (s : State) : Host.Outcome State Fault Refusal :=
  .next (s.opF o (o.gd == 0 && fOk o.ga && fOk o.gb) (fun x =>
    let c := fCompare (fval (x.getF o.ga)) (fval (x.getF o.gb))
    ({ x with psw := fcmpFlags x.psw c }).stick (if c.isNone then fNV else 0)))
/-- FCVTSW (R142). -/
def execFcvtsw (o : FmtA) (s : State) : Host.Outcome State Fault Refusal :=
  .next (s.opF o (fOk o.gd && o.gb == 0) (fun x => x.putF o.gd (fOfInt x.rm (x.getG o.ga))))
/-- FCVTWS (R142). -/
def execFcvtws (o : FmtA) (s : State) : Host.Outcome State Fault Refusal :=
  .next (s.opF o (fOk o.ga && o.gb == 0) (fun x =>
    let r := fCvt x.rm (fval (x.getF o.ga))
    (x.setG o.gd r.1).stick r.2))
/-- FCVTWSZ (R142). -/
def execFcvtwsz (o : FmtA) (s : State) : Host.Outcome State Fault Refusal :=
  .next (s.opF o (fOk o.ga && o.gb == 0) (fun x =>
    let r := fCvt 1 (fval (x.getF o.ga))
    (x.setG o.gd r.1).stick r.2))
/-- FMVWS (R142). -/
def execFmvws (o : FmtA) (s : State) : Host.Outcome State Fault Refusal :=
  .next (s.opF o (fOk o.ga && o.gb == 0) (fun x => x.setG o.gd (x.getF o.ga)))
/-- FMVSW (R142). -/
def execFmvsw (o : FmtA) (s : State) : Host.Outcome State Fault Refusal :=
  .next (s.opF o (fOk o.gd && o.gb == 0) (fun x => x.setFr o.gd (x.getG o.ga)))

end Sys2Proof.Machine
end

