-- ==== Sys2Proof/Machine/Integer.lean ====
section
/-!
DEFINITION. The integer instructions: majors 0x00 to 0x09 (R132-R134) and the long immediates
(R135).
-/

namespace Sys2Proof.Machine

/-- ADD (R132). -/
def execAdd (o : FmtA) (s : State) : Host.Outcome State Fault Refusal := .next (s.opA o (addFlags false))
/-- SUB (R132). -/
def execSub (o : FmtA) (s : State) : Host.Outcome State Fault Refusal := .next (s.opA o (subFlags true))
/-- ADDC (R132). -/
def execAddc (o : FmtA) (s : State) : Host.Outcome State Fault Refusal :=
  .next (s.opA o (fun a b p => addFlags (p.bit 2) a b p))
/-- SUBC (R132). -/
def execSubc (o : FmtA) (s : State) : Host.Outcome State Fault Refusal :=
  .next (s.opA o (fun a b p => subFlags (p.bit 2) a b p))
/-- ADDS (R132). -/
def execAdds (o : FmtA) (s : State) : Host.Outcome State Fault Refusal := .next (s.opA o addsFn)
/-- SUBS (R132). -/
def execSubs (o : FmtA) (s : State) : Host.Outcome State Fault Refusal := .next (s.opA o subsFn)
/-- CMP: gd must be 0 (R132). -/
def execCmp (o : FmtA) (s : State) : Host.Outcome State Fault Refusal :=
  .next (s.issueReg o.eng 1 0 (o.gd == 0) (fun x =>
    x.flagsOnly (subFlags true) (x.getG o.ga) (x.getG o.gb)))
/-- AND (R132). -/
def execAnd (o : FmtA) (s : State) : Host.Outcome State Fault Refusal :=
  .next (s.opA o (nzFn (fun a b => a &&& b)))
/-- OR (R132). -/
def execOr (o : FmtA) (s : State) : Host.Outcome State Fault Refusal :=
  .next (s.opA o (nzFn (fun a b => a ||| b)))
/-- XOR (R132). -/
def execXor (o : FmtA) (s : State) : Host.Outcome State Fault Refusal :=
  .next (s.opA o (nzFn (fun a b => a ^^^ b)))
/-- ANDN (R132). -/
def execAndn (o : FmtA) (s : State) : Host.Outcome State Fault Refusal :=
  .next (s.opA o (nzFn (fun a b => a &&& ~~~b)))
/-- SHL (R132). -/
def execShl (o : FmtA) (s : State) : Host.Outcome State Fault Refusal := .next (s.opA o shlFn)
/-- SHR (R132). -/
def execShr (o : FmtA) (s : State) : Host.Outcome State Fault Refusal := .next (s.opA o shrFn)
/-- SAR (R132). -/
def execSar (o : FmtA) (s : State) : Host.Outcome State Fault Refusal := .next (s.opA o sarFn)
/-- ROR (R132). -/
def execRor (o : FmtA) (s : State) : Host.Outcome State Fault Refusal := .next (s.opA o rorFn)
/-- MUL (R132). -/
def execMul (o : FmtA) (s : State) : Host.Outcome State Fault Refusal :=
  .next (s.opA o (nzFn (fun a b => a * b)))
/-- MULHS (R132). -/
def execMulhs (o : FmtA) (s : State) : Host.Outcome State Fault Refusal := .next (s.opA o (nzFn mulhsW))
/-- MULHU (R132). -/
def execMulhu (o : FmtA) (s : State) : Host.Outcome State Fault Refusal := .next (s.opA o (nzFn mulhuW))
/-- DIV (R132, R133). -/
def execDiv (o : FmtA) (s : State) : Host.Outcome State Fault Refusal := .next (s.opA o divFn)
/-- DIVU (R132, R133). -/
def execDivu (o : FmtA) (s : State) : Host.Outcome State Fault Refusal := .next (s.opA o divuFn)
/-- REM (R132, R133). -/
def execRem (o : FmtA) (s : State) : Host.Outcome State Fault Refusal := .next (s.opA o remFn)
/-- REMU (R132, R133). -/
def execRemu (o : FmtA) (s : State) : Host.Outcome State Fault Refusal := .next (s.opA o remuFn)
/-- MIN (R132). -/
def execMin (o : FmtA) (s : State) : Host.Outcome State Fault Refusal :=
  .next (s.opA o (plainFn (fun a b => if a.slt b then a else b)))
/-- MAX (R132). -/
def execMax (o : FmtA) (s : State) : Host.Outcome State Fault Refusal :=
  .next (s.opA o (plainFn (fun a b => if a.slt b then b else a)))
/-- MINU (R132). -/
def execMinu (o : FmtA) (s : State) : Host.Outcome State Fault Refusal :=
  .next (s.opA o (plainFn (fun a b => if a.ult b then a else b)))
/-- MAXU (R132). -/
def execMaxu (o : FmtA) (s : State) : Host.Outcome State Fault Refusal :=
  .next (s.opA o (plainFn (fun a b => if a.ult b then b else a)))
/-- CLZ (R132). -/
def execClz (o : FmtA) (s : State) : Host.Outcome State Fault Refusal :=
  .next (s.opA1 o (zFn (fun a _ => BitVec.ofNat 32 (clzFrom a 32))))
/-- CTZ (R132). -/
def execCtz (o : FmtA) (s : State) : Host.Outcome State Fault Refusal :=
  .next (s.opA1 o (zFn (fun a _ => BitVec.ofNat 32 (ctzFrom a 0 32))))
/-- POPC (R132). -/
def execPopc (o : FmtA) (s : State) : Host.Outcome State Fault Refusal :=
  .next (s.opA1 o (zFn (fun a _ => BitVec.ofNat 32 (popFrom a 32))))
/-- SEXTB (R132). -/
def execSextb (o : FmtA) (s : State) : Host.Outcome State Fault Refusal :=
  .next (s.opA1 o (nzFn (fun a _ => (a.setWidth 8).signExtend 32)))
/-- SEXTH (R132). -/
def execSexth (o : FmtA) (s : State) : Host.Outcome State Fault Refusal :=
  .next (s.opA1 o (nzFn (fun a _ => (a.setWidth 16).signExtend 32)))
/-- ZEXTH (R132). -/
def execZexth (o : FmtA) (s : State) : Host.Outcome State Fault Refusal :=
  .next (s.opA1 o (nzFn (fun a _ => (a.setWidth 16).setWidth 32)))
/-- REV (R132). -/
def execRev (o : FmtA) (s : State) : Host.Outcome State Fault Refusal :=
  .next (s.opA1 o (plainFn (fun a _ => revW a)))

/-- ADDI (R134). -/
def execAddi (o : FmtI) (s : State) : Host.Outcome State Fault Refusal :=
  .next (s.opI o 1 (addFlags false) (simm17 o.imm))
/-- ANDI (R134). -/
def execAndi (o : FmtI) (s : State) : Host.Outcome State Fault Refusal :=
  .next (s.opI o 2 (nzFn (fun a b => a &&& b)) (simm17 o.imm))
/-- ORI (R134). -/
def execOri (o : FmtI) (s : State) : Host.Outcome State Fault Refusal :=
  .next (s.opI o 3 (nzFn (fun a b => a ||| b)) (simm17 o.imm))
/-- XORI (R134). -/
def execXori (o : FmtI) (s : State) : Host.Outcome State Fault Refusal :=
  .next (s.opI o 4 (nzFn (fun a b => a ^^^ b)) (simm17 o.imm))
/-- SHLI (R134). -/
def execShli (o : FmtSh) (s : State) : Host.Outcome State Fault Refusal := .next (s.opSh o shlFn)
/-- SHRI (R134). -/
def execShri (o : FmtSh) (s : State) : Host.Outcome State Fault Refusal := .next (s.opSh o shrFn)
/-- SARI (R134). -/
def execSari (o : FmtSh) (s : State) : Host.Outcome State Fault Refusal := .next (s.opSh o sarFn)
/-- RORI (R134). -/
def execRori (o : FmtSh) (s : State) : Host.Outcome State Fault Refusal := .next (s.opSh o rorFn)
/-- CMPI: gd must be 0 (R134). -/
def execCmpi (o : FmtI) (s : State) : Host.Outcome State Fault Refusal :=
  .next (s.issueReg o.eng 1 6 (o.gd == 0) (fun x =>
    x.flagsOnly (subFlags true) (x.getG o.ga) (simm17 o.imm)))
/-- LUI: ga must be 0 (R134). -/
def execLui (o : FmtI) (s : State) : Host.Outcome State Fault Refusal :=
  .next (s.issueReg o.eng 1 7 (o.ga == 0) (fun x => x.setG o.gd (uimm17 o.imm <<< 15)))
/-- MULI (R134). -/
def execMuli (o : FmtI) (s : State) : Host.Outcome State Fault Refusal :=
  .next (s.opI o 8 (nzFn (fun a b => a * b)) (simm17 o.imm))
/-- CMPUI: gd must be 0 (R134). -/
def execCmpui (o : FmtI) (s : State) : Host.Outcome State Fault Refusal :=
  .next (s.issueReg o.eng 1 9 (o.gd == 0) (fun x =>
    x.flagsOnly (subFlags true) (x.getG o.ga) (uimm17 o.imm)))

/-- LI: ga must be 0 (R135). -/
def execLi (o : FmtLI) (s : State) : Host.Outcome State Fault Refusal :=
  .next (s.opLI o (o.ga == 0) (fun x => x.setG o.gd o.imm))
/-- ADDLI (R135). -/
def execAddli (o : FmtLI) (s : State) : Host.Outcome State Fault Refusal :=
  .next (s.opLI o true (fun x => x.alu (addFlags false) o.gd (x.getG o.ga) o.imm))
/-- ANDLI (R135). -/
def execAndli (o : FmtLI) (s : State) : Host.Outcome State Fault Refusal :=
  .next (s.opLI o true (fun x => x.alu (nzFn (fun a b => a &&& b)) o.gd (x.getG o.ga) o.imm))
/-- ORLI (R135). -/
def execOrli (o : FmtLI) (s : State) : Host.Outcome State Fault Refusal :=
  .next (s.opLI o true (fun x => x.alu (nzFn (fun a b => a ||| b)) o.gd (x.getG o.ga) o.imm))
/-- XORLI (R135). -/
def execXorli (o : FmtLI) (s : State) : Host.Outcome State Fault Refusal :=
  .next (s.opLI o true (fun x => x.alu (nzFn (fun a b => a ^^^ b)) o.gd (x.getG o.ga) o.imm))
/-- CMPLI: gd must be 0 (R135). -/
def execCmpli (o : FmtLI) (s : State) : Host.Outcome State Fault Refusal :=
  .next (s.opLI o (o.gd == 0) (fun x => x.flagsOnly (subFlags true) (x.getG o.ga) o.imm))
/-- FLI: ga must be 0; on an engine without floating point it is ILLEGAL (R125, R135). -/
def execFli (o : FmtLI) (s : State) : Host.Outcome State Fault Refusal :=
  .next (s.opLI o (o.ga == 0 && hasFpu o.eng && fOk o.gd) (fun x => x.setFr o.gd o.imm))

end Sys2Proof.Machine
end

