-- ==== Sys2Proof/Machine/Read.lean ====
section
/-!
DEFINITION. What a register read returns (R8, R104): the stored word, with the fields that show the
present state of a unit. A field that shows an analog quantity or an instant that no command fixes is a
free value (DESIGN CHOICE, log entry 35).
-/

namespace Sys2Proof.Machine

/-- A word with a field set. -/
def withF (w : Word) (x : Field) (v : Nat) : Word := w.put x.lo x.w v

/-- A word with a one-bit field set. -/
def withB (w : Word) (x : Field) (b : Bool) : Word := withF w x (Word.ofBool b)

/-- SYS_ID. -/
def State.viewId (s : State) : Word :=
  withF (withF (s.reg Reg.SYS_ID) Fld.SYS_ID_LANE (laneCode s.lane)) Fld.SYS_ID_VARIANT
    (match s.variant with | .fpx3 => 3 | .fpx2 => 2)

/-- PWR_GOV. -/
def State.viewGov (s : State) : Word :=
  withB (s.reg Reg.PWR_GOV) Fld.PWR_GOV_AT_CEIL (s.govTarget == s.f Fld.PWR_GOV_CEIL)

/-- CIS_VERCMP: the lane's own bits read 1. -/
def State.viewVercmp (s : State) : Word :=
  let i := (laneIdx s.lane).val
  s.reg Reg.CIS_VERCMP ||| BitVec.ofNat 32 (2 ^ i + 2 ^ (4 + i))

/-- PWMSTAT but for POS. -/
def State.viewPwm (s : State) (b : Fin 5) : Word :=
  withB (s.reg (Reg.BRG_PWMSTAT b)) (Fld.BRG_PWMSTAT_CFGERR b) (s.cfgErr b)

/-- DRV_STAT but for CP_OK and VMOT. -/
def State.viewDrv (s : State) : Word :=
  withB (withB (withB (s.reg Reg.DRV_STAT) Fld.DRV_STAT_ENA s.drv.ena) Fld.DRV_STAT_VDRV_OK s.drv.vdrvOk)
    Fld.DRV_STAT_FAULT_LOW s.faultLow

/-- A pair's code in SAFE_STAT.STATE. -/
def State.pairCode (s : State) (i : Fin 4) : Nat :=
  if !s.pairUsed i then 0
  else match s.pairRead i with
    | some .demand => 1
    | some .equal => 2
    | _ => 0

/-- SAFE_STAT. -/
def State.viewSafe (s : State) : Word :=
  let st := pairs.foldl (fun acc i => acc + s.pairCode i * 4 ^ i.val) 0
  let out := Word.ofBool (s.outOn 0) + 2 * Word.ofBool (s.outOn 1)
  withF (withB (withB (withB (withF (s.reg Reg.SAFE_STAT) Fld.SAFE_STAT_STATE st)
    Fld.SAFE_STAT_STOPDEM s.stopDem) Fld.SAFE_STAT_OK s.safeOk) Fld.SAFE_STAT_PARKED s.parked)
    Fld.SAFE_STAT_OUT out

/-- The filtered levels of SAFE_LINE; a line that has no level yet reads 0. -/
def State.viewLines (s : State) : Nat :=
  (List.range 9).foldl (fun acc i => if s.safe.levels[i]? = some (some true) then acc + 2 ^ i else acc) 0

/-- The commanded levels of SOUT0_A, SOUT0_B, SOUT1_A, SOUT1_B (R404); before SEAL as R47 gives. -/
def State.viewOuts (s : State) : Nat :=
  (if s.outOn 0 then 1 else 2) + 4 * (if s.outOn 1 then 1 else 2)

/-- SLU[n].TAIL: the engine itself reads its own latest store (R158, R209). -/
def State.viewTail (s : State) (e : Engine) (a : Nat) : Word :=
  let n := fin5 ((a - 0x40100000) / 0x10000)
  if e = .slu n then Cells.get (fun _ => s.reg a) s.slu[n.val].tailBuf ((a % 0x10000 - 0x200) / 4) else s.reg a

/-- What a read of a register shows, where its chapter fixes it. -/
def State.view (s : State) (e : Engine) (a : Nat) : Word :=
  if a = Reg.SYS_ID then s.viewId
  else if a = Reg.SYS_TBSEL then withB (s.reg a) Fld.SYS_TBSEL_KSYNC s.ksync
  else if a = Reg.SYS_UPDSTAT then withF (s.reg a) Fld.SYS_UPDSTAT_PEND s.pendGroups
  else if a = Reg.PWR_GOV then s.viewGov
  else if a = Reg.CIS_VERCMP then s.viewVercmp
  else if 0x40040000 ≤ a ∧ a < 0x4004001C then s.pendWord ((a - 0x40040000) / 4)
  else if 0x40040100 ≤ a ∧ a < 0x40040200 ∧ (a - 0x40040100) % 0x40 = 0x20 then
    BitVec.ofNat 32 (s.catSum ((a - 0x40040100) / 0x40))
  else if 0x40040400 ≤ a ∧ a < 0x40040780 then
    withB (s.reg a) (Fld.CAT_CNT_LEVEL ((a - 0x40040400) / 4)) (isLevel ((a - 0x40040400) / 4))
  else if a = Reg.WHD_SYNC then BitVec.ofNat 32 (Word.ofBool (!s.whd.posted.isEmpty))
  else if 0x40100000 ≤ a ∧ a < 0x40150000 ∧ 0x200 ≤ a % 0x10000 ∧ a % 0x10000 < 0x240 then s.viewTail e a
  else if 0x40200000 ≤ a ∧ a < 0x40205000 ∧ a % 0x1000 = 0x40 then s.viewPwm (fin5 ((a - 0x40200000) / 0x1000))
  else if a = Reg.DRV_STAT then s.viewDrv
  else if 0x40280040 ≤ a ∧ a < 0x40280054 then s.viewLatch (fin5 ((a - 0x40280040) / 4))
  else if 0x40300000 ≤ a ∧ a < 0x40306000 ∧ a % 0x1000 = 0x24 then s.cogAngle (fin6 ((a - 0x40300000) / 0x1000))
  else if 0x40300000 ≤ a ∧ a < 0x40306000 ∧ a % 0x1000 = 0x28 then s.cogSpeed (fin6 ((a - 0x40300000) / 0x1000))
  else if 0x40300000 ≤ a ∧ a < 0x40306000 ∧ a % 0x1000 = 0x2C then
    withB (s.reg a) (Fld.COG_STAT_CFGERR (fin6 ((a - 0x40300000) / 0x1000))) (s.cogBad (fin6 ((a - 0x40300000) / 0x1000)))
  else if a = Reg.LEAT_LINK then withF (s.reg a) Fld.LEAT_LINK_CONN s.connBits
  else if a = Reg.LEAT_ROLE then
    withF (withB (s.reg a) Fld.LEAT_ROLE_ELIG s.eligible) Fld.LEAT_ROLE_DRIVING s.drivingBits
  else if a = Reg.SAFE_STAT then s.viewSafe
  else if a = Reg.SAFE_LINE then BitVec.ofNat 32 s.viewLines
  else if 0x40680080 ≤ a ∧ a < 0x406800CC then
    withF (s.reg a) (Fld.PLB_ROWS_SPARES ((a - 0x40680080) / 4)) (rowSpares ((a - 0x40680080) / 4))
  else if a = Reg.HLTH_WORD then s.healthWord
  else s.reg a

/-- A field of a read's word filled with a free value reduced by `h`. -/
def State.freeField (s : State) (w : Word) (x : Field) (h : Nat → Nat) : Word × State :=
  let (v, s1) := s.takeWord
  (withF w x (h v.toNat), s1)

/-- POS of a running period counter: not before what the period has reached; of one that stands, 0. -/
def State.readPos (s : State) (b : Fin 5) : Word × State :=
  let w := s.viewPwm b
  if !(s.bridge b).counting then (w, s)
  else
    let lo := (s.bridge b).posLo
    let per := max 10240 (s.f (Fld.BRG_PER_PER b))
    let (v, s1) := s.takeWord
    let p := lo + v.toNat % (per - lo + (if per ≤ lo then 1 else 0))
    (withF w (Fld.BRG_PWMSTAT_POS b) p, s1.updBrg b (fun x => { x with posLo := p }))

/-- SOUT of SAFE_LINE: the readback follows the command unless the output has a readback fault, with which
it may read anything (R405). -/
def State.readLine (s : State) : Word × State :=
  let w := s.view .msp0 Reg.SAFE_LINE
  if s.fb Fld.SAFE_STAT_RBF then s.freeField w Fld.SAFE_LINE_SOUT id
  else (withF w Fld.SAFE_LINE_SOUT s.viewOuts, s)

/-- A register read by an engine, with the state after it. -/
def State.readReg (s : State) (e : Engine) (a : Nat) : Word × State :=
  if (kindAt a).isNone then (0, s)
  else if a = Reg.CIS_DATA then s.cisRead
  else if a = Reg.SAFE_LINE then s.readLine
  else if 0x40200000 ≤ a ∧ a < 0x40205000 ∧ a % 0x1000 = 0x40 then s.readPos (fin5 ((a - 0x40200000) / 0x1000))
  else if 0x40200000 ≤ a ∧ a < 0x40205000 ∧ (a % 0x1000 = 0x844 ∨ a % 0x1000 = 0x854 ∨ a % 0x1000 = 0x864) then
    s.freeField (s.reg a) ⟨a, 2, 1⟩ id
  else if a = Reg.DRV_STAT then
    let (w, s1) := s.freeField s.viewDrv Fld.DRV_STAT_VMOT id
    s1.freeField w Fld.DRV_STAT_CP_OK id
  else if a = Reg.KNR_TIME ∧ s.knrState ≠ 0 then s.freeField (s.reg a) Fld.KNR_TIME_MT (fun v => v % max 1 (s.f Fld.KNR_CFG0_TL))
  else (s.view e a, s)

end Sys2Proof.Machine
end

