-- ==== Sys2Proof/Machine/Memory.lean ====
section
/-!
DEFINITION. Loads and stores (R137, R138), atomics and barriers (R144, R158-R160). One command takes
effect after the other, so every access is visible before the next (DEDUCED, log entry 36).
-/

namespace Sys2Proof.Machine

/-- What a load of the pair waits for (R105, R159): a register read for every held action, another outside access for a held
register write (log entry 68). -/
def State.drainLoad (s : State) (e : Engine) (addr : Word) : Bool :=
  match s.locate e addr.toNat with
  | .regs => true
  | l => l.outside && s.heldReg

/-- A load of a number of size code `size`, handed to `h`. A Flume transfer that the regions refuse is
abandoned with its source (R97). -/
def State.loadWith (s : State) (e : Engine) (size : Nat) (addr : Word) (h : EngState → Nat → EngState) : State :=
  let take (t : State) (v : Nat) : State :=
    let u := if (s.locate e addr.toNat).outside then t.capture e .load (BitVec.ofNat 32 v) else t
    u.updEng e (fun x => (h x v).next 1)
  match (s.ahead e).place e false size addr with
  | .exc c => s.raiseExc e c
  | .dropped n => (s.raise n).updEng e (fun x => x.next 1)
  | .mem la => take s ((s.ahead e).memNum la (bytesOf size))
  | .regs a =>
    let r := s.readReg e a
    take r.2 r.1.toNat
  | .zero => take s 0
  | .oneCopy => s.eccMismatch e

/-- An instruction retires, unless what it did has put the lane in reset. -/
def State.retire1 (s : State) (e : Engine) : State :=
  if s.live then s.updEng e (fun x => x.next 1) else s

/-- The privilege check of a store, which comes before its alignment (R154). -/
def State.storePriv (s : State) (e : Engine) (addr v : Word) : Option Exc :=
  let a := wordBase addr.toNat
  match s.locate e addr.toNat with
  | .regs => match s.regRule e a v with
    | .priv => some { code := 2, info := 3, bad := some (BitVec.ofNat 32 a) }
    | .done _ => none
  | _ => none

/-- A store of the low bytes of `v`. A word store to the register space is a register write; what leaves the pair is held
(R219). -/
def State.storeWith (s : State) (e : Engine) (size : Nat) (addr v : Word) : State :=
  if s.locate e addr.toNat = .regs ∧ size = 2 ∧ addr.toNat % 4 = 0 then
    match s.regStore e addr.toNat v with
    | .inl t => (if s.paired e then s.hold (.reg addr.toNat v (s.super e)) else t).retire1 e
    | .inr c => s.raiseExc e c
  else
    match (s.ahead e).place e true size addr with
    | .exc c => s.raiseExc e c
    | .dropped n => (s.raise n).retire1 e
    | .mem la =>
      (if s.holds e la then s.hold (.mem la (bytesOf size) v.toNat)
       else s.storeMem (some e) la (bytesOf size) v.toNat).retire1 e
    | .regs _ => s.retire1 e
    | .zero => s.retire1 e
    | .oneCopy => s.eccMismatch e

/-- A number of `n` bits, sign-extended. -/
def sextW (n v : Nat) : Word := BitVec.ofInt 32 ((BitVec.ofNat n v).toInt)

/-- Loads write gd sign-extended or zero-extended. -/
def loadS (size : Nat) (d : BitVec 5) (x : EngState) (v : Nat) : EngState :=
  x.setG d (sextW (8 * bytesOf size) v)
def loadU (d : BitVec 5) (x : EngState) (v : Nat) : EngState := x.setG d (BitVec.ofNat 32 v)

/-- The address of format M. -/
def EngState.addrM (x : EngState) (o : FmtM) : Word := x.getG o.ga + simm14 o.off

/-- One load instruction: the address and what the engine takes. -/
def State.loadI (s : State) (e : Engine) (major size : Nat) (ok : Bool) (a : EngState → Word)
    (h : EngState → Nat → EngState) : State :=
  s.issue e 1 major ok (fun t => t.loadWith e size (a (t.eng e)) h)
    (drain := fun t => t.drainLoad e (a (t.eng e)))
    (wants := fun t => (t.locate e (a (t.eng e)).toNat).outside)

/-- One store instruction: the address and the word stored. -/
def State.storeI (s : State) (e : Engine) (major size : Nat) (ok : Bool) (a v : EngState → Word) : State :=
  s.issue e 1 major ok (fun t => t.storeWith e size (a (t.eng e)) (v (t.eng e)))
    (priv := fun t => t.storePriv e (a (t.eng e)) (v (t.eng e)))

/-- A load of format M. -/
def State.loadM (s : State) (o : FmtM) (major size : Nat) (ok : Bool) (h : EngState → Nat → EngState) : State :=
  s.loadI o.eng major size ok (fun x => x.addrM o) h

/-- A store of format M. -/
def State.storeM (s : State) (o : FmtM) (major size : Nat) (ok : Bool) (v : EngState → Word) : State :=
  s.storeI o.eng major size ok (fun x => x.addrM o) v

/-- LDB (R137). -/
def execLdb (o : FmtM) (s : State) : Host.Outcome State Fault Refusal := .next (s.loadM o 0x10 0 true (loadS 0 o.gd))
/-- LDBU (R137). -/
def execLdbu (o : FmtM) (s : State) : Host.Outcome State Fault Refusal := .next (s.loadM o 0x10 0 true (loadU o.gd))
/-- LDH (R137). -/
def execLdh (o : FmtM) (s : State) : Host.Outcome State Fault Refusal := .next (s.loadM o 0x10 1 true (loadS 1 o.gd))
/-- LDHU (R137). -/
def execLdhu (o : FmtM) (s : State) : Host.Outcome State Fault Refusal := .next (s.loadM o 0x10 1 true (loadU o.gd))
/-- LDW: U = 1 raises ILLEGAL (R137). -/
def execLdw (o : FmtM) (bit14 : Bool) (s : State) : Host.Outcome State Fault Refusal :=
  .next (s.loadM o 0x10 2 (!bit14) (loadU o.gd))
/-- STB (R137). -/
def execStb (o : FmtM) (bit14 : Bool) (s : State) : Host.Outcome State Fault Refusal :=
  .next (s.storeM o 0x11 0 (!bit14) (fun x => x.getG o.gd))
/-- STH (R137). -/
def execSth (o : FmtM) (bit14 : Bool) (s : State) : Host.Outcome State Fault Refusal :=
  .next (s.storeM o 0x11 1 (!bit14) (fun x => x.getG o.gd))
/-- STW (R137). -/
def execStw (o : FmtM) (bit14 : Bool) (s : State) : Host.Outcome State Fault Refusal :=
  .next (s.storeM o 0x11 2 (!bit14) (fun x => x.getG o.gd))
/-- FLD (R125, R127, R137). -/
def execFld (o : FmtM) (size : BitVec 2) (s : State) : Host.Outcome State Fault Refusal :=
  .next (s.loadM o 0x12 2 (hasFpu o.eng && fOk o.gd && size == 2) (fun x v => x.setFr o.gd (BitVec.ofNat 32 v)))
/-- FST (R125, R127, R137). -/
def execFst (o : FmtM) (size : BitVec 2) (s : State) : Host.Outcome State Fault Refusal :=
  .next (s.storeM o 0x12 2 (hasFpu o.eng && fOk o.gd && size == 2) (fun x => x.getF o.gd))

/-- The address of major 0x13. -/
def EngState.addrX (x : EngState) (o : FmtX) : Word := x.getG o.ga + (x.getG o.gb <<< o.sc.toNat)

/-- LDX (R137). -/
def execLdx (o : FmtX) (s : State) : Host.Outcome State Fault Refusal :=
  .next (s.loadI o.eng 0x13 o.size.toNat (o.size != 3 && o.hi == 0) (fun x => x.addrX o) (loadS o.size.toNat o.gd))
/-- LDXU: a word is not zero-extended (R137). -/
def execLdxu (o : FmtX) (s : State) : Host.Outcome State Fault Refusal :=
  .next (s.loadI o.eng 0x13 o.size.toNat (o.size.toNat < 2 && o.hi == 0) (fun x => x.addrX o) (loadU o.gd))
/-- STX: U must be 0, as in major 0x11 (R137). -/
def execStx (o : FmtX) (u : Bool) (s : State) : Host.Outcome State Fault Refusal :=
  .next (s.storeI o.eng 0x13 o.size.toNat (o.size != 3 && !u && o.hi == 0) (fun x => x.addrX o) (fun x => x.getG o.gd))

/-! ### Atomics and barriers (R144, R159, R160) -/

/-- LDA (R144). -/
def execLda (o : FmtA) (s : State) : Host.Outcome State Fault Refusal :=
  .next (s.loadI o.eng 0x17 2 (o.gb == 0) (fun x => x.getG o.ga) (loadU o.gd))
/-- STR (R144). -/
def execStr (o : FmtA) (s : State) : Host.Outcome State Fault Refusal :=
  .next (s.storeI o.eng 0x17 2 (o.gd == 0) (fun x => x.getG o.ga) (fun x => x.getG o.gb))

/-- Where an atomic goes, with its checks in the order of R154: alignment; the regions, which must grant its read and its
write, a compare that fails included, LOAD_PROT telling of the read (DESIGN CHOICE, log entry 69); ATOMIC outside shared
memory; and a word with an uncorrectable error, which it reads. -/
def State.placeAtomic (s : State) (e : Engine) (addr : Word) : Place :=
  let a := addr.toNat
  let l := s.locate e a
  if a % 4 ≠ 0 then (if e = .flume ∧ l = .regs then .dropped 11 else .exc { code := 7, info := 2, bad := some addr })
  else if l.checked && !(s.permits e .rd a && s.permits e .wr a) then
    (if e = .flume then .dropped 11
     else .exc { code := if s.permits e .rd a then 5 else 4, bad := some addr })
  else match l with
    | .mem la true _ _ => if s.bad0 la then .exc { code := 0x0A, info := 1, bad := some addr } else .mem la
    | _ => .exc { code := 9, bad := some addr }

/-- An atomic: `f` gives the word stored from the word read, `h` what the engine takes. -/
def State.atomic (s : State) (e : Engine) (addr : Word) (f : Word → Word) (h : EngState → Word → EngState) :
    State :=
  match s.placeAtomic e addr with
  | .exc c => s.raiseExc e c
  | .mem la =>
    let old := s.memWord la
    ((s.storeMem (some e) la 4 (f old).toNat).capture e .atomic old).updEng e (fun x => (h x old).next 1)
  | .dropped n => (s.raise n).updEng e (fun x => x.next 1)
  | _ => s

/-- An atomic is performed once, at core 0's access, after everything that the pair holds (R159, R216). -/
def State.atomicI (s : State) (o : FmtA) (f : EngState → Word → Word) (h : EngState → Word → EngState) : State :=
  s.issue o.eng 1 0x17 true (fun t => t.atomic o.eng ((t.eng o.eng).getG o.ga) (f (t.eng o.eng)) h)
    (drain := fun _ => true) (wants := fun _ => true)

/-- SWAP (R144). -/
def execSwap (o : FmtA) (s : State) : Host.Outcome State Fault Refusal :=
  .next (s.atomicI o (fun x _ => x.getG o.gb) (fun x old => x.setG o.gd old))
/-- CAS (R144). -/
def execCas (o : FmtA) (s : State) : Host.Outcome State Fault Refusal :=
  .next (s.atomicI o (fun x old => if old = x.getG o.gd then x.getG o.gb else old)
    (fun x old => { x.setG o.gd old with psw := x.psw.put 1 1 (Word.ofBool (old == x.getG o.gd)) }))

/-- The fields of a barrier are 0. -/
def noFields (o : FmtA) : Bool := o.gd == 0 && o.ga == 0 && o.gb == 0

/-- A barrier: what the pair holds is performed first (R159). -/
def State.barrier (s : State) (o : FmtA) : State :=
  s.issue o.eng 1 0x17 (noFields o) (fun t => t.updEng o.eng (fun x => x.next 1)) (drain := fun _ => true)

/-- FENCE (R159). -/
def execFence (o : FmtA) (s : State) : Host.Outcome State Fault Refusal := .next (s.barrier o)
/-- IFENCE (R160). -/
def execIfence (o : FmtA) (s : State) : Host.Outcome State Fault Refusal := .next (s.barrier o)

end Sys2Proof.Machine
end

