-- ==== Sys2Proof/Machine/System.lean ====
section
/-!
DEFINITION. The system instructions (R145-R150, R157) and the control words (R148).
-/

namespace Sys2Proof.Machine

/-! ### Control words (R148) -/

/-- A control word's number is in the table; cw.fcsr is not on the Flume engine. -/
def cwExists (e : Engine) (n : Nat) : Bool :=
  decide (n ≤ 6) || (n == 8 && hasFpu e) || (decide (0x10 ≤ n) && decide (n ≤ 0x12))

/-- The words that raise PRIV at task level. -/
def cwPriv (n : Nat) : Bool := decide (1 ≤ n) && decide (n ≤ 6)

/-- cw.engine. -/
def engineWord (l : Lane) (e : Engine) : Word :=
  let kind : Nat := match e with
    | .msp0 => 1 | .msp1 => 2 | .slu _ => 3 | .miller => 4 | .flume => 5
  let idx : Nat := match e with
    | .slu n => n.val | _ => 0
  BitVec.ofNat 32 (kind + 2 ^ 4 * idx + 2 ^ 8 * laneCode l + 2 ^ 12 * Word.ofBool (hasCtl e) +
    2 ^ 13 * Word.ofBool (hasFpu e) + 2 ^ 14 * Word.ofBool (twoLevel e))

/-- A control word read. -/
def State.cw (s : State) (e : Engine) (n : Nat) : Word :=
  let x := s.eng e
  if n = 0 then x.psw
  else if n = 1 then x.epsw
  else if n = 2 then x.epc
  else if n = 3 then x.cause
  else if n = 4 then x.badaddr
  else if n = 5 then x.vec
  else if n = 6 then x.scratch
  else if n = 8 then x.fcsr
  else if n = 0x10 then engineWord s.lane e
  else if n = 0x11 then x.retired
  else s.tnow

/-- The defined bits of PSW (R127). -/
def pswBits : Word := 0x73F

/-- cw.psw written: at task level [5:0] only; at supervisor level PRIV stays 1, since code moves to task level only
through RETT (R150; log entry 21), as it does on a one-level engine (R127). -/
def EngState.putPsw (x : EngState) (v : Word) : EngState :=
  if !x.psw.bit 9 then { x with psw := (x.psw &&& ~~~(0x3F : Word)) ||| (v &&& 0x3F) }
  else { x with psw := (v &&& pswBits).put 9 1 1 }

/-- A control word written: a read-only one ignores it. -/
def EngState.putCw (x : EngState) (two : Bool) (n : Nat) (v : Word) : EngState :=
  if n = 0 then x.putPsw v
  else if n = 1 then { x with epsw := if two then v &&& pswBits else (v &&& pswBits).put 9 1 1 }
  else if n = 2 then { x with epc := v }
  else if n = 3 then { x with cause := v &&& 0x800FFFFF }
  else if n = 5 then { x with vec := v &&& 0xFFFFFF00 }
  else if n = 6 then { x with scratch := v }
  else if n = 8 then { x with fcsr := v &&& 0x31F }
  else x

/-- CWR (R145, R148). A read of cw.tnow is an asynchronous input (R216). -/
def execCwr (o : FmtS) (s : State) : Host.Outcome State Fault Refusal :=
  let n : Nat := o.num.toNat
  .next (s.issue o.eng 1 0x1E (o.ga == 0 && cwExists o.eng n)
    (fun t =>
      let u := if n = 0x12 then t.capture o.eng .tnow t.tnow else t
      u.updEng o.eng (fun x => (x.setG o.gd (u.cw o.eng n)).next 1))
    (priv := fun t => if cwPriv n then t.needsSuper o.eng 2 else none)
    (wants := fun _ => n == 0x12))
/-- CWW (R145, R148, R150). -/
def execCww (o : FmtS) (s : State) : Host.Outcome State Fault Refusal :=
  let n : Nat := o.num.toNat
  .next (s.issue o.eng 1 0x1E (o.gd == 0 && cwExists o.eng n)
    (fun t => t.updEng o.eng (fun x => (x.putCw (twoLevel o.eng) n (x.getG o.ga)).next 1))
    (priv := fun t => if cwPriv n then t.needsSuper o.eng 2 else none))

/-- Time passes where no command waits (R148, R17): a step of 1/64 µs on the RC timebase, of 1/1024 µs on the
others; the count of cw.tnow stands still in a reset and in a low-power mode (DESIGN CHOICE, log entry 8). Meanwhile
core 1 of the pair catches up (R215), the interpolated angle of B0 may enter a new sector (R295, R309), and the Miller core writes the fault records that are due (R391; DESIGN CHOICE, log
entry 66). -/
def State.tick (s0 : State) : State :=
  let s := { s0 with whd := { s0.whd with sameEdge := false }, now := {} }.keepUp .msp0
  if !s.live then s
  else
    let n := if s.f Fld.SYS_TBSEL_ACTIVE = 0 then 16 else 1
    { s with tnow := s.tnow + BitVec.ofNat 32 n, age := s.age + n }.sectorCheck.noteRecords

/-! ### TRAP, RETT, WAIT, SLEEP, SEAL -/

/-- TRAP (R145, R152); it does not count in cw.retired (DESIGN CHOICE, log entry 69). -/
def execTrap (o : FmtS) (s : State) : Host.Outcome State Fault Refusal :=
  .next (s.issue o.eng 1 0x1E (o.gd == 0 && o.ga == 0) (fun t =>
    t.raiseExc o.eng { code := 0x0B, info := o.num.toNat, epcOff := 4 }))

/-- No field is used. -/
def sysFields (o : FmtS) : Bool := o.gd == 0 && o.ga == 0 && o.num == 0

/-- RETT (R145, R157). -/
def execRett (o : FmtS) (s : State) : Host.Outcome State Fault Refusal :=
  .next (s.issue o.eng 1 0x1E (sysFields o) (fun t => t.updEng o.eng (fun x => x.rett (twoLevel o.eng)))
    (priv := fun t => t.needsSuper o.eng 1))

/-- An engine has a Catchment target (R125, R146). -/
def hasEvents : Engine → Bool
  | .slu _ => false | _ => true

/-- WAIT (R146): it completes at once when an enabled source is pending. -/
def execWait (o : FmtS) (s : State) : Host.Outcome State Fault Refusal :=
  .next (s.issue o.eng 1 0x1E (sysFields o && hasEvents o.eng) (fun t =>
    (t.capture o.eng .wait (BitVec.ofNat 32 (Word.ofBool (t.eventPending o.eng)))).updEng o.eng (fun x =>
      { x.next 1 with run := if t.eventPending o.eng then .running else .waiting }))
    (wants := fun _ => true))

/-- WAIT_RESUME (R146). -/
def execWaitResume (e : Engine) (s : State) : Host.Outcome State Fault Refusal :=
  .next (
    if s.live && (s.eng e).run == .waiting && s.eventPending e then
      s.updEng e (fun x => { x with run := .running })
    else s)

/-- EVENT_ENTRY (R153, R155): before the next instruction. The pair captures the point (R216). -/
def execEventEntry (e : Engine) (s : State) : Host.Outcome State Fault Refusal :=
  .next (
    let s1 := s.keepUp e
    if s1.mayEnter e && s1.eventDue e && !(s1.paired e && s1.fifoFull) then
      ((s1.capture e .event 1).raiseExc e { code := 0x10 }).push s1 e
    else s)

/-- What keeps SLEEP and SEAL: task level, and core 1 of a split pair (R150, R227). -/
def State.core0Only (s : State) (e : Engine) : Option Exc :=
  if s.super e && isMsp0 e then none else some { code := 2, info := 1 }

/-- SLEEP (R147): the core is suspended while a request is pending. -/
def execSleep (o : FmtS) (s : State) : Host.Outcome State Fault Refusal :=
  .next (s.issue o.eng 1 0x1E (sysFields o && isMsp o.eng) (fun t =>
    (t.capture o.eng .sleep (BitVec.ofNat 32 (t.f Fld.SYS_MODE_REQST))).updEng o.eng (fun x =>
      { x.next 1 with run := if t.f Fld.SYS_MODE_REQST = 1 then .sleeping else .running }))
    (priv := fun t => t.core0Only o.eng) (wants := fun _ => true))

/-- SEAL (R96): without effect once sealed. It takes effect when core 1 has compared it, and so everything before it
(R219). -/
def execSeal (o : FmtS) (s : State) : Host.Outcome State Fault Refusal :=
  .next (s.issue o.eng 1 0x1E (sysFields o && isMsp o.eng) (fun t =>
    (if t.sealed then t else t.sealEffects false).updEng o.eng (fun x => x.next 1))
    (priv := fun t => t.core0Only o.eng) (drain := fun _ => true))

end Sys2Proof.Machine
end

