-- ==== Sys2Proof/Machine/Writes.lean ====
section
/-!
DEFINITION. The commands that are a write of one register by an engine, block by block in the order of R101. What a write
does is its register's rule, in the file of its chapter.
-/

namespace Sys2Proof.Machine

/-! ### Any register -/

/-- REGISTER_WRITE (R103). -/
def execRegisterWrite (e : Engine) (addr v : Word) (s : State) : Host.Outcome State Fault Refusal :=
  .next (s.regCommand e addr v)

/-- SH_WRITE (R110): the fields of a shadowed register take the value into their buffer. -/
def execShWrite (e : Engine) (addr v : Word) (s : State) : Host.Outcome State Fault Refusal :=
  .next (s.regCommand e addr v)

/-! ### SYS -/

/-- SOFT_RESET (R106). -/
def execSoftReset (e : Engine) (v : Word) (s : State) : Host.Outcome State Fault Refusal :=
  .next (s.access e Reg.SYS_RSTCTL (fun t => t.wRstctl e v))

/-- TIMEBASE_SELECT (R19). -/
def execTimebaseSelect (e : Engine) (v : Word) (s : State) : Host.Outcome State Fault Refusal :=
  .next (s.access e Reg.SYS_TBSEL (fun t => .done (t.wTbsel v)))

/-- WATCHDOG_CONFIG (R107). -/
def execWatchdogConfig (e : Engine) (v : Word) (s : State) : Host.Outcome State Fault Refusal :=
  .next (s.access e Reg.SYS_WDG (fun t => .done (t.wWdg v)))

/-- WATCHDOG_KICK (R107). -/
def execWatchdogKick (e : Engine) (v : Word) (s : State) : Host.Outcome State Fault Refusal :=
  .next (s.access e Reg.SYS_WDGKICK (fun t => t.wWdgkick e v))

/-- MODE_REQUEST_TRIPLEX (R363). -/
def execModeRequestTriplex (e : Engine) (key : BitVec 16) (s : State) : Host.Outcome State Fault Refusal :=
  .next (s.access e Reg.SYS_MODEREQ (fun t => t.wModeReq e (modeReqWord 3 key)))

/-- MODE_REQUEST_DUPLEX (R363). -/
def execModeRequestDuplex (e : Engine) (key : BitVec 16) (s : State) : Host.Outcome State Fault Refusal :=
  .next (s.access e Reg.SYS_MODEREQ (fun t => t.wModeReq e (modeReqWord 4 key)))

/-- MODE_REQUEST_READY (R29). -/
def execModeRequestReady (e : Engine) (key : BitVec 16) (s : State) : Host.Outcome State Fault Refusal :=
  .next (s.access e Reg.SYS_MODEREQ (fun t => t.wModeReq e (modeReqWord 2 key)))

/-- MODE_REQUEST_COMMISSION (R29). -/
def execModeRequestCommission (e : Engine) (key : BitVec 16) (s : State) : Host.Outcome State Fault Refusal :=
  .next (s.access e Reg.SYS_MODEREQ (fun t => t.wModeReq e (modeReqWord 1 key)))

/-- MODE_REQUEST_SERVICE (R29). -/
def execModeRequestService (e : Engine) (key : BitVec 16) (s : State) : Host.Outcome State Fault Refusal :=
  .next (s.access e Reg.SYS_MODEREQ (fun t => t.wModeReq e (modeReqWord 7 key)))

/-- MODE_REQUEST_SAFE_HOLD (R34). -/
def execModeRequestSafeHold (e : Engine) (key : BitVec 16) (s : State) : Host.Outcome State Fault Refusal :=
  .next (s.access e Reg.SYS_MODEREQ (fun t => t.wModeReq e (modeReqWord 6 key)))

/-- MODE_REQUEST_STANDBY (R73). -/
def execModeRequestStandby (e : Engine) (key : BitVec 16) (s : State) : Host.Outcome State Fault Refusal :=
  .next (s.access e Reg.SYS_MODEREQ (fun t => t.wModeReq e (modeReqWord 8 key)))

/-- MODE_REQUEST_DORMANT (R73). -/
def execModeRequestDormant (e : Engine) (key : BitVec 16) (s : State) : Host.Outcome State Fault Refusal :=
  .next (s.access e Reg.SYS_MODEREQ (fun t => t.wModeReq e (modeReqWord 9 key)))

/-- MODE_REQUEST_OTHER (R29): any target code; one that the table has is evaluated as such. -/
def execModeRequestOther (e : Engine) (target : BitVec 4) (key : BitVec 16) (s : State) :
    Host.Outcome State Fault Refusal :=
  .next (s.access e Reg.SYS_MODEREQ (fun t => t.wModeReq e (modeReqWord target.toNat key)))

/-- SYS_UPD (R111). -/
def execSysUpd (e : Engine) (v : Word) (s : State) : Host.Outcome State Fault Refusal :=
  .next (s.access e Reg.SYS_UPD (fun t => .done (t.wUpd e v)))

/-! ### PWR -/

/-- VOLTAGE_REQUEST (R62). -/
def execVoltageRequest (e : Engine) (v : Word) (s : State) : Host.Outcome State Fault Refusal :=
  .next (s.access e Reg.PWR_VREQ (fun t => t.wVreq e v))

/-! ### CIS -/

/-- VERIFY (R89). -/
def execVerify (e : Engine) (slot : Fin 4) (key : BitVec 16) (s : State) : Host.Outcome State Fault Refusal :=
  .next (s.access e Reg.CIS_CMD (fun t => t.wCisCmd e (cisCmdWord 1 slot key)))

/-- ACTIVATE (R89). -/
def execActivate (e : Engine) (slot : Fin 4) (key : BitVec 16) (s : State) : Host.Outcome State Fault Refusal :=
  .next (s.access e Reg.CIS_CMD (fun t => t.wCisCmd e (cisCmdWord 2 slot key)))

/-- ROLLBACK (R89). -/
def execRollback (e : Engine) (slot : Fin 4) (key : BitVec 16) (s : State) : Host.Outcome State Fault Refusal :=
  .next (s.access e Reg.CIS_CMD (fun t => t.wCisCmd e (cisCmdWord 3 slot key)))

/-- ERASE (R89). -/
def execErase (e : Engine) (slot : Fin 4) (key : BitVec 16) (s : State) : Host.Outcome State Fault Refusal :=
  .next (s.access e Reg.CIS_CMD (fun t => t.wCisCmd e (cisCmdWord 4 slot key)))

/-- RAISE_FLOOR (R86). -/
def execRaiseFloor (e : Engine) (slot : Fin 4) (key : BitVec 16) (s : State) : Host.Outcome State Fault Refusal :=
  .next (s.access e Reg.CIS_CMD (fun t => t.wCisCmd e (cisCmdWord 5 slot key)))

/-- FUSE_KEY (R87). -/
def execFuseKey (e : Engine) (slot : Fin 4) (key : BitVec 16) (s : State) : Host.Outcome State Fault Refusal :=
  .next (s.access e Reg.CIS_CMD (fun t => t.wCisCmd e (cisCmdWord 6 slot key)))

/-- CIS_CONFIRM (R91). -/
def execCisConfirm (e : Engine) (v : Word) (s : State) : Host.Outcome State Fault Refusal :=
  .next (s.access e Reg.CIS_CONFIRM (fun t => t.wCisConfirm e v))

/-- CIS_DATA_WRITE (R90). -/
def execCisDataWrite (e : Engine) (v : Word) (s : State) : Host.Outcome State Fault Refusal :=
  .next (s.access e Reg.CIS_DATA (fun t => .done (t.wCisData e v)))

/-- CIS_DATA_READ: gd takes the word at CIS_ADDR, which advances (R104); a read that the regions
refuse raises LOAD_PROT, and a Flume transfer is abandoned (R97). -/
def execCisDataRead (e : Engine) (gd : BitVec 5) (s : State) : Host.Outcome State Fault Refusal :=
  .next (
    let s1 := s.closeLag e
    if s1.canIssue e then
      if s1.permits e .rd Reg.CIS_DATA then
        let (w, s2) := s1.cisRead
        (s2.updEng e (fun x => { x with g := x.g.set gd.toNat w gd.isLt })).twin e
      else match e with
        | .flume => s1.raise 11
        | _ => (s1.raiseExc e { code := 4, bad := some (BitVec.ofNat 32 Reg.CIS_DATA) }).push s1 e
    else if s.canIssue e then s1 else s)

/-! ### CAT and WHD -/

/-- CAT_DONE (R232). -/
def execCatDone (e : Engine) (v : Word) (s : State) : Host.Outcome State Fault Refusal :=
  .next (s.access e Reg.CAT_DONE (fun t => .done (t.wCatDone v)))

/-- WHD_WRITE (R117). -/
def execWhdWrite (e : Engine) (addr v : Word) (s : State) : Host.Outcome State Fault Refusal :=
  checked (WellFormed.whdAddr addr) (
    if whdTakes addr.toNat then s.access e addr.toNat (fun t => .done (t.postWhd addr.toNat v))
    else s.access e addr.toNat (fun t => .done t))

/-! ### SLU -/

/-- SLUICE_RUN_START (R192). -/
def execSluiceRunStart (e : Engine) (n : Fin 5) (s : State) : Host.Outcome State Fault Refusal :=
  .next (s.access e (Reg.SLU_CTL n) (fun t => t.wSluCtl e n 1))

/-- SLUICE_RUN_STOP (R192). -/
def execSluiceRunStop (e : Engine) (n : Fin 5) (s : State) : Host.Outcome State Fault Refusal :=
  .next (s.access e (Reg.SLU_CTL n) (fun t => t.wSluCtl e n 0))

/-- TRIGGER_CONFIG (R198). -/
def execTriggerConfig (e : Engine) (n : Fin 5) (k : Fin 4) (v : Word) (s : State) :
    Host.Outcome State Fault Refusal :=
  .next (s.access e (Reg.SLU_TRIG n k) (fun t => .done (t.wTrig n k v)))

/-- SWTRG (R198). -/
def execSwtrg (e : Engine) (n : Fin 5) (v : Word) (s : State) : Host.Outcome State Fault Refusal :=
  .next (s.access e (Reg.SLU_SWTRG n) (fun t => .done (t.wSwtrg e n v)))

/-- TAIL_WRITE (R209). -/
def execTailWrite (e : Engine) (n : Fin 5) (k : Fin 16) (v : Word) (s : State) :
    Host.Outcome State Fault Refusal :=
  .next (s.access e (Reg.SLU_TAIL n k) (fun t => .done (t.wTail e n k.val v)))

/-- FLAG_WRITE (R210). -/
def execFlagWrite (e : Engine) (n : Fin 5) (v : Word) (s : State) : Host.Outcome State Fault Refusal :=
  .next (s.access e (Reg.SLU_FLAG n) (fun t => .done (t.wFlag e n v)))

/-! ### MSP -/

/-- MSP_MMACK (R224). -/
def execMspMmack (e : Engine) (v : Word) (s : State) : Host.Outcome State Fault Refusal :=
  .next (s.access e Reg.MSP_MMACK (fun t => t.wMmack e v))

/-- INJECTION_TEST_REQUEST (R226). -/
def execInjectionTestRequest (e : Engine) (v : Word) (s : State) : Host.Outcome State Fault Refusal :=
  .next (s.access e Reg.MSP_INJCTL (fun t => t.wInjctl e v))

/-! ### BRG -/

/-- BRIDGE_RUN_START (R277). -/
def execBridgeRunStart (e : Engine) (b : Fin 5) (s : State) : Host.Outcome State Fault Refusal :=
  .next (s.access e (Reg.BRG_CTL b) (fun t => .done (t.wRun b 1)))

/-- BRIDGE_RUN_STOP (R277). -/
def execBridgeRunStop (e : Engine) (b : Fin 5) (s : State) : Host.Outcome State Fault Refusal :=
  .next (s.access e (Reg.BRG_CTL b) (fun t => .done (t.wRun b 0)))

/-- DUTY_WRITE (R281, R282). -/
def execDutyWrite (e : Engine) (b : Fin 5) (k : Fin 3) (v : Word) (s : State) :
    Host.Outcome State Fault Refusal :=
  .next (s.access e (Reg.BRG_DUTY b k) (fun t => .done (t.newDuties b [(k, v)])))

/-- CATCH_START (R291, R292). -/
def execCatchStart (e : Engine) (b : Fin 5) (s : State) : Host.Outcome State Fault Refusal :=
  .next (s.access e (Reg.BRG_CATCHCTL b) (fun t => .done (t.wCatch b 1)))

/-- KE_UPDATE (R294). -/
def execKeUpdate (e : Engine) (b : Fin 5) (v : Word) (s : State) : Host.Outcome State Fault Refusal :=
  .next (s.access e (Reg.BRG_KEEST b) (fun t => .done (t.wKeest b v)))

/-- CURVE_INPUT_WRITE (R297). -/
def execCurveInputWrite (e : Engine) (b : Fin 5) (v : Word) (s : State) : Host.Outcome State Fault Refusal :=
  .next (s.access e (Reg.BRG_CRVIN b) (fun t => .done (t.wCrvin b v)))

/-! ### DRV and the bridges' static commands -/

/-- SPILLWAY_TEST (R273). -/
def execSpillwayTest (e : Engine) (v : Word) (s : State) : Host.Outcome State Fault Refusal :=
  .next (s.access e Reg.DRV_SPWTEST (fun t => t.wSpwtest e v))

/-- DRV_WRITE (R275). -/
def execDrvWrite (e : Engine) (addr v : Word) (s : State) : Host.Outcome State Fault Refusal :=
  checked (WellFormed.drvAddr addr) (s.access e addr.toNat (fun t =>
    if addr.toNat = Reg.DRV_SPWTEST then t.wSpwtest e v else .done (t.wDrv addr.toNat v)))

/-- PCMD_LOWER_SHORT (R267). -/
def execPcmdLowerShort (e : Engine) (b : Fin 5) (s : State) : Host.Outcome State Fault Refusal :=
  .next (s.access e (Reg.BRG_PCMD b) (fun t => .done (t.wPcmd b 1)))

/-- PCMD_ALL_OFF (R267). -/
def execPcmdAllOff (e : Engine) (b : Fin 5) (s : State) : Host.Outcome State Fault Refusal :=
  .next (s.access e (Reg.BRG_PCMD b) (fun t => .done (t.wPcmd b 2)))

/-- PCMD_NONE (R267). -/
def execPcmdNone (e : Engine) (b : Fin 5) (s : State) : Host.Outcome State Fault Refusal :=
  .next (s.access e (Reg.BRG_PCMD b) (fun t => .done (t.wPcmd b 0)))

/-! ### COG -/

/-- COMPARE_ARM (R315). -/
def execCompareArm (e : Engine) (ch : Fin 6) (k : Fin 2) (v : Word) (s : State) :
    Host.Outcome State Fault Refusal :=
  .next (s.access e (Reg.COG_CMP_CTL ch k) (fun t => .done (t.wCmp ch k v)))

/-! ### KNR -/

/-- KNAOR_ENABLE (R321). -/
def execKnaorEnable (e : Engine) (v : Word) (s : State) : Host.Outcome State Fault Refusal :=
  .next (s.access e Reg.KNR_CTL (fun t => .done (t.wKnrCtl (v ||| 1))))

/-- KNAOR_DISABLE (R321). -/
def execKnaorDisable (e : Engine) (v : Word) (s : State) : Host.Outcome State Fault Refusal :=
  .next (s.access e Reg.KNR_CTL (fun t => .done (t.wKnrCtl (v &&& ~~~(1 : Word)))))

/-- WAKE_PATTERN_SEND (R352). -/
def execWakePatternSend (e : Engine) (v : Word) (s : State) : Host.Outcome State Fault Refusal :=
  .next (s.access e Reg.KNR_CTL (fun t => .done (t.wKnrCtl v)))

/-- SPILL_PUSH (R350). -/
def execSpillPush (e : Engine) (v : Word) (s : State) : Host.Outcome State Fault Refusal :=
  .next (s.access e Reg.KNR_SPPUSH (fun t => .done (t.wSpPush v)))

/-! ### LEAT -/

/-- SHADOW_COMPARE (R369). -/
def execShadowCompare (e : Engine) (v : Word) (s : State) : Host.Outcome State Fault Refusal :=
  .next (s.access e Reg.LEAT_SHCTL (fun t => .done (t.wShctl v)))

/-- LEAT_RESIGN of kind FAULT (R372). -/
def execLeatResignFault (e : Engine) (key : BitVec 16) (s : State) : Host.Outcome State Fault Refusal :=
  .next (s.access e Reg.LEAT_RESIGN (fun t => t.wResign e (BitVec.ofNat 32 (key.toNat * 2 ^ 16))))

/-- LEAT_RESIGN of kind YIELD (R373). -/
def execLeatResignYield (e : Engine) (key : BitVec 16) (s : State) : Host.Outcome State Fault Refusal :=
  .next (s.access e Reg.LEAT_RESIGN (fun t => t.wResign e (BitVec.ofNat 32 (1 + key.toNat * 2 ^ 16))))

/-- LEAT_RRACK (R372). -/
def execLeatRrack (e : Engine) (v : Word) (s : State) : Host.Outcome State Fault Refusal :=
  .next (s.access e Reg.LEAT_RRACK (fun t => t.wRrack e v))

/-! ### SAFE -/

/-- SAFE_OUT_WRITE (R404): the owner's RUN bits. -/
def execSafeOutWrite (e : Engine) (v : Word) (s : State) : Host.Outcome State Fault Refusal :=
  .next (s.access e Reg.SAFE_OUT (fun t => .done (t.plainWrite Reg.SAFE_OUT v)))

/-! ### RACE -/

/-- RACE_ENABLE (R408, R409). -/
def execRaceEnable (e : Engine) (v : Word) (s : State) : Host.Outcome State Fault Refusal :=
  .next (s.access e Reg.RACE_CTL (fun t => .done (t.wRaceCtl v)))

/-- TRACE_PUSH (R419). -/
def execTracePush (e : Engine) (v : Word) (s : State) : Host.Outcome State Fault Refusal :=
  .next (s.access e Reg.RACE_TRPUSH (fun t => .done (t.wTrpush v)))

/-- DOORBELL_SEND (R420): a write of DBSEND without DBACK. -/
def execDoorbellSend (e : Engine) (v : Word) (s : State) : Host.Outcome State Fault Refusal :=
  .next (s.access e Reg.RACE_DBCTL (fun t => .done (t.wDbctl (v.put 8 1 0))))

/-- DOORBELL_ACK (R417): a write of DBACK = 1. -/
def execDoorbellAck (e : Engine) (v : Word) (s : State) : Host.Outcome State Fault Refusal :=
  .next (s.access e Reg.RACE_DBCTL (fun t => .done (t.wDbctl (v ||| 0x100))))

/-! ### CAN -/

/-- CAN_RXPOP (R424). -/
def execCanRxpop (e : Engine) (n : Fin 2) (v : Word) (s : State) : Host.Outcome State Fault Refusal :=
  .next (s.access e (Reg.CAN_RXPOP n) (fun t => .done (t.wRxpop n v)))

/-- CAN_TX_PUSH (R425). -/
def execCanTxPush (e : Engine) (n : Fin 2) (v : Word) (s : State) : Host.Outcome State Fault Refusal :=
  .next (s.access e (Reg.CAN_TXPUSH n) (fun t => .done (t.wTxpush n v)))

/-- CAN_ENABLE (R423). -/
def execCanEnable (e : Engine) (n : Fin 2) (v : Word) (s : State) : Host.Outcome State Fault Refusal :=
  .next (s.access e (Reg.CAN_CTL n) (fun t => .done (t.wCanCtl n v)))

/-- CAN_TXABORT (R425): a write that leaves EN as it is and sets TXABORT. -/
def execCanTxabort (e : Engine) (n : Fin 2) (v : Word) (s : State) : Host.Outcome State Fault Refusal :=
  .next (s.access e (Reg.CAN_CTL n) (fun t => .done (t.wCanCtl n (v ||| 0x40))))

/-- CAN_RECOVER (R426): a write that sets RECOVER. -/
def execCanRecover (e : Engine) (n : Fin 2) (v : Word) (s : State) : Host.Outcome State Fault Refusal :=
  .next (s.access e (Reg.CAN_CTL n) (fun t => .done (t.wCanCtl n (v ||| 0x20))))

/-! ### PLB -/

/-- BASELINE_START (R431). -/
def execBaselineStart (e : Engine) (v : Word) (s : State) : Host.Outcome State Fault Refusal :=
  .next (s.access e Reg.PLB_BASECTL (fun t => t.wBasectl e v))

/-- PRIME (R436): the word written has OP = 0b01. -/
def execPrime (e : Engine) (v : Word) (s : State) : Host.Outcome State Fault Refusal :=
  .next (s.access e Reg.PLB_PRIME (fun t => t.wPrime e (v.put 0 2 1)))

/-- RESERVE_SELF_TEST (R438): the word written has OP = 0b10. -/
def execReserveSelfTest (e : Engine) (v : Word) (s : State) : Host.Outcome State Fault Refusal :=
  .next (s.access e Reg.PLB_PRIME (fun t => t.wPrime e (v.put 0 2 2)))

end Sys2Proof.Machine
end

