-- ==== Sys2Proof/Machine/Dispatch.lean ====
section
/-!
DEFINITION. The effect of each command: one arm per constructor of `Instr`.
-/

namespace Sys2Proof.Machine

/-- What a command does, on everything but the queue. -/
def exec (i : Instr) (s : State) : Host.Outcome State Fault Refusal :=
  match i with
  | .por a => Sys2Proof.Machine.execPor a s
  | .porRelease a => Sys2Proof.Machine.execPorRelease a s
  | .rstN a => Sys2Proof.Machine.execRstN a s
  | .softReset a b => Sys2Proof.Machine.execSoftReset a b s
  | .resetRelease a => Sys2Proof.Machine.execResetRelease a s
  | .sealLate => Sys2Proof.Machine.execSealLate s
  | .timebaseSelect a b => Sys2Proof.Machine.execTimebaseSelect a b s
  | .timebaseStep => Sys2Proof.Machine.execTimebaseStep s
  | .dllLockLost => Sys2Proof.Machine.execDllLockLost s
  | .modeRequestTriplex a b => Sys2Proof.Machine.execModeRequestTriplex a b s
  | .modeRequestDuplex a b => Sys2Proof.Machine.execModeRequestDuplex a b s
  | .modeRequestReady a b => Sys2Proof.Machine.execModeRequestReady a b s
  | .modeRequestCommission a b => Sys2Proof.Machine.execModeRequestCommission a b s
  | .modeRequestService a b => Sys2Proof.Machine.execModeRequestService a b s
  | .modeRequestSafeHold a b => Sys2Proof.Machine.execModeRequestSafeHold a b s
  | .modeRequestStandby a b => Sys2Proof.Machine.execModeRequestStandby a b s
  | .modeRequestDormant a b => Sys2Proof.Machine.execModeRequestDormant a b s
  | .modeRequestOther a b c => Sys2Proof.Machine.execModeRequestOther a b c s
  | .stopProgramComplete => Sys2Proof.Machine.execStopProgramComplete s
  | .stopCompletionTimeout => Sys2Proof.Machine.execStopCompletionTimeout s
  | .vanaUv => Sys2Proof.Machine.execVanaUv s
  | .vanaUvClear => Sys2Proof.Machine.execVanaUvClear s
  | .voltageRequest a b => Sys2Proof.Machine.execVoltageRequest a b s
  | .governorRequest => Sys2Proof.Machine.execGovernorRequest s
  | .pmbusTransferEnd a => Sys2Proof.Machine.execPmbusTransferEnd a s
  | .readVoutPoll => Sys2Proof.Machine.execReadVoutPoll s
  | .pmbusTimeout => Sys2Proof.Machine.execPmbusTimeout s
  | .pmbAlert => Sys2Proof.Machine.execPmbAlert s
  | .statusWordRead a => Sys2Proof.Machine.execStatusWordRead a s
  | .pgoodLost => Sys2Proof.Machine.execPgoodLost s
  | .ovrDecay => Sys2Proof.Machine.execOvrDecay s
  | .dipWarning a => Sys2Proof.Machine.execDipWarning a s
  | .dipClear a => Sys2Proof.Machine.execDipClear a s
  | .lowPowerClamp => Sys2Proof.Machine.execLowPowerClamp s
  | .lowPowerEntered => Sys2Proof.Machine.execLowPowerEntered s
  | .knaorActivityWake a => Sys2Proof.Machine.execKnaorActivityWake a s
  | .knaorWakePattern a => Sys2Proof.Machine.execKnaorWakePattern a s
  | .enaWake => Sys2Proof.Machine.execEnaWake s
  | .safeWireWake => Sys2Proof.Machine.execSafeWireWake s
  | .wakeTimer => Sys2Proof.Machine.execWakeTimer s
  | .wakePowerConfirmed a => Sys2Proof.Machine.execWakePowerConfirmed a s
  | .wakePowerTimeout => Sys2Proof.Machine.execWakePowerTimeout s
  | .wakeRetry => Sys2Proof.Machine.execWakeRetry s
  | .whdWrite a b c => Sys2Proof.Machine.execWhdWrite a b c s
  | .whdWriteTaken => Sys2Proof.Machine.execWhdWriteTaken s
  | .drvWrite a b c => Sys2Proof.Machine.execDrvWrite a b c s
  | .drvWriteTaken => Sys2Proof.Machine.execDrvWriteTaken s
  | .registerWrite a b c => Sys2Proof.Machine.execRegisterWrite a b c s
  | .shWrite a b c => Sys2Proof.Machine.execShWrite a b c s
  | .sysUpd a b => Sys2Proof.Machine.execSysUpd a b s
  | .watchdogConfig a b => Sys2Proof.Machine.execWatchdogConfig a b s
  | .watchdogKick a b => Sys2Proof.Machine.execWatchdogKick a b s
  | .watchdogTimeout => Sys2Proof.Machine.execWatchdogTimeout s
  | .verify a b c => Sys2Proof.Machine.execVerify a b c s
  | .activate a b c => Sys2Proof.Machine.execActivate a b c s
  | .rollback a b c => Sys2Proof.Machine.execRollback a b c s
  | .erase a b c => Sys2Proof.Machine.execErase a b c s
  | .raiseFloor a b c => Sys2Proof.Machine.execRaiseFloor a b c s
  | .fuseKey a b c => Sys2Proof.Machine.execFuseKey a b c s
  | .cisCommandDone => Sys2Proof.Machine.execCisCommandDone s
  | .cisConfirm a b => Sys2Proof.Machine.execCisConfirm a b s
  | .cisDataWrite a b => Sys2Proof.Machine.execCisDataWrite a b s
  | .cisDataWriteDone a => Sys2Proof.Machine.execCisDataWriteDone a s
  | .cisDataRead a b => Sys2Proof.Machine.execCisDataRead a b s
  | .catDone a b => Sys2Proof.Machine.execCatDone a b s
  | .eventEntry a => Sys2Proof.Machine.execEventEntry a s
  | .watchEntryFire a b => Sys2Proof.Machine.execWatchEntryFire a b s
  | .add a => Sys2Proof.Machine.execAdd a s
  | .sub a => Sys2Proof.Machine.execSub a s
  | .addc a => Sys2Proof.Machine.execAddc a s
  | .subc a => Sys2Proof.Machine.execSubc a s
  | .adds a => Sys2Proof.Machine.execAdds a s
  | .subs a => Sys2Proof.Machine.execSubs a s
  | .cmp a => Sys2Proof.Machine.execCmp a s
  | .and a => Sys2Proof.Machine.execAnd a s
  | .or a => Sys2Proof.Machine.execOr a s
  | .xor a => Sys2Proof.Machine.execXor a s
  | .andn a => Sys2Proof.Machine.execAndn a s
  | .shl a => Sys2Proof.Machine.execShl a s
  | .shr a => Sys2Proof.Machine.execShr a s
  | .sar a => Sys2Proof.Machine.execSar a s
  | .ror a => Sys2Proof.Machine.execRor a s
  | .mul a => Sys2Proof.Machine.execMul a s
  | .mulhs a => Sys2Proof.Machine.execMulhs a s
  | .mulhu a => Sys2Proof.Machine.execMulhu a s
  | .div a => Sys2Proof.Machine.execDiv a s
  | .divu a => Sys2Proof.Machine.execDivu a s
  | .rem a => Sys2Proof.Machine.execRem a s
  | .remu a => Sys2Proof.Machine.execRemu a s
  | .min a => Sys2Proof.Machine.execMin a s
  | .max a => Sys2Proof.Machine.execMax a s
  | .minu a => Sys2Proof.Machine.execMinu a s
  | .maxu a => Sys2Proof.Machine.execMaxu a s
  | .clz a => Sys2Proof.Machine.execClz a s
  | .ctz a => Sys2Proof.Machine.execCtz a s
  | .popc a => Sys2Proof.Machine.execPopc a s
  | .sextb a => Sys2Proof.Machine.execSextb a s
  | .sexth a => Sys2Proof.Machine.execSexth a s
  | .zexth a => Sys2Proof.Machine.execZexth a s
  | .rev a => Sys2Proof.Machine.execRev a s
  | .addi a => Sys2Proof.Machine.execAddi a s
  | .andi a => Sys2Proof.Machine.execAndi a s
  | .ori a => Sys2Proof.Machine.execOri a s
  | .xori a => Sys2Proof.Machine.execXori a s
  | .shli a => Sys2Proof.Machine.execShli a s
  | .shri a => Sys2Proof.Machine.execShri a s
  | .sari a => Sys2Proof.Machine.execSari a s
  | .rori a => Sys2Proof.Machine.execRori a s
  | .cmpi a => Sys2Proof.Machine.execCmpi a s
  | .lui a => Sys2Proof.Machine.execLui a s
  | .muli a => Sys2Proof.Machine.execMuli a s
  | .cmpui a => Sys2Proof.Machine.execCmpui a s
  | .li a => Sys2Proof.Machine.execLi a s
  | .addli a => Sys2Proof.Machine.execAddli a s
  | .andli a => Sys2Proof.Machine.execAndli a s
  | .orli a => Sys2Proof.Machine.execOrli a s
  | .xorli a => Sys2Proof.Machine.execXorli a s
  | .cmpli a => Sys2Proof.Machine.execCmpli a s
  | .fli a => Sys2Proof.Machine.execFli a s
  | .ldb a => Sys2Proof.Machine.execLdb a s
  | .ldbu a => Sys2Proof.Machine.execLdbu a s
  | .ldh a => Sys2Proof.Machine.execLdh a s
  | .ldhu a => Sys2Proof.Machine.execLdhu a s
  | .ldw a b => Sys2Proof.Machine.execLdw a b s
  | .stb a b => Sys2Proof.Machine.execStb a b s
  | .sth a b => Sys2Proof.Machine.execSth a b s
  | .stw a b => Sys2Proof.Machine.execStw a b s
  | .fld a b => Sys2Proof.Machine.execFld a b s
  | .fst a b => Sys2Proof.Machine.execFst a b s
  | .ldx a => Sys2Proof.Machine.execLdx a s
  | .ldxu a => Sys2Proof.Machine.execLdxu a s
  | .stx a b => Sys2Proof.Machine.execStx a b s
  | .bal a => Sys2Proof.Machine.execBal a s
  | .beq a => Sys2Proof.Machine.execBeq a s
  | .bne a => Sys2Proof.Machine.execBne a s
  | .blt a => Sys2Proof.Machine.execBlt a s
  | .bge a => Sys2Proof.Machine.execBge a s
  | .bltu a => Sys2Proof.Machine.execBltu a s
  | .bgeu a => Sys2Proof.Machine.execBgeu a s
  | .call a => Sys2Proof.Machine.execCall a s
  | .jr a => Sys2Proof.Machine.execJr a s
  | .jalr a => Sys2Proof.Machine.execJalr a s
  | .fadd a => Sys2Proof.Machine.execFadd a s
  | .fsub a => Sys2Proof.Machine.execFsub a s
  | .fmul a => Sys2Proof.Machine.execFmul a s
  | .fdiv a => Sys2Proof.Machine.execFdiv a s
  | .fsqrt a => Sys2Proof.Machine.execFsqrt a s
  | .fma a => Sys2Proof.Machine.execFma a s
  | .fmin a => Sys2Proof.Machine.execFmin a s
  | .fmax a => Sys2Proof.Machine.execFmax a s
  | .fabs a => Sys2Proof.Machine.execFabs a s
  | .fneg a => Sys2Proof.Machine.execFneg a s
  | .fmov a => Sys2Proof.Machine.execFmov a s
  | .fcmp a => Sys2Proof.Machine.execFcmp a s
  | .fcvtsw a => Sys2Proof.Machine.execFcvtsw a s
  | .fcvtws a => Sys2Proof.Machine.execFcvtws a s
  | .fcvtwsz a => Sys2Proof.Machine.execFcvtwsz a s
  | .fmvws a => Sys2Proof.Machine.execFmvws a s
  | .fmvsw a => Sys2Proof.Machine.execFmvsw a s
  | .lda a => Sys2Proof.Machine.execLda a s
  | .str a => Sys2Proof.Machine.execStr a s
  | .swap a => Sys2Proof.Machine.execSwap a s
  | .cas a => Sys2Proof.Machine.execCas a s
  | .fence a => Sys2Proof.Machine.execFence a s
  | .ifence a => Sys2Proof.Machine.execIfence a s
  | .cwr a => Sys2Proof.Machine.execCwr a s
  | .cww a => Sys2Proof.Machine.execCww a s
  | .trap a => Sys2Proof.Machine.execTrap a s
  | .rett a => Sys2Proof.Machine.execRett a s
  | .wait a => Sys2Proof.Machine.execWait a s
  | .waitResume a => Sys2Proof.Machine.execWaitResume a s
  | .sleep a => Sys2Proof.Machine.execSleep a s
  | .seal a => Sys2Proof.Machine.execSeal a s
  | .macq a => Sys2Proof.Machine.execMacq a s
  | .satqShls a => Sys2Proof.Machine.execSatqShls a s
  | .satqShrr a => Sys2Proof.Machine.execSatqShrr a s
  | .satqQtof a => Sys2Proof.Machine.execSatqQtof a s
  | .satqFtoq a => Sys2Proof.Machine.execSatqFtoq a s
  | .lutg a => Sys2Proof.Machine.execLutg a s
  | .lmov a => Sys2Proof.Machine.execLmov a s
  | .inth a => Sys2Proof.Machine.execInth a s
  | .clmp a => Sys2Proof.Machine.execClmp a s
  | .ffv a => Sys2Proof.Machine.execFfv a s
  | .ffa a => Sys2Proof.Machine.execFfa a s
  | .clrk a => Sys2Proof.Machine.execClrk a s
  | .park a => Sys2Proof.Machine.execPark a s
  | .iprk a => Sys2Proof.Machine.execIprk a s
  | .sinc a => Sys2Proof.Machine.execSinc a s
  | .svm a => Sys2Proof.Machine.execSvm a s
  | .emit a => Sys2Proof.Machine.execEmit a s
  | .wtrg a => Sys2Proof.Machine.execWtrg a s
  | .triggerAccept a => Sys2Proof.Machine.execTriggerAccept a s
  | .osca a => Sys2Proof.Machine.execOsca a s
  | .rly a => Sys2Proof.Machine.execRly a s
  | .lld a => Sys2Proof.Machine.execLld a s
  | .lst a => Sys2Proof.Machine.execLst a s
  | .sluiceRunStart a b => Sys2Proof.Machine.execSluiceRunStart a b s
  | .sluiceRunStop a b => Sys2Proof.Machine.execSluiceRunStop a b s
  | .triggerConfig a b c d => Sys2Proof.Machine.execTriggerConfig a b c d s
  | .swtrg a b c => Sys2Proof.Machine.execSwtrg a b c s
  | .triggerInstant a b c => Sys2Proof.Machine.execTriggerInstant a b c s
  | .triggerBufferComplete a b => Sys2Proof.Machine.execTriggerBufferComplete a b s
  | .evaluationTooLong a => Sys2Proof.Machine.execEvaluationTooLong a s
  | .tailWrite a b c d => Sys2Proof.Machine.execTailWrite a b c d s
  | .flagWrite a b c => Sys2Proof.Machine.execFlagWrite a b c s
  | .comparatorMismatch a b c d => Sys2Proof.Machine.execComparatorMismatch a b c d s
  | .mspMmack a b => Sys2Proof.Machine.execMspMmack a b s
  | .recordWindowTimeout => Sys2Proof.Machine.execRecordWindowTimeout s
  | .injectionTestRequest a b => Sys2Proof.Machine.execInjectionTestRequest a b s
  | .injectionTestEnd a b => Sys2Proof.Machine.execInjectionTestEnd a b s
  | .deadTimeEnd a b => Sys2Proof.Machine.execDeadTimeEnd a b s
  | .gateStuck a b c => Sys2Proof.Machine.execGateStuck a b c s
  | .bstUv a b => Sys2Proof.Machine.execBstUv a b s
  | .chargePumpFail => Sys2Proof.Machine.execChargePumpFail s
  | .vdsTrip a b c => Sys2Proof.Machine.execVdsTrip a b c s
  | .fastComparatorTrip a b => Sys2Proof.Machine.execFastComparatorTrip a b s
  | .locateWindowEnd a b c d => Sys2Proof.Machine.execLocateWindowEnd a b c d s
  | .upperShortLost a b => Sys2Proof.Machine.execUpperShortLost a b s
  | .enaFall => Sys2Proof.Machine.execEnaFall s
  | .enaRise a b => Sys2Proof.Machine.execEnaRise a b s
  | .pcmdLowerShort a b => Sys2Proof.Machine.execPcmdLowerShort a b s
  | .pcmdAllOff a b => Sys2Proof.Machine.execPcmdAllOff a b s
  | .pcmdNone a b => Sys2Proof.Machine.execPcmdNone a b s
  | .vdrvUndervoltage => Sys2Proof.Machine.execVdrvUndervoltage s
  | .vdrvRecover => Sys2Proof.Machine.execVdrvRecover s
  | .spillwayOn => Sys2Proof.Machine.execSpillwayOn s
  | .spillwayOff => Sys2Proof.Machine.execSpillwayOff s
  | .ov2Reaction => Sys2Proof.Machine.execOv2Reaction s
  | .ov2Release => Sys2Proof.Machine.execOv2Release s
  | .ov3 => Sys2Proof.Machine.execOv3 s
  | .spillFault a => Sys2Proof.Machine.execSpillFault a s
  | .spillwayTest a b => Sys2Proof.Machine.execSpillwayTest a b s
  | .spillwayTestEnd a => Sys2Proof.Machine.execSpillwayTestEnd a s
  | .bridgeRunStart a b => Sys2Proof.Machine.execBridgeRunStart a b s
  | .bridgeRunStop a b => Sys2Proof.Machine.execBridgeRunStop a b s
  | .pwmPeriodStart a => Sys2Proof.Machine.execPwmPeriodStart a s
  | .pwmEdge a b => Sys2Proof.Machine.execPwmEdge a b s
  | .dutyWrite a b c d => Sys2Proof.Machine.execDutyWrite a b c d s
  | .hallTransition a b => Sys2Proof.Machine.execHallTransition a b s
  | .samplingInstant a b c => Sys2Proof.Machine.execSamplingInstant a b c s
  | .conversionComplete a b c d => Sys2Proof.Machine.execConversionComplete a b c d s
  | .catchStart a b => Sys2Proof.Machine.execCatchStart a b s
  | .catchEnd a b => Sys2Proof.Machine.execCatchEnd a b s
  | .keUpdate a b c => Sys2Proof.Machine.execKeUpdate a b c s
  | .lockedRotor => Sys2Proof.Machine.execLockedRotor s
  | .curveInputWrite a b c => Sys2Proof.Machine.execCurveInputWrite a b c s
  | .cogCountEdge a b c d => Sys2Proof.Machine.execCogCountEdge a b c d s
  | .wireFault a b => Sys2Proof.Machine.execWireFault a b s
  | .wireFaultClear a b c d e => Sys2Proof.Machine.execWireFaultClear a b c d e s
  | .standstill a => Sys2Proof.Machine.execStandstill a s
  | .speedWindowEnd a => Sys2Proof.Machine.execSpeedWindowEnd a s
  | .compareArm a b c d => Sys2Proof.Machine.execCompareArm a b c d s
  | .knaorEnable a b => Sys2Proof.Machine.execKnaorEnable a b s
  | .knaorDisable a b => Sys2Proof.Machine.execKnaorDisable a b s
  | .turnMark => Sys2Proof.Machine.execTurnMark s
  | .frameLaunch a => Sys2Proof.Machine.execFrameLaunch a s
  | .frameTransmissionEnd a b c => Sys2Proof.Machine.execFrameTransmissionEnd a b c s
  | .frameReceived a b => Sys2Proof.Machine.execFrameReceived a b s
  | .correctionGap => Sys2Proof.Machine.execCorrectionGap s
  | .listenTimeout => Sys2Proof.Machine.execListenTimeout s
  | .weirTurnStart => Sys2Proof.Machine.execWeirTurnStart s
  | .spillStep a b => Sys2Proof.Machine.execSpillStep a b s
  | .spillPush a b => Sys2Proof.Machine.execSpillPush a b s
  | .wakePatternSend a b => Sys2Proof.Machine.execWakePatternSend a b s
  | .wakePatternEnd => Sys2Proof.Machine.execWakePatternEnd s
  | .leatWireReplace a b => Sys2Proof.Machine.execLeatWireReplace a b s
  | .statusSend => Sys2Proof.Machine.execStatusSend s
  | .statusToken a b => Sys2Proof.Machine.execStatusToken a b s
  | .leatStatusTimeout a => Sys2Proof.Machine.execLeatStatusTimeout a s
  | .versionToken a b => Sys2Proof.Machine.execVersionToken a b s
  | .formToken a b => Sys2Proof.Machine.execFormToken a b s
  | .resignToken a b => Sys2Proof.Machine.execResignToken a b s
  | .leaveToken a b => Sys2Proof.Machine.execLeaveToken a b s
  | .verdictToken a b => Sys2Proof.Machine.execVerdictToken a b s
  | .copyWindowOpen => Sys2Proof.Machine.execCopyWindowOpen s
  | .copyBlockSent => Sys2Proof.Machine.execCopyBlockSent s
  | .copyBlockReceived a b c => Sys2Proof.Machine.execCopyBlockReceived a b c s
  | .shadowCompare a b => Sys2Proof.Machine.execShadowCompare a b s
  | .shadowCompareDone => Sys2Proof.Machine.execShadowCompareDone s
  | .isolationCheck => Sys2Proof.Machine.execIsolationCheck s
  | .implicitResignCheck => Sys2Proof.Machine.execImplicitResignCheck s
  | .leatResignFault a b => Sys2Proof.Machine.execLeatResignFault a b s
  | .leatResignYield a b => Sys2Proof.Machine.execLeatResignYield a b s
  | .leatRrack a b => Sys2Proof.Machine.execLeatRrack a b s
  | .rampComplete => Sys2Proof.Machine.execRampComplete s
  | .safeLineChange a b => Sys2Proof.Machine.execSafeLineChange a b s
  | .discrepancyFault a => Sys2Proof.Machine.execDiscrepancyFault a s
  | .stopDemandTimeout => Sys2Proof.Machine.execStopDemandTimeout s
  | .sackAcknowledge a => Sys2Proof.Machine.execSackAcknowledge a s
  | .ackStuck => Sys2Proof.Machine.execAckStuck s
  | .readbackFault a => Sys2Proof.Machine.execReadbackFault a s
  | .safeOutWrite a b => Sys2Proof.Machine.execSafeOutWrite a b s
  | .raceEnable a b => Sys2Proof.Machine.execRaceEnable a b s
  | .raceWrite a => Sys2Proof.Machine.execRaceWrite a s
  | .raceDoorbell a => Sys2Proof.Machine.execRaceDoorbell a s
  | .raceTraceReceived a => Sys2Proof.Machine.execRaceTraceReceived a s
  | .raceSync a => Sys2Proof.Machine.execRaceSync a s
  | .raceBufferFreed => Sys2Proof.Machine.execRaceBufferFreed s
  | .creditReceived => Sys2Proof.Machine.execCreditReceived s
  | .rckLoss => Sys2Proof.Machine.execRckLoss s
  | .syncDue => Sys2Proof.Machine.execSyncDue s
  | .creditStall => Sys2Proof.Machine.execCreditStall s
  | .tracePush a b => Sys2Proof.Machine.execTracePush a b s
  | .doorbellSend a b => Sys2Proof.Machine.execDoorbellSend a b s
  | .doorbellAck a b => Sys2Proof.Machine.execDoorbellAck a b s
  | .outboundPacketSent => Sys2Proof.Machine.execOutboundPacketSent s
  | .setaddr => Sys2Proof.Machine.execSetaddr s
  | .command => Sys2Proof.Machine.execCommand s
  | .setkey => Sys2Proof.Machine.execSetkey s
  | .query => Sys2Proof.Machine.execQuery s
  | .speed => Sys2Proof.Machine.execSpeed s
  | .canEnable a b c => Sys2Proof.Machine.execCanEnable a b c s
  | .canFrameReceived a b => Sys2Proof.Machine.execCanFrameReceived a b s
  | .canTxPush a b c => Sys2Proof.Machine.execCanTxPush a b c s
  | .canTxDone a => Sys2Proof.Machine.execCanTxDone a s
  | .canTxabort a b c => Sys2Proof.Machine.execCanTxabort a b c s
  | .canRxpop a b c => Sys2Proof.Machine.execCanRxpop a b c s
  | .canBusError a b c => Sys2Proof.Machine.execCanBusError a b c s
  | .canRecover a b c => Sys2Proof.Machine.execCanRecover a b c s
  | .canRecoveryComplete a => Sys2Proof.Machine.execCanRecoveryComplete a s
  | .plumbMeasurement a => Sys2Proof.Machine.execPlumbMeasurement a s
  | .plumbRoundEnd => Sys2Proof.Machine.execPlumbRoundEnd s
  | .baselineStart a b => Sys2Proof.Machine.execBaselineStart a b s
  | .baselineDone a => Sys2Proof.Machine.execBaselineDone a s
  | .prime a b => Sys2Proof.Machine.execPrime a b s
  | .primingDone => Sys2Proof.Machine.execPrimingDone s
  | .reserveSelfTest a b => Sys2Proof.Machine.execReserveSelfTest a b s
  | .reserveSelfTestDone a => Sys2Proof.Machine.execReserveSelfTestDone a s
  | .marchTestRow a b c d => Sys2Proof.Machine.execMarchTestRow a b c d s
  | .rowRepairDone a b c => Sys2Proof.Machine.execRowRepairDone a b c s
  | .sectorRemapDone a => Sys2Proof.Machine.execSectorRemapDone a s
  | .hourTick => Sys2Proof.Machine.execHourTick s
  | .xtalOk => Sys2Proof.Machine.execXtalOk s
  | .dllLock => Sys2Proof.Machine.execDllLock s
  | .refreshPulseEnd a b => Sys2Proof.Machine.execRefreshPulseEnd a b s

end Sys2Proof.Machine
end

