-- ==== Sys2Proof/Machine/Step.lean ====
section
/-!
DEFINITION. The step: the command at the front of the queue, or with nothing waiting one tick of the
lane's timebase.
-/

namespace Sys2Proof.Machine

/-- One step: the first waiting command takes effect, with the rest waiting; with none waiting, time
passes (DESIGN CHOICE, log entry 8). -/
def step (s : State) : Host.Outcome State Fault Refusal :=
  match s.pending with
  | c :: rest => exec c { s with pending := rest }
  | [] => .next s.tick

/-- `s` with the command that a word spells in front of its queue; `s` where it spells none. -/
def State.withFetchWord (s : State) (nbits w : Nat) : State :=
  match decodeTableWord nbits w with
  | some c => { s with pending := c :: s.pending }
  | none => s

end Sys2Proof.Machine
end

