-- ==== Sys2Proof/Machine/Tap.lean ====
section
/-!
DEFINITION. The boundary-scan port (R48): the TAP of IEEE 1149.1 (PRESUMED, log entry 73). The spec gives the port no
registers, and no command carries TCK, so that no step reaches these operations (NOTES.md, Scope).
-/

namespace Sys2Proof.Machine

/-- The TAP's state after a rise of TCK with TMS at a level. -/
def TapState.next (x : TapState) (tms : Bool) : TapState :=
  match x with
  | .testLogicReset => if tms then .testLogicReset else .runTestIdle
  | .runTestIdle => if tms then .selectDr else .runTestIdle
  | .selectDr => if tms then .selectIr else .captureDr
  | .captureDr => if tms then .exit1Dr else .shiftDr
  | .shiftDr => if tms then .exit1Dr else .shiftDr
  | .exit1Dr => if tms then .updateDr else .pauseDr
  | .pauseDr => if tms then .exit2Dr else .pauseDr
  | .exit2Dr => if tms then .updateDr else .shiftDr
  | .updateDr => if tms then .selectDr else .runTestIdle
  | .selectIr => if tms then .testLogicReset else .captureIr
  | .captureIr => if tms then .exit1Ir else .shiftIr
  | .shiftIr => if tms then .exit1Ir else .shiftIr
  | .exit1Ir => if tms then .updateIr else .pauseIr
  | .pauseIr => if tms then .exit2Ir else .pauseIr
  | .exit2Ir => if tms then .updateIr else .shiftIr
  | .updateIr => if tms then .selectDr else .runTestIdle

/-- A cycle of TCK with TMS at a level. -/
def State.tck (s : State) (tms : Bool) : State := { s with tap := s.tap.next tms }

/-- Five TCK cycles while TMS is high reset the TAP (R48). -/
def State.tapReset (s : State) : State := ((((s.tck true).tck true).tck true).tck true).tck true

end Sys2Proof.Machine
end

