-- ==== Sys2Proof/Machine/Balls.lean ====
section
/-!
DEFINITION. The lane's output balls (R47): the level that each shows in a state. Nothing here is state of its own.
-/

namespace Sys2Proof.Machine

/-- The bands of VIO in which R47 fixes the safe outputs: from 2.85 V, from 1.0 V to 2.85 V, below 1.0 V. -/
inductive VioBand where
  | good | between | absent
deriving DecidableEq, Repr

/-- An output ball. `rpt` is a pair of a repeater, A, B or Z, with its P or its N line; `sout` an output pair with its A
or its B line. -/
inductive Ball where
  | gh (b : Fin 5) (k : Fin 3)
  | gl (b : Fin 5) (k : Fin 3)
  | chargePump
  | spwG
  | rpt (p : Fin 2) (pair : Fin 3) (n : Bool)
  | sout (k : Fin 2) (lineB : Bool)
  | txen (c : Fin 2)
  | txd (c : Fin 2)
  | canTx (n : Fin 2)
  | race
  | pmb
  | faultN
  | xtal
  | tdo
deriving DecidableEq, Repr

/-- What a ball shows: a level; released or high impedance; an oscillator or pump that runs or does not; the bits in turn
of a frame or wake pattern, or the traffic of a transfer in progress; or a level that the spec leaves open. -/
inductive Level where
  | low | high | released | highZ | running | off
  | bits (bs : List Bool)
  | busy
  | open_
deriving DecidableEq, Repr

/-- A level of a bit. -/
def Level.ofBool (b : Bool) : Level := if b then .high else .low

/-- The lane die drives its pads: powered, out of reset, its clamps released (R47, R71). -/
def State.padsOn (s : State) : Bool := s.live && !s.clamped

/-- The receiver output that a repeater's pair follows (R317): of a configured channel's pair that the mode uses, without
a wire fault. The model holds receiver outputs as the filters show them (DESIGN CHOICE, log entry 73). -/
def State.repeated (s : State) (p : Fin 2) (pair : Fin 3) : Option Bool :=
  if !s.padsOn || !s.fb (Fld.COG_RPT_P_EN p) then none
  else match cogs.find? (fun c => c.val == s.f (Fld.COG_RPT_P_SRC p)) with
    | none => none
    | some c =>
      if s.cogPairs c / 2 ^ pair.val % 2 = 0 || s.fbit (Fld.COG_STAT_WIRE c) pair then none
      else
        let x := s.cogOf c
        some (if pair.val = 0 then x.a else if pair.val = 1 then x.b else x.z)

/-- The wake pattern as bits of 6 µs (R351). -/
def wakeBits : List Bool := [false, true, false, true, false, true]

/-- What KNRx_TXD carries while its TXEN is high: the wake pattern, or the frame. -/
def State.txdBits (s : State) (c : Fin 2) : List Bool :=
  if s.knr.waking.any (fun w => w.1 == c) then wakeBits
  else match s.knr.sending with
    | some f => wireBits f.bytes
    | none => []

/-- The level of a ball (R47). -/
def State.ball (s : State) (vio : VioBand) : Ball → Level
  | .gh b k => Level.ofBool ((s.leg b k).gate == .high)
  | .gl b k => Level.ofBool ((s.leg b k).gate == .low)
  | .chargePump => if s.padsOn && s.legMask 0 != 0 && s.drv.vdrvOk then .running else .off
  | .spwG => Level.ofBool (s.fb Fld.DRV_STAT_SPW_ON)
  | .rpt p pair n =>
    match s.repeated p pair with
    | some v => Level.ofBool (v != n)
    | none => .low
  | .sout k lineB =>
    match vio with
    | .good => Level.ofBool (lineB != (s.padsOn && s.outOn k))
    | .between => if lineB then .open_ else .low
    | .absent => .low
  | .txen c => Level.ofBool (s.padsOn && s.txChannels.contains c)
  | .txd c => if s.padsOn && s.txChannels.contains c then .bits (s.txdBits c) else .high
  | .canTx n =>
    if s.padsOn && s.whd.phase == .awake && (s.canUnit n).cur.isSome then .busy else .high
  | .race => if s.raceOn || s.race.sending.isSome && s.live && s.whd.phase == .awake then .busy else .low
  | .pmb => if s.live && s.power.xfer.isSome then .busy else .released
  | .faultN => if s.faultLow then .low else .released
  | .xtal => if s.whd.phase == .awake || s.whd.phase == .armed || s.whd.xtalOn then .running else .off
  | .tdo => if s.tap == .shiftDr || s.tap == .shiftIr then .open_ else .highZ

end Sys2Proof.Machine
end

