-- ==== Sys2Proof/Machine/Fetch.lean ====
section
/-!
DEFINITION. An engine runs the word at its pc (R130, R131, R171): the word's instruction takes effect, and a word that spells
none raises ILLEGAL. The commands of the queue name their instructions themselves (log entry 70).
-/

namespace Sys2Proof.Machine

/-- An engine runs a word, with the word after it. A word that spells no instruction is ILLEGAL, with its major as INFO. -/
def State.runWord (s : State) (e : Engine) (w w2 : Word) : Host.Outcome State Fault Refusal :=
  match decodeWord e w w2 with
  | some i => exec i s
  | none => .next (s.issue e 1 (wMajor w) false (fun t => t))

/-- The word that an engine finds at an address; one that no memory holds raises its fetch's exception, whatever it is. -/
def State.codeWord (s : State) (e : Engine) (a : Word) : Word :=
  match s.locate e a.toNat with
  | .mem la _ _ _ => s.memWord la
  | _ => 0

/-- An engine runs the instruction at its pc. -/
def State.runNext (s : State) (e : Engine) : Host.Outcome State Fault Refusal :=
  let pc := (s.eng e).pc
  s.runWord e (s.codeWord e pc) (s.codeWord e (pc + 4))

end Sys2Proof.Machine
end

