-- ==== Sys2Proof/Safety.lean ====
section
/-!
DEFINITION. What a safe state and a safe step are, and the shapes of effects, in the terms that claims
use.
-/

namespace Sys2Proof.Safety

open Sys2Proof.Machine

/-! ### Invariants -/

/-- The sparse parts of a state are in canonical form: its memories and its register words. -/
def Canonical (s : State) : Prop :=
  Memory.wf s.mem ∧ Memory.wf s.cis.bytes ∧ Cells.wf resetWord s.regs

/-- A key well that is locked stays locked with its hash (R87). -/
def KeyKept (s t : State) : Prop :=
  s.cis.keyLock = true → t.cis.keyLock = true ∧ t.cis.keyHash = s.cis.keyHash

/-- No programming of a key that is locked is in progress (R87, R89). -/
def KeyInv (s : State) : Prop := s.cis.keyLock = true → s.cis.running ≠ some .fuseKey

/-- Which lane of which module it is stays as the substrate sets it (R105). -/
def SameLane (s t : State) : Prop := t.lane = s.lane ∧ t.variant = s.variant

/-! ### What an engine's instruction does -/

/-- The engine issues an instruction of `n` words, and the fetch raises nothing (R97, R154, R155). Of the pair in
lockstep, core 1 has retired what it may before it (R215), which every instruction begins with. -/
def Issues (s : State) (e : Engine) (n : Nat) : Prop :=
  s.keepUp e = s ∧ s.canIssue e = true ∧ s.fetchOneCopy e n = false ∧ s.fetchExc e n = none ∧ s.alignFetch e = none

/-- An instruction that waits for core 1 to retire everything finds that done (R105, R159, R216). -/
def Closed (s : State) (e : Engine) : Prop := s.closeLag e = s

/-- The lag FIFO has an entry for the instruction (R218). -/
def HasEntry (s : State) (e : Engine) : Prop := s.paired e = true → s.fifoUse < 32

/-- The bits of `q` are those of `p`, but for the bits listed, which are as listed. -/
def BitsAre (p q : Word) (bits : List (Nat × Bool)) : Prop :=
  ∀ k < 32, q.getLsbD k = (bits.lookup k).getD (p.getLsbD k)

/-- The command answers a state that differs in one engine's g registers, PSW, pc and cw.retired only:
`dest` is the register written, `bits` are the bits of PSW written, and the instruction of `n` words
retires. In lockstep core 1 has it yet to retire (`push`, R215). -/
def Computes (i : Instr) (s : State) (e : Engine) (n : Nat) (dest : Option (BitVec 5 × Word))
    (bits : List (Nat × Bool)) : Prop :=
  ∃ y : EngState, exec i s = .next ((s.setEng e y).push s e) ∧
    y = { s.eng e with
          g := y.g, psw := y.psw, pc := (s.eng e).pc + BitVec.ofNat 32 (4 * n), retired := (s.eng e).retired + 1 } ∧
    (∀ k : BitVec 5, y.getG k = match dest with
      | some (d, r) => if k = d then r else (s.eng e).getG k
      | none => (s.eng e).getG k) ∧
    BitsAre (s.eng e).psw y.psw bits

/-- N and Z as a result gives them (R128). -/
def nz (r : Word) : List (Nat × Bool) := [(0, r.getLsbD 31), (1, decide (r = 0))]

/-- N, Z, C and V of the sum a + b + c (R128). -/
def addBits (a b : Word) (c : Nat) : List (Nat × Bool) :=
  let r := a + b + BitVec.ofNat 32 c
  nz r ++ [(2, decide (2 ^ 32 ≤ a.toNat + b.toNat + c)), (3, decide (r.toInt ≠ a.toInt + b.toInt + c))]

/-- N, Z, C and V of the difference a - b - c: C is 1 when no borrow occurred (R128). -/
def subBits (a b : Word) (c : Nat) : List (Nat × Bool) :=
  let r := a - b - BitVec.ofNat 32 c
  nz r ++ [(2, decide (b.toNat + c ≤ a.toNat)), (3, decide (r.toInt ≠ a.toInt - b.toInt - c))]

/-- An exact signed result saturated to 32 bits (R132). -/
def clamp32 (z : Int) : Word := BitVec.ofInt 32 (max (-(2 ^ 31)) (min (2 ^ 31 - 1) z))

/-- N and Z of a saturated result, and Q where it saturated (R132). -/
def satBits (z : Int) : List (Nat × Bool) :=
  nz (clamp32 z) ++ (if (clamp32 z).toInt = z then [] else [(4, true)])

/-- N, Z and C of a shift by `n`: C is the last bit shifted out, and not written for n = 0 (R132). -/
def shiftBits (r : Word) (n : Nat) (out : Bool) : List (Nat × Bool) :=
  nz r ++ (if n = 0 then [] else [(2, out)])

/-- The command answers a state that differs in one engine only, which is `y` and has retired an instruction
of `n` words. -/
def Retires (i : Instr) (s : State) (e : Engine) (n : Nat) (y : EngState) : Prop :=
  exec i s = .next ((s.setEng e (y.next n)).push s e)

/-- The command answers a state that differs in one engine only, which has retired an instruction of one word that took
`v` as an input of its kind: in lockstep the pair captures it for core 1 (R216, R217). -/
def Takes (i : Instr) (s : State) (e : Engine) (k : InputKind) (v : Word) (y : EngState) : Prop :=
  exec i s = .next (((s.capture e k v).setEng e (y.next 1)).push s e)

/-- A load of the number `v` from the engine's address `a`: from a place that other agents write too it is an input (R216). -/
def Loads (i : Instr) (s : State) (e : Engine) (a : Word) (v : Nat) (y : EngState) : Prop :=
  if (s.locate e a.toNat).outside = true then Takes i s e .load (BitVec.ofNat 32 v) y else Retires i s e 1 y

/-- A load from address `a` may begin: the lag FIFO has an entry, and core 1 has retired everything where the load waits
for that (R105, R159, R218). -/
def LoadsNow (s : State) (e : Engine) (a : Word) : Prop :=
  HasEntry s e ∧ (s.drainLoad e a = true → Closed s e)

/-- The command raises an exception of its engine and does nothing else (R151). -/
def Raises (i : Instr) (s : State) (e : Engine) (c : Exc) : Prop := exec i s = .next ((s.raiseExc e c).push s e)

/-! ### Numbers of the control extension -/

/-- Gain table `n` as the engine's LUTG finds it: no other engine has stored into it at this instant (R177), and no word
of it holds an uncorrectable error. -/
def TableClean (s : State) (e : Engine) (n : Nat) : Prop :=
  s.now.lut = [] ∧ ∀ i < 66, s.bad0 (lutBase e + n * 0x108 + 4 * i) = false ∧
    s.oneCopy e (lutBase e + n * 0x108 + 4 * i) = false

/-- The exact value of a result in Q(√3) (R166). -/
noncomputable def surdVal (x : Surd) : ℝ := ((x.a : ℝ) + (x.b : ℝ) * Real.sqrt 3) / ((x.den : ℝ) + 1)

/-- The exact value of a ratio (R432). -/
def ratVal (r : Ratio) : ℚ := (r.num : ℚ) / ((r.den : ℚ) + 1)

/-- The mean of some ratios (R432). -/
def ratMean (xs : List Ratio) : ℚ := (xs.map ratVal).sum / (xs.length : ℚ)

/-- The line through two points, at `c` (R432). -/
def lineAt (x1 y1 x2 y2 c : ℚ) : ℚ := y1 + (y2 - y1) * (c - x1) / (x2 - x1)

/-- The integer `z` is `q` rounded, halves to even. -/
def Rounds (q : ℚ) (z : Int) : Prop := |q - z| ≤ 1 / 2 ∧ (|q - z| = 1 / 2 → z % 2 = 0)

/-- An L register written with an integer of 2^-31 units, saturated once; Q sets where it saturates (R164). -/
def putQ (x : EngState) (i : BitVec 4) (z : Int) : EngState :=
  { x.setL i (clamp32 z) with psw := if (clamp32 z).toInt = z then x.psw else x.psw ||| 0x10 }

/-! ### Memory -/

/-- An engine's access of `n` bytes at its address `a` reaches memory at lane address `la`: it is aligned, and
it lies in the engine's own memory or in a region that permits it (R97, R138, R190), and a load or a narrow store
finds no uncorrectable error in its word (R152, R214). The pair sees its own held stores (`ahead`, R158). -/
def Reaches (s : State) (e : Engine) (k : AccKind) (n : Nat) (a : Word) (la : Nat) : Prop :=
  a.toNat % n = 0 ∧ ∃ shared own sine, (s.ahead e).locate e a.toNat = .mem la shared own sine ∧
    (own = true ∨ (s.ahead e).permits e k a.toNat = true) ∧ (k = .wr → sine = false) ∧
    (k = .rd ∨ n < 4 → (s.ahead e).bad0 la = false ∧ (s.ahead e).oneCopy e la = false)

/-- `t` is `s` after a store of the `n` low bytes of `v` at lane address `la`, little-endian: those bytes of memory
change and no other; a whole word ends the word's error (R440); what else `now` and the engines hold may differ. -/
def StoredAt (s t : State) (n la : Nat) (v : Word) : Prop :=
  t = { s with mem := t.mem, ecc := t.ecc, ecc1 := t.ecc1, engs := t.engs, now := { s.now with lut := t.now.lut } } ∧
    (∀ k < n, t.mem.byte (la + k) = v.extractLsb' (8 * k) 8) ∧
    (∀ a, a < la ∨ la + n ≤ a → t.mem.byte a = s.mem.byte a) ∧
    (∀ w, w ∈ t.ecc ↔ w ∈ s.ecc ∧ ¬ (n = 4 ∧ w = la)) ∧ (∀ w, w ∈ t.ecc1 ↔ w ∈ s.ecc1 ∧ ¬ (n = 4 ∧ w = la))

/-- The command stores the `n` low bytes of `v` at lane address `la` and its engine retires. A store of the pair outside
its own copies is held instead, until core 1 has compared (R219), and nothing else changes. -/
def Stores (i : Instr) (s : State) (e : Engine) (n la : Nat) (v : Word) : Prop :=
  (s.holds e la = true → exec i s = .next (((s.hold (.mem la n v.toNat)).setEng e ((s.eng e).next 1)).push s e)) ∧
  (s.holds e la = false → ∃ t : State, exec i s = .next (t.push s e) ∧ StoredAt s t n la v ∧
    t.engs = s.engs.set (engIdx e).val ((s.eng e).next 1))

/-! ### What a command does to registers -/

/-- The register words of `t` are those of `s`, but for the fields listed, which hold the values listed. -/
def RegsAre (s t : State) (fs : List (Field × Nat)) : Prop :=
  ∀ a, t.reg a = fs.foldl (fun w x => if x.1.addr = a then w.put x.1.lo x.1.w x.2 else w) (s.reg a)

/-- The command answers the state `u`, with the register words of `s` but for the fields listed. -/
def Effect (c : Instr) (s u : State) (fs : List (Field × Nat)) : Prop :=
  ∃ t, exec c s = .next t ∧ t = { u with regs := t.regs } ∧ RegsAre s t fs

/-- One occurrence of an edge source: its count goes up, and SAT sets where the count is at its end (R230). -/
def raised (s : State) (n : Nat) : List (Field × Nat) :=
  if s.f (Fld.CAT_CNT_COUNT n) = 15 then [(Fld.CAT_CNT_SAT n, 1)]
  else [(Fld.CAT_CNT_COUNT n, s.f (Fld.CAT_CNT_COUNT n) + 1)]

/-- A level source's condition starts or ends to hold: it is pending from then on where it starts (R231). -/
def levelled (n : Nat) (on : Bool) : List (Field × Nat) :=
  (Fld.CAT_CNT_NOW n, Word.ofBool on) :: if on then [(Fld.CAT_CNT_COUNT n, 1)] else []

/-- An event of a trigger source (R194): the inputs that name it count it, in engines that take triggers, and
nothing else of the Sluice engines changes. -/
def EventOf (src : Nat) (s t : State) : Prop :=
  ∀ n : Fin 5, t.unit n = { s.unit n with inputs := (t.unit n).inputs } ∧ ∀ k : Fin 4,
    t.input n k =
      if (s.f (Fld.SLU_STAT_STATE n) = 1 ∨ s.f (Fld.SLU_STAT_STATE n) = 2) ∧ s.f (Fld.SLU_TRIG_SRC n k) = src then
        (if (s.input n k).divCnt < s.f (Fld.SLU_TRIG_DIV n k) then
          { s.input n k with divCnt := (s.input n k).divCnt + 1 }
         else { s.input n k with divCnt := 0, due := (s.input n k).due + 1 })
      else s.input n k

/-- The engine issues a register write that nothing keeps from its register (R97, R154, R191); of the pair in lockstep,
core 1 has retired all that came before (`closeLag`, log entry 68). -/
def Passes (s : State) (e : Engine) (a : Nat) : Prop :=
  s.closeLag e = s ∧ s.canIssue e = true ∧ s.writeGate e a = .pass

/-- A write that supervisor-level Millstone code makes (R192, R227). -/
def Pair (s : State) (e : Engine) (a : Nat) : Prop := Passes s e a ∧ isMsp e = true ∧ s.super e = true

end Sys2Proof.Safety
end

