-- ==== Sys2Proof/Certificates/Slice0/Obligations.lean ====
section
/-!
DEFINITION. The statements for the provers.
-/

open Sys2Proof Sys2Proof.Machine Sys2Proof.Safety

/-! ### The machine as a whole -/

/-- A step takes the command at the front of the queue: `exec` of it on the state with the rest of the queue waiting. -/
def Obligations.StepRunsFront : Prop :=
  ∀ (c : Instr) (rest : List Instr) (s : State), s.pending = c :: rest →
    step s = exec c { s with pending := rest }

/-- The reset state: a lane held in power-on reset with nothing waiting, every bridge inert, every memory zero and every
register at its Reset value, of which the clauses name those that are not zero in the blocks of chapters 16 to 18. The
output balls are at the levels that R47 gives them from power-up, after every POR too, and five cycles of TCK with TMS
high reset the TAP from every state (R48; its states are log entry 73).
That the lane is lane A, and that memory no command has written reads zero, are log entries 4 and 5. -/
def Obligations.ResetState : Prop :=
  let s := State.reset
  s.pending = [] ∧ s.rst.asserted = some .por ∧ s.live = false ∧ s.md = mBOOT ∧ s.f Fld.SYS_MODE_ROLE = 0 ∧
  s.stopDem = true ∧ s.faultLow = true ∧ Canonical s ∧ KeyInv s ∧ (∀ a, s.mem.byte a = 0) ∧ (∀ a, s.reg a = resetWord a) ∧
  (∀ b : Fin 5, s.bstate b = .inert ∧ ∀ k, (s.leg b k).gate = .inert) ∧
  s.f Fld.SAFE_CFG_DISC = 9 ∧ s.f Fld.SAFE_CFG_FILT = 4 ∧ s.f Fld.SAFE_CFG_FOLLOW = 3 ∧ s.f Fld.RACE_CTL_MUL = 8 ∧
  (∀ n : Fin 2, s.f (Fld.CAN_NBT_BRP n) = 7 ∧ s.f (Fld.CAN_NBT_TSEG1 n) = 26 ∧ s.f (Fld.CAN_NBT_TSEG2 n) = 3 ∧
    s.f (Fld.CAN_NBT_SJW n) = 3 ∧ ∀ k : Fin 32, s.reg (Reg.CAN_FLT_MASK n k.val) = 0x1FFFFFFF) ∧
  s.f Fld.PLB_CFG_PERIOD = 10 ∧ s.f Fld.PLB_CFG_WARN = 246 ∧ s.f Fld.PLB_SPARE_RESIDX = 4 ∧
  s.f Fld.PLB_SPARE_RETIDX = 7 ∧
  (let quiet (t : State) : Prop := ∀ vio : VioBand,
    (∀ b k, t.ball vio (.gh b k) = .low ∧ t.ball vio (.gl b k) = .low) ∧ t.ball vio .chargePump = .off ∧
    t.ball vio .spwG = .low ∧ (∀ p pair n, t.ball vio (.rpt p pair n) = .low) ∧
    (∀ k, t.ball vio (.sout k false) = .low ∧ t.ball vio (.sout k true) =
      (match vio with | .good => .high | .between => .open_ | .absent => .low)) ∧
    (∀ c, t.ball vio (.txen c) = .low ∧ t.ball vio (.txd c) = .high) ∧ (∀ n, t.ball vio (.canTx n) = .high) ∧
    t.ball vio .race = .low ∧ t.ball vio .pmb = .released ∧ t.ball vio .faultN = .low
   quiet s ∧ (∀ vio, s.ball vio .tdo = .highZ) ∧
     ∀ (r : Rail) (u t : State), exec (.por r) u = .next t → quiet t) ∧
  (∀ u : State, u.tapReset = { u with tap := .testLogicReset })

/-- With nothing waiting, a step is a tick of lane time: 16 units on the RC timebase and 1 on the others, none in a reset
or a low-power mode. It ends the instant, so that strobe firings, EMITs and stores that follow are of another one. It
changes nothing else where core 1 has caught up, the angle of B0 has stayed in its sector, and the Miller core has
nothing to log. That the empty queue ticks is the model's choice (log entry 8). -/
def Obligations.IdleStepTicks : Prop :=
  ∀ s : State, s.pending = [] →
    let off := s.rst.asserted ≠ none ∨ s.whd.phase ≠ .awake ∧ s.whd.phase ≠ .armed
    let quiet : State := { s with now := {}, whd := { s.whd with sameEdge := false } }
    let n := if s.f Fld.SYS_TBSEL_ACTIVE = 0 then 16 else 1
    (off → step s = .next quiet) ∧
    (¬ off → s.keepUp .msp0 = s → ∃ t, step s = .next t ∧ t.tnow = s.tnow + BitVec.ofNat 32 n ∧ t.age = s.age + n ∧
      t.now = {} ∧ t.mem = s.mem ∧ t.engs = s.engs ∧ t.md = s.md) ∧
    (¬ off → s.keepUp .msp0 = s → s.sealed = false ∨ (s.eng .miller).run = .halted →
      s.lockSector = (s.bridge 0).sector → ({ s with tnow := s.tnow + BitVec.ofNat 32 n, age := s.age + n } : State).lockSector = (s.bridge 0).sector →
      step s = .next { quiet with tnow := s.tnow + BitVec.ofNat 32 n, age := s.age + n })

/-- Every well-formed command runs to a next state, in every state; one whose operands name nothing that the lane has
faults, whatever the state. -/
def Obligations.EveryCommandRuns : Prop :=
  ∀ (c : Instr) (s : State), (c.wellFormed = true → ∃ t, exec c s = .next t) ∧
    (c.wellFormed = false → exec c s = .fault .illFormed)

/-- R105: no command changes which lane of which module it is, and none touches the queue of commands that wait. -/
def Obligations.LaneAndQueueKept : Prop :=
  ∀ (c : Instr) (s t : State), exec c s = .next t → SameLane s t ∧ t.pending = s.pending

/-- The memories and the register words keep their canonical form in every step, so that equal contents are equal data. -/
def Obligations.CanonicalKept : Prop :=
  ∀ s t : State, Canonical s → step s = .next t → Canonical t

/-- R87, R89: once the key well is locked, no step unlocks it or changes the key hash, resets included. -/
def Obligations.KeyLockKept : Prop :=
  ∀ s t : State, KeyInv s → step s = .next t → KeyInv t ∧ KeyKept s t

/-! ### The base instruction set (chapter 06) -/

/-- R132: sums, differences and comparisons of registers. R132: logic and shifts of registers. R132, R133: products,
quotients and remainders of registers. R132: the lesser and greater of two registers, and the operations on one
register. -/
def Obligations.IntegerInstructions : Prop :=
 (∀ (o : FmtA) (s : State), Issues s o.eng 1 →
    let a := (s.eng o.eng).getG o.ga
    let b := (s.eng o.eng).getG o.gb
    let c := ((s.eng o.eng).psw.getLsbD 2).toNat
    Computes (.add o) s o.eng 1 (some (o.gd, a + b)) (addBits a b 0) ∧
    Computes (.addc o) s o.eng 1 (some (o.gd, a + b + BitVec.ofNat 32 c)) (addBits a b c) ∧
    Computes (.sub o) s o.eng 1 (some (o.gd, a - b)) (subBits a b 0) ∧
    Computes (.subc o) s o.eng 1 (some (o.gd, a - b - BitVec.ofNat 32 (1 - c))) (subBits a b (1 - c)) ∧
    Computes (.adds o) s o.eng 1 (some (o.gd, clamp32 (a.toInt + b.toInt))) (satBits (a.toInt + b.toInt)) ∧
    Computes (.subs o) s o.eng 1 (some (o.gd, clamp32 (a.toInt - b.toInt))) (satBits (a.toInt - b.toInt)) ∧
    (o.gd = 0 → Computes (.cmp o) s o.eng 1 none (subBits a b 0))) ∧
 (∀ (o : FmtA) (s : State), Issues s o.eng 1 →
    let a := (s.eng o.eng).getG o.ga
    let b := (s.eng o.eng).getG o.gb
    let n := b.toNat % 32
    Computes (.and o) s o.eng 1 (some (o.gd, a &&& b)) (nz (a &&& b)) ∧
    Computes (.or o) s o.eng 1 (some (o.gd, a ||| b)) (nz (a ||| b)) ∧
    Computes (.xor o) s o.eng 1 (some (o.gd, a ^^^ b)) (nz (a ^^^ b)) ∧
    Computes (.andn o) s o.eng 1 (some (o.gd, a &&& ~~~b)) (nz (a &&& ~~~b)) ∧
    Computes (.shl o) s o.eng 1 (some (o.gd, a <<< n)) (shiftBits (a <<< n) n (a.getLsbD (32 - n))) ∧
    Computes (.shr o) s o.eng 1 (some (o.gd, a >>> n)) (shiftBits (a >>> n) n (a.getLsbD (n - 1))) ∧
    Computes (.sar o) s o.eng 1 (some (o.gd, a.sshiftRight n))
      (shiftBits (a.sshiftRight n) n (a.getLsbD (n - 1))) ∧
    Computes (.ror o) s o.eng 1 (some (o.gd, a.rotateRight n))
      (shiftBits (a.rotateRight n) n (a.getLsbD (n - 1)))) ∧
 (∀ (o : FmtA) (s : State), Issues s o.eng 1 →
    let a := (s.eng o.eng).getG o.ga
    let b := (s.eng o.eng).getG o.gb
    let corner := a = 0x80000000 ∧ b = 0xFFFFFFFF
    let q : Word := if b = 0 then (if 0 ≤ a.toInt then 0x7FFFFFFF else 0x80000000)
      else if corner then 0x7FFFFFFF else BitVec.ofInt 32 (a.toInt.tdiv b.toInt)
    let qu : Word := if b = 0 then 0xFFFFFFFF else BitVec.ofNat 32 (a.toNat / b.toNat)
    let r : Word := if b = 0 then a else if corner then 0 else BitVec.ofInt 32 (a.toInt.tmod b.toInt)
    let ru : Word := if b = 0 then a else BitVec.ofNat 32 (a.toNat % b.toNat)
    let lo := BitVec.ofInt 32 (a.toInt * b.toInt)
    let hs := BitVec.ofInt 32 (a.toInt * b.toInt / 2 ^ 32)
    let hu := BitVec.ofNat 32 (a.toNat * b.toNat / 2 ^ 32)
    Computes (.mul o) s o.eng 1 (some (o.gd, lo)) (nz lo) ∧
    Computes (.mulhs o) s o.eng 1 (some (o.gd, hs)) (nz hs) ∧
    Computes (.mulhu o) s o.eng 1 (some (o.gd, hu)) (nz hu) ∧
    Computes (.div o) s o.eng 1 (some (o.gd, q)) (nz q ++ [(3, decide (b = 0 ∨ corner))]) ∧
    Computes (.divu o) s o.eng 1 (some (o.gd, qu)) (nz qu ++ [(3, decide (b = 0))]) ∧
    Computes (.rem o) s o.eng 1 (some (o.gd, r)) (nz r ++ [(3, decide (b = 0 ∨ corner))]) ∧
    Computes (.remu o) s o.eng 1 (some (o.gd, ru)) (nz ru ++ [(3, decide (b = 0))])) ∧
 (∀ (o : FmtA) (s : State), Issues s o.eng 1 →
    let a := (s.eng o.eng).getG o.ga
    let b := (s.eng o.eng).getG o.gb
    let bits := (List.range 32).filter (fun k => a.getLsbD k)
    let cl := BitVec.ofNat 32 (match bits.getLast? with | some k => 31 - k | none => 32)
    let ct := BitVec.ofNat 32 (bits.head?.getD 32)
    let pc := BitVec.ofNat 32 bits.length
    let sb := BitVec.ofInt 32 (a.setWidth 8).toInt
    let sh := BitVec.ofInt 32 (a.setWidth 16).toInt
    let zh := BitVec.ofNat 32 (a.toNat % 65536)
    Computes (.min o) s o.eng 1 (some (o.gd, if a.toInt ≤ b.toInt then a else b)) [] ∧
    Computes (.max o) s o.eng 1 (some (o.gd, if a.toInt ≤ b.toInt then b else a)) [] ∧
    Computes (.minu o) s o.eng 1 (some (o.gd, if a.toNat ≤ b.toNat then a else b)) [] ∧
    Computes (.maxu o) s o.eng 1 (some (o.gd, if a.toNat ≤ b.toNat then b else a)) [] ∧
    (o.gb = 0 →
      Computes (.clz o) s o.eng 1 (some (o.gd, cl)) [(1, decide (cl = 0))] ∧
      Computes (.ctz o) s o.eng 1 (some (o.gd, ct)) [(1, decide (ct = 0))] ∧
      Computes (.popc o) s o.eng 1 (some (o.gd, pc)) [(1, decide (pc = 0))] ∧
      Computes (.sextb o) s o.eng 1 (some (o.gd, sb)) (nz sb) ∧
      Computes (.sexth o) s o.eng 1 (some (o.gd, sh)) (nz sh) ∧
      Computes (.zexth o) s o.eng 1 (some (o.gd, zh)) (nz zh) ∧
      Computes (.rev o) s o.eng 1 (some (o.gd,
        a.extractLsb' 0 8 ++ a.extractLsb' 8 8 ++ a.extractLsb' 16 8 ++ a.extractLsb' 24 8)) []))

/-- R134: the immediate instructions. R135, R136: the long immediates retire once, past both words. -/
def Obligations.ImmediateInstructions : Prop :=
 ((∀ (o : FmtI) (s : State), Issues s o.eng 1 →
    let a := (s.eng o.eng).getG o.ga
    let i := BitVec.ofInt 32 o.imm.toInt
    let u := BitVec.ofNat 32 o.imm.toNat
    Computes (.addi o) s o.eng 1 (some (o.gd, a + i)) (addBits a i 0) ∧
    Computes (.andi o) s o.eng 1 (some (o.gd, a &&& i)) (nz (a &&& i)) ∧
    Computes (.ori o) s o.eng 1 (some (o.gd, a ||| i)) (nz (a ||| i)) ∧
    Computes (.xori o) s o.eng 1 (some (o.gd, a ^^^ i)) (nz (a ^^^ i)) ∧
    Computes (.muli o) s o.eng 1 (some (o.gd, a * i)) (nz (a * i)) ∧
    (o.gd = 0 → Computes (.cmpi o) s o.eng 1 none (subBits a i 0)) ∧
    (o.gd = 0 → Computes (.cmpui o) s o.eng 1 none (subBits a u 0)) ∧
    (o.ga = 0 → Computes (.lui o) s o.eng 1 (some (o.gd, BitVec.ofNat 32 (o.imm.toNat * 2 ^ 15))) [])) ∧
  (∀ (o : FmtSh) (s : State), Issues s o.eng 1 → o.hi = 0 →
    let a := (s.eng o.eng).getG o.ga
    let n := o.amt.toNat
    Computes (.shli o) s o.eng 1 (some (o.gd, a <<< n)) (shiftBits (a <<< n) n (a.getLsbD (32 - n))) ∧
    Computes (.shri o) s o.eng 1 (some (o.gd, a >>> n)) (shiftBits (a >>> n) n (a.getLsbD (n - 1))) ∧
    Computes (.sari o) s o.eng 1 (some (o.gd, a.sshiftRight n))
      (shiftBits (a.sshiftRight n) n (a.getLsbD (n - 1))) ∧
    Computes (.rori o) s o.eng 1 (some (o.gd, a.rotateRight n))
      (shiftBits (a.rotateRight n) n (a.getLsbD (n - 1))))) ∧
 (∀ (o : FmtLI) (s : State), Issues s o.eng 2 → o.low = 0 →
    let a := (s.eng o.eng).getG o.ga
    Computes (.addli o) s o.eng 2 (some (o.gd, a + o.imm)) (addBits a o.imm 0) ∧
    Computes (.andli o) s o.eng 2 (some (o.gd, a &&& o.imm)) (nz (a &&& o.imm)) ∧
    Computes (.orli o) s o.eng 2 (some (o.gd, a ||| o.imm)) (nz (a ||| o.imm)) ∧
    Computes (.xorli o) s o.eng 2 (some (o.gd, a ^^^ o.imm)) (nz (a ^^^ o.imm)) ∧
    (o.gd = 0 → Computes (.cmpli o) s o.eng 2 none (subBits a o.imm 0)) ∧
    (o.ga = 0 → Computes (.li o) s o.eng 2 (some (o.gd, o.imm)) []) ∧
    (o.ga = 0 → o.eng ≠ .flume → o.gd.toNat < 16 → Retires (.fli o) s o.eng 2 ((s.eng o.eng).setFr o.gd o.imm)))

/-- R131, R134, R135, R152: a field that must be 0 and is not raises ILLEGAL with the major, and nothing else happens.
R125, R127: a float instruction on the Flume engine, and a field that names an f register with bit 4 set, raise
ILLEGAL. R130, R131: a word runs as the instruction that it spells, and one that spells none, such as 0x00000000,
0xFFFFFFFF and every word of a reserved major, raises ILLEGAL; two words of chapter 06's example. -/
def Obligations.IllegalForms : Prop :=
 ((∀ (o : FmtA) (s : State), Issues s o.eng 1 → o.gb ≠ 0 →
    Raises (.clz o) s o.eng ⟨1, 0, none, 0⟩ ∧ Raises (.ctz o) s o.eng ⟨1, 0, none, 0⟩ ∧
    Raises (.popc o) s o.eng ⟨1, 0, none, 0⟩ ∧ Raises (.sextb o) s o.eng ⟨1, 0, none, 0⟩ ∧
    Raises (.sexth o) s o.eng ⟨1, 0, none, 0⟩ ∧ Raises (.zexth o) s o.eng ⟨1, 0, none, 0⟩ ∧
    Raises (.rev o) s o.eng ⟨1, 0, none, 0⟩ ∧ Raises (.lda o) s o.eng ⟨1, 0x17, none, 0⟩ ∧
    Raises (.jr o) s o.eng ⟨1, 0x15, none, 0⟩ ∧ Raises (.jalr o) s o.eng ⟨1, 0x15, none, 0⟩) ∧
  (∀ (o : FmtA) (s : State), Issues s o.eng 1 → o.gd ≠ 0 →
    Raises (.cmp o) s o.eng ⟨1, 0, none, 0⟩ ∧ Raises (.str o) s o.eng ⟨1, 0x17, none, 0⟩ ∧
    Raises (.fence o) s o.eng ⟨1, 0x17, none, 0⟩ ∧ Raises (.ifence o) s o.eng ⟨1, 0x17, none, 0⟩) ∧
  (∀ (o : FmtI) (s : State), Issues s o.eng 1 →
    (o.gd ≠ 0 → Raises (.cmpi o) s o.eng ⟨1, 6, none, 0⟩ ∧ Raises (.cmpui o) s o.eng ⟨1, 9, none, 0⟩) ∧
    (o.ga ≠ 0 → Raises (.lui o) s o.eng ⟨1, 7, none, 0⟩)) ∧
  (∀ (o : FmtSh) (s : State), Issues s o.eng 1 → o.hi ≠ 0 →
    Raises (.shli o) s o.eng ⟨1, 5, none, 0⟩ ∧ Raises (.shri o) s o.eng ⟨1, 5, none, 0⟩ ∧
    Raises (.sari o) s o.eng ⟨1, 5, none, 0⟩ ∧ Raises (.rori o) s o.eng ⟨1, 5, none, 0⟩) ∧
  (∀ (o : FmtLI) (s : State), Issues s o.eng 2 →
    (o.low ≠ 0 → Raises (.addli o) s o.eng ⟨1, 0x1F, none, 0⟩ ∧ Raises (.andli o) s o.eng ⟨1, 0x1F, none, 0⟩ ∧
      Raises (.orli o) s o.eng ⟨1, 0x1F, none, 0⟩ ∧ Raises (.xorli o) s o.eng ⟨1, 0x1F, none, 0⟩) ∧
    (o.low ≠ 0 ∨ o.gd ≠ 0 → Raises (.cmpli o) s o.eng ⟨1, 0x1F, none, 0⟩) ∧
    (o.low ≠ 0 ∨ o.ga ≠ 0 → Raises (.li o) s o.eng ⟨1, 0x1F, none, 0⟩ ∧
      Raises (.fli o) s o.eng ⟨1, 0x1F, none, 0⟩))) ∧
 (∀ (o : FmtA) (s : State), Issues s o.eng 1 →
    (o.eng = .flume ∨ 16 ≤ o.gd.toNat ∨ 16 ≤ o.ga.toNat ∨ 16 ≤ o.gb.toNat →
      Raises (.fadd o) s o.eng ⟨1, 0x16, none, 0⟩ ∧ Raises (.fsub o) s o.eng ⟨1, 0x16, none, 0⟩ ∧
      Raises (.fmul o) s o.eng ⟨1, 0x16, none, 0⟩ ∧ Raises (.fdiv o) s o.eng ⟨1, 0x16, none, 0⟩ ∧
      Raises (.fma o) s o.eng ⟨1, 0x16, none, 0⟩ ∧ Raises (.fmin o) s o.eng ⟨1, 0x16, none, 0⟩ ∧
      Raises (.fmax o) s o.eng ⟨1, 0x16, none, 0⟩) ∧
    (o.eng = .flume ∨ o.gb ≠ 0 ∨ 16 ≤ o.ga.toNat →
      Raises (.fcvtws o) s o.eng ⟨1, 0x16, none, 0⟩ ∧ Raises (.fcvtwsz o) s o.eng ⟨1, 0x16, none, 0⟩ ∧
      Raises (.fmvws o) s o.eng ⟨1, 0x16, none, 0⟩)) ∧
 (∀ (e : Engine) (w w2 : Word) (s : State), Issues s e 1 →
    (decodeWord e w w2 = none →
      s.runWord e w w2 = .next ((s.raiseExc e ⟨1, w.toNat / 2 ^ 27, none, 0⟩).push s e)) ∧
    (w = 0 ∨ w = 0xFFFFFFFF ∨ 0x0A ≤ w.toNat / 2 ^ 27 ∧ w.toNat / 2 ^ 27 < 0x10 → decodeWord e w w2 = none) ∧
    (∀ i, decodeWord e w w2 = some i → s.runWord e w w2 = exec i s) ∧
    decodeWord e 0x098C0001 w2 = some (.addi ⟨e, 6, 6, 1⟩) ∧ decodeWord e 0xB8086002 w2 = some (.str ⟨e, 0, 4, 6⟩))

/-- R137, R138: loads from memory write the register named, sign- or zero-extended, and nothing else but the pc and the
count of retired instructions. R137, R138, R144: stores to memory change the bytes stored to and no other, and write
no register but the pc and the count of retired instructions. R144: SWAP and CAS exchange a word of shared memory;
elsewhere they raise ATOMIC. -/
def Obligations.LoadsStoresAndAtomics : Prop :=
 ((∀ (o : FmtM) (s : State) (la : Nat), Issues s o.eng 1 →
    let x := s.eng o.eng
    let a := x.getG o.ga + BitVec.ofInt 32 o.off.toInt
    let m := (s.ahead o.eng).memByte
    let b := m la
    let h := m (la + 1) ++ m la
    let w := m (la + 3) ++ m (la + 2) ++ m (la + 1) ++ m la
    LoadsNow s o.eng a →
    (Reaches s o.eng .rd 1 a la →
      Loads (.ldb o) s o.eng a b.toNat (x.setG o.gd (BitVec.ofInt 32 b.toInt)) ∧
      Loads (.ldbu o) s o.eng a b.toNat (x.setG o.gd (BitVec.ofNat 32 b.toNat))) ∧
    (Reaches s o.eng .rd 2 a la →
      Loads (.ldh o) s o.eng a h.toNat (x.setG o.gd (BitVec.ofInt 32 h.toInt)) ∧
      Loads (.ldhu o) s o.eng a h.toNat (x.setG o.gd (BitVec.ofNat 32 h.toNat))) ∧
    (Reaches s o.eng .rd 4 a la →
      Loads (.ldw o false) s o.eng a w.toNat (x.setG o.gd w) ∧
      (o.eng ≠ .flume → o.gd.toNat < 16 → Loads (.fld o 2) s o.eng a w.toNat (x.setFr o.gd w)))) ∧
  (∀ (o : FmtX) (s : State) (la : Nat), Issues s o.eng 1 → o.hi = 0 →
    let x := s.eng o.eng
    let a := x.getG o.ga + (x.getG o.gb <<< o.sc.toNat)
    let m := (s.ahead o.eng).memByte
    let b := m la
    let h := m (la + 1) ++ m la
    let w := m (la + 3) ++ m (la + 2) ++ m (la + 1) ++ m la
    LoadsNow s o.eng a →
    (o.size = 0 → Reaches s o.eng .rd 1 a la →
      Loads (.ldx o) s o.eng a b.toNat (x.setG o.gd (BitVec.ofInt 32 b.toInt)) ∧
      Loads (.ldxu o) s o.eng a b.toNat (x.setG o.gd (BitVec.ofNat 32 b.toNat))) ∧
    (o.size = 1 → Reaches s o.eng .rd 2 a la →
      Loads (.ldx o) s o.eng a h.toNat (x.setG o.gd (BitVec.ofInt 32 h.toInt)) ∧
      Loads (.ldxu o) s o.eng a h.toNat (x.setG o.gd (BitVec.ofNat 32 h.toNat))) ∧
    (o.size = 2 → Reaches s o.eng .rd 4 a la → Loads (.ldx o) s o.eng a w.toNat (x.setG o.gd w))) ∧
  (∀ (o : FmtA) (s : State) (la : Nat), Issues s o.eng 1 → o.gb = 0 →
    let a := (s.eng o.eng).getG o.ga
    let m := (s.ahead o.eng).memByte
    let w := m (la + 3) ++ m (la + 2) ++ m (la + 1) ++ m la
    LoadsNow s o.eng a → Reaches s o.eng .rd 4 a la →
      Loads (.lda o) s o.eng a w.toNat ((s.eng o.eng).setG o.gd w))) ∧
 ((∀ (o : FmtM) (s : State) (la : Nat), Issues s o.eng 1 →
    let x := s.eng o.eng
    let a := x.getG o.ga + BitVec.ofInt 32 o.off.toInt
    (Reaches s o.eng .wr 1 a la → Stores (.stb o false) s o.eng 1 la (x.getG o.gd)) ∧
    (Reaches s o.eng .wr 2 a la → Stores (.sth o false) s o.eng 2 la (x.getG o.gd)) ∧
    (Reaches s o.eng .wr 4 a la → Stores (.stw o false) s o.eng 4 la (x.getG o.gd) ∧
      (o.eng ≠ .flume → o.gd.toNat < 16 → Stores (.fst o 2) s o.eng 4 la (x.getF o.gd)))) ∧
  (∀ (o : FmtX) (s : State) (la : Nat), Issues s o.eng 1 → o.hi = 0 →
    let x := s.eng o.eng
    let a := x.getG o.ga + (x.getG o.gb <<< o.sc.toNat)
    o.size ≠ 3 → Reaches s o.eng .wr (2 ^ o.size.toNat) a la →
      Stores (.stx o false) s o.eng (2 ^ o.size.toNat) la (x.getG o.gd)) ∧
  (∀ (o : FmtA) (s : State) (la : Nat), Issues s o.eng 1 → o.gd = 0 →
    Reaches s o.eng .wr 4 ((s.eng o.eng).getG o.ga) la →
    Stores (.str o) s o.eng 4 la ((s.eng o.eng).getG o.gb))) ∧
 (∀ (o : FmtA) (s : State), Issues s o.eng 1 → Closed s o.eng → HasEntry s o.eng →
    let x := s.eng o.eng
    let a := x.getG o.ga
    let grants := s.permits o.eng .rd a.toNat = true ∧ s.permits o.eng .wr a.toNat = true
    let takes (i : Instr) (la : Nat) (old v : Word) (y : EngState) : Prop := ∃ t : State, StoredAt s t 4 la v ∧
      t.engs = s.engs ∧ exec i s = .next (((t.capture o.eng .atomic old).setEng o.eng (y.next 1)).push s o.eng)
    (∀ la own sine, s.locate o.eng a.toNat = .mem la true own sine → a.toNat % 4 = 0 → (own = true ∨ grants) →
      let old := s.memWord la
      (s.bad0 la = false → takes (.swap o) la old (x.getG o.gb) (x.setG o.gd old) ∧
        ∃ p, BitsAre x.psw p [(1, decide (old = x.getG o.gd))] ∧
          takes (.cas o) la old (if old = x.getG o.gd then x.getG o.gb else old)
            (({ x with psw := p } : EngState).setG o.gd old)) ∧
      (s.bad0 la = true → Raises (.swap o) s o.eng ⟨0x0A, 1, some a, 0⟩ ∧ Raises (.cas o) s o.eng ⟨0x0A, 1, some a, 0⟩)) ∧
    ((∀ la own sine, s.locate o.eng a.toNat ≠ .mem la true own sine) → a.toNat % 4 = 0 →
      (s.locate o.eng a.toNat).checked = false ∨ grants →
      Raises (.swap o) s o.eng ⟨9, 0, some a, 0⟩ ∧ Raises (.cas o) s o.eng ⟨9, 0, some a, 0⟩))

/-- R137, R138, R152, R154: what a data access that is misaligned, refused by the regions, or in no memory raises; a
size code 3, and U = 1 with a word, are ILLEGAL. R153, R156: taking an exception, where it is no double fault: what
is saved, the level, and the handler. R155: an EVENT is entered before the next instruction, where IE = 1 and an
enabled source is pending; until then the engine issues nothing. R152, R214: a load of a word with an uncorrectable error, and a narrow
store to one, raise ECC. -/
def Obligations.Exceptions : Prop :=
 (∀ (o : FmtM) (s : State), Issues s o.eng 1 →
    let x := s.eng o.eng
    let a := x.getG o.ga + BitVec.ofInt 32 o.off.toInt
    let at_ := s.locate o.eng a.toNat
    let free := s.storePriv o.eng a (x.getG o.gd) = none
    (LoadsNow s o.eng a →
      (a.toNat % 4 ≠ 0 → at_ ≠ .regs ∨ o.eng ≠ .flume → Raises (.ldw o false) s o.eng ⟨7, 2, some a, 0⟩) ∧
      (a.toNat % 2 ≠ 0 → at_ ≠ .regs ∨ o.eng ≠ .flume →
        Raises (.ldh o) s o.eng ⟨7, 1, some a, 0⟩ ∧ Raises (.ldhu o) s o.eng ⟨7, 1, some a, 0⟩) ∧
      (at_ = .regs → o.eng ≠ .flume →
        Raises (.ldb o) s o.eng ⟨7, 0, some a, 0⟩ ∧ Raises (.ldbu o) s o.eng ⟨7, 0, some a, 0⟩ ∧
        Raises (.ldh o) s o.eng ⟨7, 1, some a, 0⟩) ∧
      (at_ = .none → a.toNat % 4 = 0 → Raises (.ldw o false) s o.eng ⟨8, 1, some a, 0⟩) ∧
      (∀ la sh sine, at_ = .mem la sh false sine → a.toNat % 4 = 0 → o.eng ≠ .flume →
        s.permits o.eng .rd a.toNat = false → Raises (.ldw o false) s o.eng ⟨4, 0, some a, 0⟩) ∧
      (∀ la sh own sine, at_ = .mem la sh own sine → a.toNat % 4 = 0 → own = true ∨ s.permits o.eng .rd a.toNat = true →
        (s.ahead o.eng).bad0 la = true → (s.ahead o.eng).oneCopy o.eng la = false →
        Raises (.ldw o false) s o.eng ⟨0x0A, 1, some a, 0⟩)) ∧
    (a.toNat % 4 ≠ 0 → at_ ≠ .regs ∨ o.eng ≠ .flume → free → Raises (.stw o false) s o.eng ⟨7, 2, some a, 0⟩) ∧
    (a.toNat % 2 ≠ 0 → at_ ≠ .regs ∨ o.eng ≠ .flume → free → Raises (.sth o false) s o.eng ⟨7, 1, some a, 0⟩) ∧
    (at_ = .regs → o.eng ≠ .flume → free → Raises (.stb o false) s o.eng ⟨7, 0, some a, 0⟩) ∧
    (∀ c, s.storePriv o.eng a (x.getG o.gd) = some c → c.code = 2 ∧ c.info = 3 ∧
      Raises (.stb o false) s o.eng c ∧ Raises (.sth o false) s o.eng c ∧ Raises (.stw o false) s o.eng c) ∧
    (at_ = .none → a.toNat % 4 = 0 → Raises (.stw o false) s o.eng ⟨8, 1, some a, 0⟩) ∧
    (∀ la sh sine, at_ = .mem la sh false sine → a.toNat % 4 = 0 → o.eng ≠ .flume →
      s.permits o.eng .wr a.toNat = false → Raises (.stw o false) s o.eng ⟨5, 0, some a, 0⟩) ∧
    (∀ la sh own, at_ = .mem la sh own false → own = true ∨ s.permits o.eng .wr a.toNat = true →
      (s.ahead o.eng).bad0 la = true → (s.ahead o.eng).oneCopy o.eng la = false →
      Raises (.stb o false) s o.eng ⟨0x0A, 1, some a, 0⟩) ∧
    (HasEntry s o.eng → (s.drainLoad o.eng a = true → Closed s o.eng) →
      Raises (.ldw o true) s o.eng ⟨1, 0x10, none, 0⟩ ∧ Raises (.fld o 3) s o.eng ⟨1, 0x12, none, 0⟩) ∧
    Raises (.stw o true) s o.eng ⟨1, 0x11, none, 0⟩ ∧
    Raises (.stb o true) s o.eng ⟨1, 0x11, none, 0⟩ ∧ Raises (.sth o true) s o.eng ⟨1, 0x11, none, 0⟩ ∧
    Raises (.fst o 0) s o.eng ⟨1, 0x12, none, 0⟩) ∧
 (∀ (s : State) (e : Engine) (c : Exc), (s.eng e).psw.getLsbD 10 = false → c.code < 256 → c.info < 4096 →
    let x := s.eng e
    ∃ y : EngState, s.takeExc e c = s.setEng e y ∧
      y = { x with epsw := y.epsw, epc := y.epc, cause := y.cause, badaddr := y.badaddr, psw := y.psw, pc := y.pc } ∧
      y.epsw = x.psw ∧ y.epc = x.pc + BitVec.ofNat 32 c.epcOff ∧
      y.cause.toNat % 256 = c.code ∧ y.cause.toNat / 256 % 4096 = c.info ∧
      y.cause.getLsbD 31 = !x.psw.getLsbD 9 ∧
      y.badaddr = c.bad.getD x.badaddr ∧
      BitsAre x.psw y.psw ([(10, true), (8, false)] ++
        (match e with | .slu _ => [] | .flume => [] | _ => [(9, true)])) ∧
      y.pc = x.vec + (if c.code = 0x10 then 0x80 else 0)) ∧
 (∀ (e : Engine) (s : State), s.live = true → (s.eng e).run = .running → (e = .msp1 → s.lockstep = false) →
    (s.eng e).psw.getLsbD 8 = true → s.eventPending e = true → s.keepUp e = s → HasEntry s e → s.held e = false →
      exec (.eventEntry e) s = .next (((s.capture e .event 1).raiseExc e ⟨0x10, 0, none, 0⟩).push s e) ∧
      s.canIssue e = false)

/-- R139, R140: where branches and jumps go, and what CALL and JALR write. -/
def Obligations.BranchesAndJumps : Prop :=
  (∀ (o : FmtB) (s : State), Issues s o.eng 1 →
    let x := s.eng o.eng
    let n := x.psw.getLsbD 0
    let z := x.psw.getLsbD 1
    let c := x.psw.getLsbD 2
    let v := x.psw.getLsbD 3
    let goes (taken : Bool) : Host.Outcome State Fault Refusal := .next ((s.setEng o.eng { x with
      pc := if taken then x.pc + BitVec.ofInt 32 (4 * o.off.toInt) else x.pc + 4, retired := x.retired + 1 }).push s o.eng)
    exec (.bal o) s = goes true ∧ exec (.beq o) s = goes z ∧ exec (.bne o) s = goes (!z) ∧
    exec (.blt o) s = goes (n != v) ∧ exec (.bge o) s = goes (n == v) ∧
    exec (.bltu o) s = goes (!c) ∧ exec (.bgeu o) s = goes c ∧
    exec (.call o) s = .next ((s.setEng o.eng { x.setG 31 (x.pc + 4) with
      pc := x.pc + BitVec.ofInt 32 (4 * o.off.toInt), retired := x.retired + 1 }).push s o.eng)) ∧
  (∀ (o : FmtA) (s : State), Issues s o.eng 1 → o.gb = 0 →
    let x := s.eng o.eng
    let a := x.getG o.ga
    (a.toNat % 4 = 0 →
      (o.gd = 0 → exec (.jr o) s = .next ((s.setEng o.eng { x with pc := a, retired := x.retired + 1 }).push s o.eng)) ∧
      exec (.jalr o) s = .next ((s.setEng o.eng { x.setG o.gd (x.pc + 4) with
        pc := a, retired := x.retired + 1 }).push s o.eng)) ∧
    (a.toNat % 4 ≠ 0 →
      (o.gd = 0 → Raises (.jr o) s o.eng ⟨6, 0, some a, 0⟩) ∧ Raises (.jalr o) s o.eng ⟨6, 0, some a, 0⟩))

/-- R141, R142: the float operations that round: fd is the exact result rounded by cw.fcsr.RM, the sticky flags are
joined into cw.fcsr, and PSW keeps its value. R142, R143: the float operations that do not round, and FCMP's flags. -/
def Obligations.FloatInstructions : Prop :=
 (∀ (o : FmtA) (s : State), Issues s o.eng 1 → o.eng ≠ .flume →
    let x := s.eng o.eng
    let a := fval (x.getF o.ga)
    let b := fval (x.getF o.gb)
    let d := fval (x.getF o.gd)
    let rm := x.fcsr.toNat / 256 % 4
    let gives (r : Word × Nat) : EngState :=
      { x.setFr o.gd r.1 with fcsr := x.fcsr ||| BitVec.ofNat 32 r.2 }
    (o.gd.toNat < 16 → o.ga.toNat < 16 → o.gb.toNat < 16 →
      Retires (.fadd o) s o.eng 1 (gives (fAdd rm a b)) ∧
      Retires (.fsub o) s o.eng 1 (gives (fAdd rm a (fNegV b))) ∧
      Retires (.fmul o) s o.eng 1 (gives (fMul rm a b)) ∧
      Retires (.fdiv o) s o.eng 1 (gives (fDiv rm a b)) ∧
      Retires (.fma o) s o.eng 1 (gives (fFma rm d a b)) ∧
      Retires (.fmin o) s o.eng 1 (gives (fMinMax true (x.getF o.ga) (x.getF o.gb))) ∧
      Retires (.fmax o) s o.eng 1 (gives (fMinMax false (x.getF o.ga) (x.getF o.gb)))) ∧
    (o.gb = 0 → o.gd.toNat < 16 → o.ga.toNat < 16 →
      Retires (.fsqrt o) s o.eng 1 (gives (fSqrt rm a))) ∧
    (o.gb = 0 → o.gd.toNat < 16 →
      Retires (.fcvtsw o) s o.eng 1 (gives (fOfInt rm (x.getG o.ga)))) ∧
    (o.gb = 0 → o.ga.toNat < 16 →
      Retires (.fcvtws o) s o.eng 1 { x.setG o.gd (fCvt rm a).1 with
        fcsr := x.fcsr ||| BitVec.ofNat 32 (fCvt rm a).2 } ∧
      Retires (.fcvtwsz o) s o.eng 1 { x.setG o.gd (fCvt 1 a).1 with
        fcsr := x.fcsr ||| BitVec.ofNat 32 (fCvt 1 a).2 })) ∧
 (∀ (o : FmtA) (s : State), Issues s o.eng 1 → o.eng ≠ .flume →
    let x := s.eng o.eng
    let w := x.getF o.ga
    (o.gb = 0 → o.gd.toNat < 16 → o.ga.toNat < 16 →
      Retires (.fabs o) s o.eng 1 (x.setFr o.gd (BitVec.ofNat 32 (w.toNat % 2 ^ 31))) ∧
      Retires (.fneg o) s o.eng 1 (x.setFr o.gd (w ^^^ 0x80000000)) ∧
      Retires (.fmov o) s o.eng 1 (x.setFr o.gd w)) ∧
    (o.gb = 0 → o.ga.toNat < 16 → Retires (.fmvws o) s o.eng 1 (x.setG o.gd w)) ∧
    (o.gb = 0 → o.gd.toNat < 16 → Retires (.fmvsw o) s o.eng 1 (x.setFr o.gd (x.getG o.ga))) ∧
    (o.gd = 0 → o.ga.toNat < 16 → o.gb.toNat < 16 →
      let c := fCompare (fval w) (fval (x.getF o.gb))
      ∃ p, BitsAre x.psw p (match c with
          | some .lt => [(0, true), (1, false), (2, false), (3, false)]
          | some .eq => [(0, false), (1, true), (2, true), (3, false)]
          | some .gt => [(0, false), (1, false), (2, true), (3, false)]
          | none => [(0, true), (1, false), (2, false), (3, true)]) ∧
        Retires (.fcmp o) s o.eng 1 { x with
          psw := p, fcsr := if c = none then x.fcsr ||| 0x10 else x.fcsr }))

/-- R145, R147, R157: TRAP, RETT, WAIT, SLEEP and the barriers. R148, R150: reading and writing a control word. -/
def Obligations.SystemAndControlWords : Prop :=
 ((∀ (o : FmtS) (s : State), Issues s o.eng 1 → o.gd = 0 → o.ga = 0 →
    let x := s.eng o.eng
    Raises (.trap o) s o.eng ⟨0x0B, o.num.toNat, none, 4⟩ ∧
    (o.num = 0 → x.psw.getLsbD 9 = true →
      (∃ p, BitsAre x.epsw p (match o.eng with | .slu _ => [(9, true)] | .flume => [(9, true)] | _ => []) ∧
        exec (.rett o) s = .next ((s.setEng o.eng { x with
          pc := x.epc, psw := p, retired := x.retired + 1 }).push s o.eng)) ∧
      (o.eng = .msp0 → HasEntry s o.eng →
        Takes (.sleep o) s o.eng .sleep (BitVec.ofNat 32 (s.f Fld.SYS_MODE_REQST)) { x with
          run := if s.f Fld.SYS_MODE_REQST = 1 then .sleeping else .running })) ∧
    (o.num = 0 → x.psw.getLsbD 9 = false → Raises (.rett o) s o.eng ⟨2, 1, none, 0⟩) ∧
    (o.num = 0 → (o.eng = .msp0 ∧ x.psw.getLsbD 9 = false) ∨ o.eng = .msp1 → HasEntry s o.eng →
      Raises (.sleep o) s o.eng ⟨2, 1, none, 0⟩ ∧ (Closed s o.eng → Raises (.seal o) s o.eng ⟨2, 1, none, 0⟩)) ∧
    (o.num = 0 → (∀ n, o.eng ≠ .slu n) → HasEntry s o.eng →
      Takes (.wait o) s o.eng .wait (if s.eventPending o.eng then 1 else 0)
        { x with run := if s.eventPending o.eng then .running else .waiting }) ∧
    (∀ n, o.eng = .slu n → Raises (.wait o) s o.eng ⟨1, 0x1E, none, 0⟩ ∧
      Raises (.sleep o) s o.eng ⟨1, 0x1E, none, 0⟩ ∧ Raises (.seal o) s o.eng ⟨1, 0x1E, none, 0⟩)) ∧
  (∀ (o : FmtA) (s : State), Issues s o.eng 1 → Closed s o.eng → o.gd = 0 → o.ga = 0 → o.gb = 0 →
    Retires (.fence o) s o.eng 1 (s.eng o.eng) ∧ Retires (.ifence o) s o.eng 1 (s.eng o.eng)) ∧
  (∀ (e : Engine) (s : State), s.live = true → (s.eng e).run = .waiting → s.eventPending e = true →
    exec (.waitResume e) s = .next (s.setEng e { s.eng e with run := .running }))) ∧
 (∀ (o : FmtS) (s : State), Issues s o.eng 1 →
    let x := s.eng o.eng
    let sup := x.psw.getLsbD 9
    let two := match o.eng with | .slu _ => false | .flume => false | _ => true
    let v := x.getG o.ga
    let held (n : Nat) : Word :=
      if n = 0 then x.psw else if n = 1 then x.epsw else if n = 2 then x.epc else if n = 3 then x.cause
      else if n = 4 then x.badaddr else if n = 5 then x.vec else if n = 6 then x.scratch
      else if n = 8 then x.fcsr else if n = 0x11 then x.retired else s.tnow
    let n := o.num.toNat
    let listed := n ≤ 6 ∨ (n = 8 ∧ o.eng ≠ .flume) ∨ n = 0x10 ∨ n = 0x11 ∨ n = 0x12
    (o.ga = 0 → listed → n ≠ 0x10 → n ≠ 0x12 → (sup = true ∨ n = 0 ∨ 8 ≤ n) →
      Retires (.cwr o) s o.eng 1 (x.setG o.gd (held n))) ∧
    (o.ga = 0 → n = 0x12 → HasEntry s o.eng → Takes (.cwr o) s o.eng .tnow s.tnow (x.setG o.gd s.tnow)) ∧
    (o.gd = 0 → sup = true →
      (n = 2 → Retires (.cww o) s o.eng 1 { x with epc := v }) ∧
      (n = 3 → Retires (.cww o) s o.eng 1 { x with cause := v &&& 0x800FFFFF }) ∧
      (n = 4 ∨ n = 0x10 ∨ n = 0x11 ∨ n = 0x12 → Retires (.cww o) s o.eng 1 x) ∧
      (n = 5 → Retires (.cww o) s o.eng 1 { x with vec := v &&& 0xFFFFFF00 }) ∧
      (n = 6 → Retires (.cww o) s o.eng 1 { x with scratch := v }) ∧
      (n = 8 → o.eng ≠ .flume → Retires (.cww o) s o.eng 1 { x with fcsr := v &&& 0x31F }) ∧
      (n = 1 → ∃ p, BitsAre (v &&& 0x73F) p (if two then [] else [(9, true)]) ∧
        Retires (.cww o) s o.eng 1 { x with epsw := p }) ∧
      (n = 0 → ∃ p, BitsAre (v &&& 0x73F) p [(9, true)] ∧ Retires (.cww o) s o.eng 1 { x with psw := p })) ∧
    (sup = false → 1 ≤ n → n ≤ 6 →
      (o.ga = 0 → Raises (.cwr o) s o.eng ⟨2, 2, none, 0⟩) ∧
      (o.gd = 0 → Raises (.cww o) s o.eng ⟨2, 2, none, 0⟩)) ∧
    (sup = false → n = 0 → o.gd = 0 →
      Retires (.cww o) s o.eng 1 { x with psw := (x.psw &&& ~~~0x3F) ||| (v &&& 0x3F) }) ∧
    (¬ listed → Raises (.cwr o) s o.eng ⟨1, 0x1E, none, 0⟩ ∧ Raises (.cww o) s o.eng ⟨1, 0x1E, none, 0⟩))

/-! ### The control extension (chapter 07) -/

/-- R141: rounding to nearest is to the nearest: for a positive quotient of numbers, in units of 2^-149, the finite word
that `roundRat` gives lies no further from it than any other finite word of either sign. R164, R166: an exact result
in Q(√3) is rounded once, to the nearest integer of its unit, halves to even. -/
def Obligations.RoundingIsNearest : Prop :=
 (∀ (n d : Nat) (w : Word), 0 < n → 0 < d → ∀ m e m' e' neg',
    fval (roundRat 0 false n d).1 = .fin false m e → fval w = .fin neg' m' e' →
      (((m * 2 ^ e * d : Nat) : Int) - (n : Int)).natAbs ≤ (finInt neg' m' e' * (d : Int) - (n : Int)).natAbs) ∧
 (∀ x : Surd, |(x.round : ℝ) - surdVal x| ≤ 1 / 2 ∧
    (|(x.round : ℝ) - surdVal x| = 1 / 2 → x.round % 2 = 0))

/-- R174, R178 to R181: the Q1.31 forms of the multiply-add instructions, INTH, CLMP and FFV, and SATQ on Q1.31. R165,
R166, R174, R178 to R181: the binary32 forms: one rounding of the exact result over the operands, a NaN operand
taken as +0 with NV. -/
def Obligations.ControlArithmetic : Prop :=
 ((∀ (o : FmtC) (s : State), Issues s o.eng 1 → hasCtl o.eng = true → o.t = false →
    let x := s.eng o.eng
    let l (i : BitVec 4) : Int := (x.getL i).toInt
    let lc : BitVec 4 := o.arg.setWidth 4
    let sum (c a b : Int) : EngState := putQ x o.ld (halfEvenInt (c * 2 ^ 31 + a * b) (2 ^ 31))
    (o.arg = 0 → Retires (.macq o) s o.eng 1 (sum (l o.ld) (l o.la) (l o.lb))) ∧
    (o.arg = 0 → Retires (.inth o) s o.eng 1
      (if x.psw.getLsbD 5 then x else sum (l o.ld) (l o.la) (l o.lb))) ∧
    (o.arg.toNat < 16 → Retires (.ffa o) s o.eng 1 (sum (l o.la) (l o.lb) (l lc))) ∧
    (o.arg.toNat < 16 → Retires (.clmp o) s o.eng 1
      { x.setL o.ld (BitVec.ofInt 32 (min (max (l o.la) (l o.lb)) (l lc))) with
        psw := if l o.la < l o.lb ∨ l lc < l o.la then x.psw ||| 0x20 else x.psw &&& ~~~0x20 }) ∧
    (o.arg.toNat < 16 → Retires (.ffv o) s o.eng 1
      (if l o.lb ≤ 0 then x.setL o.ld 0
       else if l lc ≤ 0 ∨ 4 * l lc ≤ l o.lb then
        { putQ x o.ld (4 * l o.la) with psw := x.psw ||| 0x10 }
       else putQ x o.ld (halfEvenInt (l o.la * l o.lb) (l lc).toNat)))) ∧
  (∀ (o : FmtQ) (s : State), Issues s o.eng 1 → hasCtl o.eng = true → o.lb = 0 → o.t = false → o.mid = 0 →
    let x := s.eng o.eng
    let a : Int := (x.getL o.la).toInt
    Retires (.satqShls o) s o.eng 1 (putQ x o.ld (a * 2 ^ o.sh.toNat)) ∧
    Retires (.satqShrr o) s o.eng 1 (x.setL o.ld (BitVec.ofInt 32 (halfEvenInt a (2 ^ o.sh.toNat)))) ∧
    Retires (.satqQtof o) s o.eng 1
      (x.putL o.ld ((Surd.rat (a * 2 ^ (118 + o.sh.toNat)) 1).out true)) ∧
    Retires (.satqFtoq o) s o.eng 1
      ((x.putL o.ld ((Surd.rat (operand true (x.getL o.la)).1 (2 ^ (118 + o.sh.toNat))).out false)).nv
        [(operand true (x.getL o.la)).2]))) ∧
 (∀ (o : FmtC) (s : State), Issues s o.eng 1 → hasCtl o.eng = true → o.t = true →
    let x := s.eng o.eng
    let l (i : BitVec 4) : Int := (operand true (x.getL i)).1
    let nan (i : BitVec 4) : Bool := (operand true (x.getL i)).2
    let lc : BitVec 4 := o.arg.setWidth 4
    let sum (c a b : Int) (ns : List Bool) : EngState :=
      (x.putL o.ld ((Surd.rat (c * 2 ^ 149 + a * b) (2 ^ 149)).out true)).nv ns
    (o.arg = 0 → Retires (.macq o) s o.eng 1 (sum (l o.ld) (l o.la) (l o.lb) [nan o.ld, nan o.la, nan o.lb])) ∧
    (o.arg = 0 → Retires (.inth o) s o.eng 1
      (if x.psw.getLsbD 5 then x else sum (l o.ld) (l o.la) (l o.lb) [nan o.ld, nan o.la, nan o.lb])) ∧
    (o.arg.toNat < 16 → Retires (.ffa o) s o.eng 1 (sum (l o.la) (l o.lb) (l lc) [nan o.la, nan o.lb, nan lc])) ∧
    (o.arg.toNat < 16 →
      let y := (x.setL o.ld (wordOf true (min (max (l o.la) (l o.lb)) (l lc)))).nv [nan o.la, nan o.lb, nan lc]
      Retires (.clmp o) s o.eng 1 { y with
        psw := if l o.la < l o.lb ∨ l lc < l o.la then x.psw ||| 0x20 else x.psw &&& ~~~0x20 }) ∧
    (o.arg.toNat < 16 → 0 < l o.lb → 0 < l lc → l o.lb < 4 * l lc →
      Retires (.ffv o) s o.eng 1 ((x.putL o.ld ((Surd.rat (l o.la * l o.lb) (l lc).toNat).out true)).nv
        [nan o.la, nan o.lb, nan lc])))

/-- R182: sine is odd, cosine is even, and neither exceeds 0x7FFFFFFF in magnitude. R183, R184: the transforms and SVM
write their results at one instant, each the exact value of its formula rounded once. R184: SVM's duties are the
procedure's: with the legs' voltages v in units of VMOT and their span, duty is 1/2 + k (v - (hi + lo) / 2), where k
is 1 up to a span of 1 and the inverse of the span beyond. -/
def Obligations.TransformsSineAndSvm : Prop :=
 (∀ a : Word, sine (-a) = -sine a ∧ cosine (-a) = cosine a ∧ (sine a).natAbs ≤ 0x7FFFFFFF) ∧
 (∀ (o : FmtC) (s : State), Issues s o.eng 1 → hasCtl o.eng = true → o.ld.toNat % 2 = 0 →
    let x := s.eng o.eng
    let l (i : BitVec 4) : Int := (operand o.t (x.getL i)).1
    let nan (i : BitVec 4) : Bool := (operand o.t (x.getL i)).2
    let lc : BitVec 4 := o.arg.setWidth 4
    let sn := sine (x.getL o.lb)
    let cs := cosine (x.getL o.lb)
    let pair (u v : Surd) (ns : List Bool) : EngState :=
      ((x.putL o.ld (u.out o.t)).putL (o.ld + 1) (v.out o.t)).nv ns
    let a := l o.la
    let b := l (o.la + 1)
    (o.arg = 0 → Retires (.clrk o) s o.eng 1
      (pair ⟨a, 0, 0⟩ ⟨0, a + 2 * l o.lb, 2⟩ [nan o.la, nan o.lb, false])) ∧
    (o.arg.toNat / 16 = 1 → Retires (.clrk o) s o.eng 1
      (pair ⟨2 * a - l o.lb - l lc, 0, 2⟩ ⟨0, l o.lb - l lc, 2⟩ [nan o.la, nan o.lb, nan lc])) ∧
    (o.arg = 0 → o.la.toNat % 2 = 0 →
      Retires (.park o) s o.eng 1 (pair (Surd.rat (a * cs + b * sn) (2 ^ 31)) (Surd.rat (b * cs - a * sn) (2 ^ 31))
        [nan o.la, nan (o.la + 1)]) ∧
      Retires (.iprk o) s o.eng 1 (pair (Surd.rat (a * cs - b * sn) (2 ^ 31)) (Surd.rat (a * sn + b * cs) (2 ^ 31))
        [nan o.la, nan (o.la + 1)])) ∧
    (o.arg = 0 → o.la = 0 → Retires (.sinc o) s o.eng 1
      (pair (Surd.rat (sn * unitOf o.t) (2 ^ 31)) (Surd.rat (cs * unitOf o.t) (2 ^ 31)) [])) ∧
    (o.arg = 0 → o.lb = 0 → o.la.toNat % 2 = 0 → o.ld.toNat % 4 = 0 → o.t = false →
      ∃ y, Retires (.svm o) s o.eng 1 y ∧ y = { x with l := y.l, psw := y.psw } ∧
        (∀ k : Fin 3, y.getL (o.ld + BitVec.ofNat 4 k.val) = clamp32 (svmDuty false a b k).1.round) ∧
        (∀ i : BitVec 4, i.toNat < o.ld.toNat ∨ o.ld.toNat + 3 ≤ i.toNat → y.getL i = x.getL i) ∧
        y.psw = if (svmDuty false a b 0).2 then x.psw ||| 0x10 else x.psw)) ∧
 (∀ (al be : Int) (k : Fin 3),
    let u : ℝ := 2 ^ 31
    let v : Fin 3 → ℝ := fun j => match j with
      | 0 => al / u
      | 1 => -(al / u) / 2 + be / u * Real.sqrt 3 / 2
      | 2 => -(al / u) / 2 - be / u * Real.sqrt 3 / 2
    let hi := max (v 0) (max (v 1) (v 2))
    let lo := min (v 0) (min (v 1) (v 2))
    ((svmDuty false al be k).2 = true ↔ 1 < hi - lo) ∧
    surdVal (svmDuty false al be k).1 / u =
      1 / 2 + (if 1 < hi - lo then 1 / (hi - lo) else 1) * (v k - (hi + lo) / 2))

/-- R173, R176: moves between the register files, loads and stores of L registers, and gain tables. R165, R176, R184,
R188, R189: the binary32 forms of LUTG, SVM, OSCA and RLY. -/
def Obligations.ControlMovesAndBinary32 : Prop :=
 ((∀ (o : FmtC) (s : State), Issues s o.eng 1 → hasCtl o.eng = true → o.la = 0 → o.lb = 0 → o.t = false →
    let x := s.eng o.eng
    let n : BitVec 5 := o.arg.setWidth 5
    let dir := o.arg.toNat / 1024
    o.arg.toNat / 32 % 32 = 0 →
      (dir = 0 → Retires (.lmov o) s o.eng 1 (x.setL o.ld (x.getG n))) ∧
      (dir = 1 → Retires (.lmov o) s o.eng 1 (x.setG n (x.getL o.ld))) ∧
      (dir = 2 → n.toNat < 16 → Retires (.lmov o) s o.eng 1 (x.setL o.ld (x.getF n))) ∧
      (dir = 3 → n.toNat < 16 → Retires (.lmov o) s o.eng 1 (x.setFr n (x.getL o.ld)))) ∧
  (∀ (o : FmtL) (s : State) (la : Nat), Issues s o.eng 1 → hasCtl o.eng = true →
    o.la = 0 → o.lb = 0 → o.t = false →
    let x := s.eng o.eng
    let a := x.getG o.base + BitVec.ofNat 32 (4 * o.off.toNat)
    let now := HasEntry s o.eng ∧ (s.heldReg = true → (s.locate o.eng a.toNat).outside = true → Closed s o.eng)
    let w := (s.ahead o.eng).memWord la
    (now → Reaches s o.eng .rd 4 a la → lReach o.eng la = true → Loads (.lld o) s o.eng a w.toNat (x.setL o.ld w)) ∧
    (now → (s.ahead o.eng).oneCopy o.eng la = false → (s.ahead o.eng).bad0 la = true →
      (∃ sh sine, s.locate o.eng a.toNat = .mem la sh true sine) → a.toNat % 4 = 0 →
      (∀ n, o.eng = .slu n → exec (.lld o) s = .next (s.haltSluice n 0xFF)) ∧
      ((∀ n, o.eng ≠ .slu n) → Raises (.lld o) s o.eng ⟨0x0A, 1, some a, 0⟩)) ∧
    (Reaches s o.eng .wr 4 a la → lReach o.eng la = true → Stores (.lst o) s o.eng 4 la (x.getL o.ld)) ∧
    (s.locate o.eng a.toNat = .regs → a.toNat % 4 = 0 →
      s.permits o.eng .rd a.toNat = true → s.permits o.eng .wr a.toNat = true →
      (now → Raises (.lld o) s o.eng ⟨8, 1, some a, 0⟩) ∧ Raises (.lst o) s o.eng ⟨8, 1, some a, 0⟩)) ∧
  (∀ (o : FmtC) (s : State), Issues s o.eng 1 → hasCtl o.eng = true → o.lb = 0 → o.t = false →
    o.arg.toNat < 64 → TableClean s o.eng o.arg.toNat →
    let x := s.eng o.eng
    let v : Int := (x.getL o.la).toInt
    let wd (i : Nat) : Int := (s.memWord (lutBase o.eng + o.arg.toNat * 0x108 + 4 * i)).toInt
    (v ≤ wd 0 → Retires (.lutg o) s o.eng 1 (x.setL o.ld (BitVec.ofInt 32 (wd 1)))) ∧
    (wd 0 < v → wd 64 ≤ v → Retires (.lutg o) s o.eng 1 (x.setL o.ld (BitVec.ofInt 32 (wd 65)))) ∧
    ((∀ k < 32, wd (2 * k) < wd (2 * k + 2)) → ∀ k < 32, wd (2 * k) ≤ v → v < wd (2 * k + 2) →
      Retires (.lutg o) s o.eng 1 (x.setL o.ld (BitVec.ofInt 32 (halfEvenInt
        (wd (2 * k + 1) * (wd (2 * k + 2) - wd (2 * k)) +
          (wd (2 * k + 3) - wd (2 * k + 1)) * (v - wd (2 * k)))
        (wd (2 * k + 2) - wd (2 * k)).toNat)))))) ∧
 (∀ (o : FmtC) (s : State), Issues s o.eng 1 → hasCtl o.eng = true → o.t = true →
    let x := s.eng o.eng
    let l (i : BitVec 4) : Int := (operand true (x.getL i)).1
    let nan (i : BitVec 4) : Bool := (operand true (x.getL i)).2
    (∀ n, o.eng = .slu n → o.lb = 0 → o.arg.toNat < 64 → s.now.lut = [] →
      s.bad0 (lutBase o.eng + o.arg.toNat * 0x108) = true → exec (.lutg o) s = .next (s.haltSluice n 0xFF)) ∧
    (o.lb = 0 → o.arg.toNat < 64 → TableClean s o.eng o.arg.toNat →
      let wd (i : Nat) : Word := s.memWord (lutBase o.eng + o.arg.toNat * 0x108 + 4 * i)
      let v := l o.la
      let out (z : Int) : EngState := x.setL o.ld (wordOf true z)
      (v ≤ (operand true (wd 0)).1 → Retires (.lutg o) s o.eng 1
        ((out (operand true (wd 1)).1).nv [nan o.la || (operand true (wd 0)).2 || (operand true (wd 1)).2])) ∧
      ((operand true (wd 0)).1 < v → (operand true (wd 64)).1 ≤ v → Retires (.lutg o) s o.eng 1
        ((out (operand true (wd 65)).1).nv
          [nan o.la || (operand true (wd 0)).2 || (operand true (wd 64)).2 || (operand true (wd 65)).2]))) ∧
    (o.arg = 0 → o.lb = 0 → o.la.toNat % 2 = 0 → o.ld.toNat % 4 = 0 →
      ∃ y, Retires (.svm o) s o.eng 1 y ∧ y = { x with l := y.l, psw := y.psw, fcsr := y.fcsr } ∧
        (∀ k : Fin 3, y.getL (o.ld + BitVec.ofNat 4 k.val) =
          ((svmDuty true (l o.la) (l (o.la + 1)) k).1.out true).w) ∧
        (∀ i : BitVec 4, i.toNat < o.ld.toNat ∨ o.ld.toNat + 3 ≤ i.toNat → y.getL i = x.getL i)) ∧
    (o.arg = 0 → o.ld.toNat % 4 = 0 →
      let r := oscStep (l o.la) (l o.lb) (l (o.ld + 1)) (l (o.ld + 2)) (x.getL (o.ld + 3)) (oscOf (x.getL o.ld))
      ∃ t : State, exec (.osca o) s = .next (t.push s o.eng) ∧ t = { s with engs := t.engs, slu := t.slu } ∧
        (t.eng o.eng).getL o.ld = oscWord r.1 ∧
        (t.eng o.eng).getL (o.ld + 1) = (match r.2.1 with | some z => wordOf true z | none => x.getL (o.ld + 1)) ∧
        (t.eng o.eng).getL (o.ld + 2) = (match r.2.2 with | some z => wordOf true z | none => x.getL (o.ld + 2)) ∧
        BitsAre x.psw (t.eng o.eng).psw [(1, !r.1.trip)]) ∧
    (∀ n, o.eng = .slu n → o.ld.toNat % 4 = 0 → o.arg.toNat < 32 → s.md = mSERVICE →
      ∃ y, Retires (.rly o) s o.eng 1 y ∧
        y = { x with l := y.l, psw := y.psw, fcsr := y.fcsr, relay := y.relay } ∧
        (y.getL o.ld).getLsbD 2 = false ∧
        (y.getL (o.ld + 1) = wordOf true (l o.lb) ∨ y.getL (o.ld + 1) = wordOf true (-(l o.lb)))))

/-- R188: one step of the oscillation count, and R189: outside SERVICE the relay gives 0. -/
def Obligations.OscillationAndRelay : Prop :=
  (∀ (o : FmtC) (s : State), Issues s o.eng 1 → hasCtl o.eng = true → o.ld.toNat % 4 = 0 → o.arg = 0 →
    o.t = false →
    let x := s.eng o.eng
    let st := x.getL o.ld
    let cfg := x.getL (o.ld + 3)
    let e : Int := (x.getL o.la).toInt
    let h : Int := (x.getL o.lb).toInt
    let pk : Int := (x.getL (o.ld + 1)).toInt
    let pp : Int := (x.getL (o.ld + 2)).toInt
    let m : Int := e.natAbs
    let cross := e ≠ 0 ∧ decide (0 < e) ≠ st.getLsbD 8
    let counted := cross ∧ st.getLsbD 9 = true
    let cnt : Nat := if counted then
      (if ((cfg.toNat / 256 % 256 : Nat) : Int) * pp ≤ 256 * pk then min (st.toNat % 256 + 1) 255 else 0)
      else st.toNat % 256
    let pk0 : Int := if cross then 0 else pk
    let w := cfg.toNat / 65536
    let rem := st.toNat / 65536
    let trip := st.getLsbD 10 || decide (cfg.toNat % 256 ≠ 0 ∧ cfg.toNat % 256 ≤ cnt)
    ∃ t : State, exec (.osca o) s = .next (t.push s o.eng) ∧
      (t = { s with engs := t.engs, slu := t.slu } ∧ (∀ f, f ≠ o.eng → t.eng f = s.eng f) ∧
       ((∀ n, o.eng ≠ .slu n) → t.slu = s.slu)) ∧
      (let y := t.eng o.eng
       y = { x with l := y.l, psw := y.psw, pc := x.pc + 4, retired := x.retired + 1 } ∧
       BitsAre x.psw y.psw [(1, !trip)] ∧
       (y.getL o.ld).getLsbD 8 = (if cross then decide (0 < e) else st.getLsbD 8) ∧
       (y.getL o.ld).getLsbD 9 = (decide (h < m) || (st.getLsbD 9 && !decide cross)) ∧
       (y.getL o.ld).getLsbD 10 = trip ∧
       (y.getL o.ld).toNat % 256 = (if w ≠ 0 ∧ rem ≤ 1 then 0 else cnt) ∧
       (y.getL o.ld).toNat / 65536 = (if w = 0 then rem else if rem ≤ 1 then w else rem - 1) ∧
       (y.getL (o.ld + 1)).toInt = (if pk0 < m then min m (2 ^ 31 - 1) else pk0) ∧
       (y.getL (o.ld + 2)).toInt = (if counted then pk else pp) ∧
       y.getL (o.ld + 3) = cfg ∧
       (∀ i : BitVec 4, i ≠ o.ld → i ≠ o.ld + 1 → i ≠ o.ld + 2 → y.getL i = x.getL i))) ∧
  (∀ (o : FmtC) (s : State) (n : Fin 5), Issues s o.eng 1 → o.eng = .slu n → o.ld.toNat % 4 = 0 →
    o.arg.toNat < 32 → s.md ≠ mSERVICE →
    let x := s.eng o.eng
    ∃ y, Retires (.rly o) s o.eng 1 y ∧ y.getL (o.ld + 1) = 0 ∧ (y.getL o.ld).getLsbD 2 = true ∧
      y.relay = x.relay ∧ y.g = x.g ∧ y.psw = x.psw ∧
      (∀ i : BitVec 4, i ≠ o.ld → i ≠ o.ld + 1 → y.getL i = x.getL i)) ∧
  (∀ (o : FmtC) (s : State) (n : Fin 5), Issues s o.eng 1 → o.eng = .slu n → o.ld.toNat % 4 = 0 →
    o.arg.toNat / 16 = 1 → s.md = mSERVICE → o.t = false →
    let x := s.eng o.eng
    let e := x.getL o.la
    let d : Int := (x.getL o.lb).toInt
    ∃ y, Retires (.rly o) s o.eng 1 y ∧
      y.getL o.ld = (if 0 ≤ e.toInt then 1 else 0) ∧
      y.getL (o.ld + 1) = clamp32 (if 0 ≤ e.toInt then d else -d) ∧
      y.relay = { x.relay with have0 := false, mx := e, mn := e })

/-! ### The Sluice engines (chapter 08) -/

/-- R192, R195, R198: RUN of an engine set and cleared, and the writes that have no effect. That RUN stays 0 before
SEAL, which is when the engines leave reset, is the model's choice (log entry 69). R192: RUN written at task level raises PRIV; R198: the configuration of a trigger input is taken only while the engine is STOPPED. -/
def Obligations.SluiceRunAndConfiguration : Prop :=
 (∀ (e : Engine) (n : Fin 5) (s : State), Pair s e (Reg.SLU_CTL n) →
    let st := s.f (Fld.SLU_STAT_STATE n)
    let run := s.f (Fld.SLU_CTL_RUN n)
    (s.sealed = false → exec (.sluiceRunStart e n) s = .next s ∧ exec (.sluiceRunStop e n) s = .next s) ∧
    (s.sealed = true → st = 0 → run = 0 → ∃ t, exec (.sluiceRunStart e n) s = .next t ∧
      t = { s with regs := t.regs, mem := t.mem, ecc := t.ecc, slu := t.slu,
                   engs := s.engs.set (engIdx (.slu n)).val
                     { relay := (s.eng (.slu n)).relay, run := .running, psw := 0x200, pc := 0 } } ∧
      RegsAre s t [(Fld.SLU_CTL_RUN n, 1), (Fld.SLU_STAT_STATE n, 1)] ∧
      (∀ a, t.mem.byte a = if 0x20018000 + n.val * 0x20000 ≤ a ∧ a < 0x20018100 + n.val * 0x20000 then 0
        else s.mem.byte a) ∧
      (∀ m k, t.input m k = if m = n then { s.input n k with divCnt := 0, count := 0 } else s.input m k)) ∧
    (s.sealed = true → run = 1 → st < 4 → st = 3 ∨ s.ownsAny (.slu n) = false ∨
        (s.inRun = false ∧ s.md ≠ mSAFEHOLD ∧ s.f Fld.SYS_MODE_STOPPING = 0) →
      Effect (.sluiceRunStop e n) s
        ((s.updEng (.slu n) (fun x => { x with run := .stopped })).updSlu n (fun x => { x with
          inputs := x.inputs.map (fun i => { i with pend := false, filling := false, ready := false, due := 0 }) }))
        ([(Fld.SLU_CTL_RUN n, 0), (Fld.SLU_STAT_STATE n, 0), (Fld.SLU_STAT_EVAL n, 0),
          (Fld.SLU_STAT_PEND n, 0)] ++ levelled (32 + 6 * n.val + 3) false)) ∧
    (st = 4 ∨ (st < 3 ∧ s.ownsAny (.slu n) = true ∧
        (s.inRun = true ∨ s.md = mSAFEHOLD ∨ s.f Fld.SYS_MODE_STOPPING = 1)) →
      exec (.sluiceRunStop e n) s = .next s) ∧
    (st ≠ 0 ∨ run = 1 → exec (.sluiceRunStart e n) s = .next s)) ∧
 ((∀ (e : Engine) (n : Fin 5) (s : State), Closed s e → s.canIssue e = true → s.super e = false →
    Raises (.sluiceRunStart e n) s e ⟨2, 3, some (BitVec.ofNat 32 (Reg.SLU_CTL n)), 0⟩ ∧
    Raises (.sluiceRunStop e n) s e ⟨2, 3, some (BitVec.ofNat 32 (Reg.SLU_CTL n)), 0⟩) ∧
  (∀ (e : Engine) (n : Fin 5) (k : Fin 4) (v : Word) (s : State), Passes s e (Reg.SLU_TRIG n k) →
    (s.f (Fld.SLU_STAT_STATE n) = 0 → Effect (.triggerConfig e n k v) s
      (s.updInput n k (fun x => { x with divCnt := 0 }))
      [(Fld.SLU_TRIG_SRC n k, v.toNat % 64), (Fld.SLU_TRIG_DIV n k, v.toNat / 256 % 16),
       (Fld.SLU_TRIG_COG n k, v.toNat / 4096 % 8)]) ∧
    (s.f (Fld.SLU_STAT_STATE n) ≠ 0 → exec (.triggerConfig e n k v) s = .next s)))

/-- R194, R195, R198: a software trigger counts on the inputs written that name it. R196, R200, R201: a trigger replaces
the back buffer of its input; where the input fills, is pending or is being evaluated it counts an overrun, and COAL
sets in the first two cases. R64, R65, R201: every eighth overrun signals the governor, which adds 5 to OVR where it
can. -/
def Obligations.TriggersAndOverruns : Prop :=
 (∀ (e : Engine) (n : Fin 5) (v : Word) (s : State), Passes s e (Reg.SLU_SWTRG n) →
    (isMsp e = true ∨ e = .miller → s.f (Fld.SLU_STAT_STATE n) = 1 ∨ s.f (Fld.SLU_STAT_STATE n) = 2 →
      ∃ t, exec (.swtrg e n v) s = .next t ∧ t = { s with slu := t.slu } ∧
        ∀ m k, t.input m k = if m = n ∧ v.getLsbD k.val = true ∧ s.f (Fld.SLU_TRIG_SRC n k) = 0x19 then
          (if (s.input n k).divCnt < s.f (Fld.SLU_TRIG_DIV n k) then
            { s.input n k with divCnt := (s.input n k).divCnt + 1 }
           else { s.input n k with divCnt := 0, due := (s.input n k).due + 1 })
          else s.input m k) ∧
    (¬ (isMsp e = true ∨ e = .miller) ∨ s.f (Fld.SLU_STAT_STATE n) = 0 ∨
        3 ≤ s.f (Fld.SLU_STAT_STATE n) → exec (.swtrg e n v) s = .next s)) ∧
 (∀ (n : Fin 5) (k : Fin 4) (vmot : BitVec 12) (s : State), s.live = true →
    s.f (Fld.SLU_STAT_STATE n) = 1 ∨ s.f (Fld.SLU_STAT_STATE n) = 2 →
    let x := s.input n k
    let busy := x.filling || x.pend
    let evaluated := s.fb (Fld.SLU_STAT_EVAL n) && s.f (Fld.SLU_STAT_CUR n) == k.val
    let cons := s.f (Fld.SLU_OVRN_CONS n)
    let pend (ks : List (Fin 4)) := (Fld.SLU_STAT_PEND n, (ks.map (fun j => 2 ^ j.val)).sum)
    let pending := [0, 1, 2, 3].filter (fun j => (s.input n j).pend)
    let coal : Field := ⟨Reg.SLU_STAT n, 12 + k.val, 1⟩
    let y : TrigInput := { x with
      due := x.due - 1, filling := true, ready := !s.fromSet n k, pend := false, count := x.count + 1,
      back := #v[0, 0, 0, (s.trigCog n k).1, (s.trigCog n k).2, BitVec.ofNat 32 (vmot.toNat * 2 ^ 19), s.tnow,
        x.count + 1],
      coal := (x.coal && busy) || x.pend }
    (0 < x.due → (busy || evaluated) = false →
      Effect (.triggerInstant n k vmot) s ((s.updInput n k (fun _ => y)).trigSeen n k) [pend (pending.filter (· ≠ k))]) ∧
    (0 < x.due → (busy || evaluated) = true → ((s.unit n).overCnt + 1) % 8 ≠ 0 →
      Effect (.triggerInstant n k vmot) s
        (((s.updInput n k (fun _ => y)).trigSeen n k).updSlu n (fun u => { u with overCnt := u.overCnt + 1 }))
        ([pend (pending.filter (· ≠ k))] ++ (if busy then [(coal, 1)] else []) ++
         [(Fld.SLU_OVRN_TOTAL n, min 65535 (s.f (Fld.SLU_OVRN_TOTAL n) + 1)),
          (Fld.SLU_OVRN_CONS n, min 255 (cons + 1)),
          (Fld.SLU_OVRN_CONSMAX n, max (s.f (Fld.SLU_OVRN_CONSMAX n)) (min 255 (cons + 1)))])) ∧
    (s.live = true → x.filling = true → x.ready = true →
      Effect (.triggerBufferComplete n k) s
        (s.updInput n k (fun _ => { x with filling := false, ready := false, pend := true }))
        [pend (pending.filter (· ≠ k) ++ [k])])) ∧
 (∀ (n : Fin 5) (s : State), ((s.unit n).overCnt + 1) % 8 = 0 → s.f Fld.PLB_STAT_BUSY = 0 →
    s.f Fld.PWR_GOV_EN = 1 → s.f Fld.PWR_STAT_PMBUS_TIMEOUT = 0 → s.f Fld.PWR_STAT_PMBUS_ERR = 0 →
    let raw := 20 + s.f Fld.PWR_GOV_WEAR + s.f Fld.PWR_GOV_OVR
    max (s.f Fld.PWR_GOV_FLOOR) raw < s.f Fld.PWR_GOV_CEIL → raw + 5 ≤ s.f Fld.PWR_GOV_CEIL →
    (s.overrun n).f Fld.PWR_GOV_OVR = min 50 (s.f Fld.PWR_GOV_OVR + 5) ∧
    (s.overrun n).f (Fld.SLU_OVRN_TOTAL n) = min 65535 (s.f (Fld.SLU_OVRN_TOTAL n) + 1))

/-- R187, R197, R199, R209: WTRG shows the tail registers and ends the evaluation; it accepts the lowest pending input
of its mask, at once or, from WAITING, when one becomes pending. R209, R210: the engine's own stores to TAIL are
held until its next WTRG; it sets FLAG bits and other engines clear them. R185, R186, R208: an EMIT of an engine
that does not own the bridge changes no duty and is counted; otherwise the legs' duty words are replaced, and with
STAMP the instant goes to an L register. R202, R203: an evaluation longer than EVMAX sets LONG and raises
LOOP_OVERRUN once; outside the RUN modes and SERVICE it is only reported. -/
def Obligations.EvaluationsAndEmit : Prop :=
 (∀ (n : Fin 5) (s : State),
    let e : Engine := .slu n
    let accepts (c : Instr) (k : Fin 4) (ld : BitVec 4) : Prop :=
      ∃ t, exec c s = .next t ∧ t = { s with regs := t.regs, mem := t.mem, ecc := t.ecc, slu := t.slu, engs := t.engs } ∧
        t.eng e = { ((s.eng e).setL ld (s.input n k).back[6]).setL (ld + 1)
            (BitVec.ofNat 32 (k.val + if (s.input n k).coal then 4 else 0)) with
          pc := (s.eng e).pc + 4, retired := (s.eng e).retired + 1, run := .running } ∧
        t.f (Fld.SLU_STAT_STATE n) = 1 ∧ t.f (Fld.SLU_STAT_EVAL n) = 1 ∧ t.f (Fld.SLU_STAT_CUR n) = k.val ∧
        t.input n k = { s.input n k with pend := false, coal := false } ∧
        (∀ i : Fin 8, t.mem.word (0x20018000 + n.val * 0x20000 + 4 * i.val) = (s.input n k).back[i]) ∧
        (∀ i : Fin 16, t.mem.word (0x20018040 + n.val * 0x20000 + 4 * i.val) = t.reg (Reg.SLU_SP n i)) ∧
        (∀ a, a < 0x20018000 + n.val * 0x20000 ∨ 0x20018080 + n.val * 0x20000 ≤ a →
          t.mem.byte a = s.mem.byte a)
    (∀ o : FmtC, Issues s e 1 → o.eng = e → o.ld.toNat % 2 = 0 → o.la = 0 → o.lb = 0 → o.t = false →
      o.arg.toNat < 16 → o.arg ≠ 0 →
      (∀ k : Fin 4, o.arg.getLsbD k.val = true → (s.input n k).pend = true →
        (∀ j : Fin 4, j < k → o.arg.getLsbD j.val = true → (s.input n j).pend = false) →
        accepts (.wtrg o) k o.ld) ∧
      ((∀ k : Fin 4, o.arg.getLsbD k.val = true → (s.input n k).pend = false) →
        ∃ t, exec (.wtrg o) s = .next t ∧ t = { s with regs := t.regs, slu := t.slu, engs := t.engs } ∧
          t.eng e = { s.eng e with run := .waitTrig, wtrg := ⟨o.ld, o.arg.setWidth 4⟩ } ∧
          t.f (Fld.SLU_STAT_STATE n) = 2 ∧ t.f (Fld.SLU_STAT_EVAL n) = 0 ∧ t.f (Fld.SLU_OVRN_CONS n) = 0 ∧
          (∀ k, t.input n k = s.input n k))) ∧
    (s.live = true → (s.eng e).run = .waitTrig → ∀ k : Fin 4, (s.eng e).wtrg.mask.getLsbD k.val = true →
      (s.input n k).pend = true →
      (∀ j : Fin 4, j < k → (s.eng e).wtrg.mask.getLsbD j.val = true → (s.input n j).pend = false) →
      accepts (.triggerAccept n) k (s.eng e).wtrg.ld)) ∧
 ((∀ (n : Fin 5) (k : Fin 16) (v : Word) (s : State), Passes s (.slu n) (Reg.SLU_TAIL n k) →
    ∃ t, exec (.tailWrite (.slu n) n k v) s = .next t ∧ t = { s with slu := t.slu } ∧
      ((∀ j, j ∈ (s.unit n).tailBuf → j.1 < 16) → ∀ i : Fin 16,
        (t.showTail n).reg (Reg.SLU_TAIL n i) = if i = k then v else (s.showTail n).reg (Reg.SLU_TAIL n i))) ∧
  (∀ (e : Engine) (n : Fin 5) (k : Fin 16) (v : Word) (s : State), Passes s e (Reg.SLU_TAIL n k) → e ≠ .slu n →
    exec (.tailWrite e n k v) s = .next s) ∧
  (∀ (e : Engine) (n : Fin 5) (v : Word) (s : State), Passes s e (Reg.SLU_FLAG n) →
    let old := s.reg (Reg.SLU_FLAG n)
    let rising := [0, 1, 2].filter (fun i => v.getLsbD i && !old.getLsbD i)
    (e = .slu n → Effect (.flagWrite e n v) s s
      ((⟨Reg.SLU_FLAG n, 0, 32⟩, (old ||| (v &&& 7)).toNat) ::
        rising.flatMap (fun i => raised s (32 + 6 * n.val + i)))) ∧
    (e ≠ .slu n → Effect (.flagWrite e n v) s s [(⟨Reg.SLU_FLAG n, 0, 32⟩, (old &&& v).toNat)]))) ∧
 (∀ (o : FmtC) (n : Fin 5) (b : Fin 5) (s : State), Issues s o.eng 1 → o.eng = .slu n → o.lb = 0 →
    o.t = false → o.la.toNat ≤ 13 → o.arg.toNat % 8 = b.val → o.arg.toNat / 8 % 8 ≠ 0 → o.arg.toNat / 128 = 0 →
    let stamp := o.arg.getLsbD 6
    (stamp = false → o.ld = 0) →
    (s.ownerOk o.eng (0x40200000 + 0x1000 * b.val) = false →
      Effect (.emit o) s (s.updEng o.eng (fun y => y.next 1))
        (raised s 10 ++ [(Fld.PROT_SEAL_VIOL, min (2 ^ Fld.PROT_SEAL_VIOL.w - 1) (s.f Fld.PROT_SEAL_VIOL + 1))])) ∧
    (s.ownerOk o.eng (0x40200000 + 0x1000 * b.val) = true →
      ∃ t, exec (.emit o) s = .next t ∧
        t.eng o.eng = ((if stamp then (s.eng o.eng).setL o.ld s.tnow else s.eng o.eng).next 1) ∧
        (∀ k : Fin 3, t.reg (Reg.BRG_DUTY b k) =
          if o.arg.getLsbD (3 + k.val) then emitWord false ((s.eng o.eng).getL (o.la + BitVec.ofNat 4 k.val))
          else s.reg (Reg.BRG_DUTY b k)) ∧
        (∀ b' k, b' ≠ b → t.reg (Reg.BRG_DUTY b' k) = s.reg (Reg.BRG_DUTY b' k)) ∧
        t.mem = s.mem ∧ (∀ f, f ≠ o.eng → t.eng f = s.eng f))) ∧
 (∀ (n : Fin 5) (s : State), s.live = true → s.f (Fld.SLU_STAT_EVAL n) = 1 → (s.unit n).longSeen = false →
    (s.inRun = false → s.md ≠ mSERVICE → Effect (.evaluationTooLong n) s
      (s.updSlu n (fun x => { x with longSeen := true }))
      ([(Fld.SLU_STAT_LONG n, 1), (Fld.HLTH_WORD_OVRN, 1)] ++ raised s (32 + 6 * n.val + 4) ++ raised s 5)) ∧
    ∃ t, exec (.evaluationTooLong n) s = .next t ∧ (t.unit n).longSeen = true ∧ exec (.evaluationTooLong n) t = .next t)

/-! ### The Millstone pair (chapter 09) -/

/-- R219, R220, R222, R223: as core 1 retires an instruction on which the comparator sees the cores differ, both cores stop
at once, the mismatching lanes and that instruction are captured, what core 1 had yet to compare is discarded, the record
window opens, and the bridges go to the states of their mode; the worked example of chapter 09 shows lane 21. R215, R219:
core 1 retires what the lag lets it before core 0 issues, and a held store reaches memory as core 1 retires it. R224:
MSP_MMACK with its key from the Miller core ends the window with the resign-reset; any other write of it is ignored. R226,
R227: the injection test in SERVICE stops core 0 and gives it back when it passes; a fail is taken as a mismatch. -/
def Obligations.Comparator : Prop :=
 (∀ a b : CmpView, b = { a with data := b.data } → a.data.field 12 4 ≠ b.data.field 12 4 →
    a.data = b.data.put 12 4 (a.data.field 12 4) → cmpWord a b 0 0 = 0x00200000 ∧ cmpWord a b 0 1 = 0) ∧
 (∀ (core0 core1 : CmpView) (trees monitors : BitVec 2) (r : Lagged) (rest : List Lagged) (s : State), s.live = true →
    s.f Fld.SYS_MODE_SPLIT = 0 → s.f Fld.MSP_STAT_INJ_BUSY = 0 → s.f Fld.MSP_MMSTAT_VALID = 0 → s.mode.window = none →
    s.sealed = true → s.pair.trail = r :: rest →
    let watch : BitVec 4 := monitors ++ trees
    (∃ k < 64, cmpLane core0 core1 watch k = true) →
    ((s.eng .msp0).run = .running ∧ 2 ≤ (rest.filter (·.retires)).length) ∨
      (((s.eng .msp0).run = .waiting ∨ (s.eng .msp0).run = .sleeping) ∧ rest ≠ []) →
    ∃ t, exec (.comparatorMismatch core0 core1 trees monitors) s = .next t ∧
      (∀ n : Fin 2, ∀ k < 32, (t.reg (Reg.MSP_MMLANE n.val)).getLsbD k = cmpLane core0 core1 watch (32 * n.val + k)) ∧
      t.reg Reg.MSP_MMRET = r.key ∧ t.reg Reg.MSP_MMPC = r.pc ∧ t.pair = {} ∧ t.f Fld.MSP_MMSTAT_VALID = 1 ∧ t.f Fld.MSP_MMSTAT_INJ = 0 ∧
      t.isPending 14 = true ∧ t.mode.window = some .resign ∧ t.f Fld.SYS_MODE_ROLE = 0 ∧ t.mem = s.mem ∧
      (∀ e, t.eng e = if isMsp e then { s.eng e with run := .stopped } else s.eng e) ∧
      (∀ b : Fin 5,
        let held := (s.bridge b).latch.held
        let lat := (t.bridge b).latch
        let motor := s.motor b
        if held = true ∨ s.legMask b = 0 then lat = (s.bridge b).latch
        else if s.md = mTRIPLEX ∨ s.md = mDUPLEX then
          lat.held = true ∧ lat.resign = true ∧
          lat.state = (if motor && !(s.pcfg b).bit 1 then .lowerShort else .inert)
        else if s.md = mSIMPLEX ∨ s.md = mSAFEHOLD then
          lat.held = true ∧ lat.resign = true ∧ lat.state = (if motor then .lowerShort else .inert)
        else lat = (s.bridge b).latch)) ∧
 (∀ s : State,
    (∀ o : FmtA, let u := s.keepUp o.eng; u.canIssue o.eng = true → u.keepUp o.eng = u ∧ exec (.add o) s = exec (.add o) u ∧
      exec (.str o) s = exec (.str o) u ∧ exec (.swap o) s = exec (.swap o) u) ∧
    (∀ (e : Engine) (v : Word), let u := s.closeLag e; u.canIssue e = true → u.closeLag e = u ∧
      exec (.registerWrite e 0x40380000 v) s = exec (.registerWrite e 0x40380000 v) u) ∧
    (∀ (r : Lagged) (rest : List Lagged), s.pair.trail = r :: rest →
      let next : State := { s with pair := { s.pair with trail := rest } }
      (r.act = none → s.retireHead = next.setEng .msp1 { r.after with run := .running }) ∧
      (∀ la n v, r.act = some (.mem la n v) → n = 1 ∨ n = 2 ∨ n = 4 → la % n = 0 → inPair la = false →
        s.retireHead.eng .msp1 = { r.after with run := .running } ∧ s.retireHead.pair.trail = rest ∧ StoredAt next s.retireHead n la (BitVec.ofNat 32 v)))) ∧
 (∀ (e : Engine) (v : Word) (s : State), Passes s e Reg.MSP_MMACK →
    (e = .miller → v.toNat / 65536 = 0x3D9E → s.f Fld.MSP_MMSTAT_VALID = 1 → s.mode.window = some .resign →
      ∃ t, exec (.mspMmack e v) s = .next t ∧ t.rst.asserted = some .resign ∧ t.reg Reg.MSP_MMRET = 0 ∧
        t.f Fld.MSP_MMSTAT_VALID = 0 ∧ t.cis.keyLock = s.cis.keyLock ∧
        (∀ b : Fin 5, (s.bridge b).latch.held = true →
          (t.bridge b).latch = (s.bridge b).latch) ∧
        (∀ f : Engine, t.eng f = {})) ∧
    (e ≠ .miller ∨ v.toNat / 65536 ≠ 0x3D9E → exec (.mspMmack e v) s = .next s)) ∧
 ((∀ (v : Word) (s : State), Passes s .msp0 Reg.MSP_INJCTL → s.super .msp0 = true →
    (v.toNat / 65536 = 0x1A6B → s.md = mSERVICE → s.f Fld.SYS_MODE_SPLIT = 0 → s.f Fld.MSP_STAT_INJ_BUSY = 0 →
      s.stopDem = false → Effect (.injectionTestRequest .msp0 v) s (s.setEng .msp0 { s.eng .msp0 with run := .stopped })
        [(Fld.MSP_STAT_INJ_BUSY, 1)]) ∧
    (v.toNat / 65536 ≠ 0x1A6B ∨ s.md ≠ mSERVICE ∨ s.f Fld.SYS_MODE_SPLIT = 1 ∨ s.stopDem = true →
      exec (.injectionTestRequest .msp0 v) s = .next s)) ∧
  (∀ (e : Engine) (v : Word) (s : State), Closed s e → s.canIssue e = true → s.super e = false ∨ e = .msp1 →
    Raises (.injectionTestRequest e v) s e ⟨2, 3, some (BitVec.ofNat 32 Reg.MSP_INJCTL), 0⟩) ∧
  (∀ s : State, s.live = true → s.f Fld.MSP_STAT_INJ_BUSY = 1 →
    Effect (.injectionTestEnd 0 0) s (s.setEng .msp0 { s.eng .msp0 with run := .running })
      [(Fld.MSP_STAT_INJ_BUSY, 0), (Fld.MSP_INJSTAT_PASS, 1),
       (Fld.MSP_INJSTAT_RUNS, min 255 (s.f Fld.MSP_INJSTAT_RUNS + 1))]) ∧
  (∀ (f0 f1 : Word) (s : State), s.live = true → s.f Fld.MSP_STAT_INJ_BUSY = 1 → s.mode.window = none →
    f0 ≠ 0 ∨ f1 ≠ 0 → ∃ t, exec (.injectionTestEnd f0 f1) s = .next t ∧
      t.f Fld.MSP_STAT_INJ_BUSY = 0 ∧ t.f Fld.MSP_MMSTAT_VALID = 1 ∧ t.f Fld.MSP_MMSTAT_INJ = 1 ∧
      t.reg (Reg.MSP_MMLANE 0) = f0 ∧ t.reg (Reg.MSP_MMLANE 1) = f1 ∧ t.mode.window = some .resign ∧
      (t.eng .msp0).run = .stopped ∧ (t.eng .msp1).run = .stopped ∧ t.mem = s.mem))

/-! ### The Catchment and the Wellhead (chapter 10) -/

/-- R230 to R234: completions by CAT_DONE. R240, R242: a chosen watch entry that fires is an occurrence of its source
while the lane runs, and is logged during low-power entry, sleep and wake. -/
def Obligations.CompletionAndWatch : Prop :=
 (∀ (e : Engine) (v : Word) (s : State), Passes s e Reg.CAT_DONE →
    let n := v.toNat % 256
    let m := v.toNat / 256 % 16
    (isSource n = false → exec (.catDone e v) s = .next s) ∧
    (isSource n = true → isLevel n = true →
      (s.f (Fld.CAT_CNT_NOW n) = 1 → exec (.catDone e v) s = .next s) ∧
      (s.f (Fld.CAT_CNT_NOW n) = 0 → Effect (.catDone e v) s s [(Fld.CAT_CNT_COUNT n, 0)])) ∧
    (isSource n = true → isLevel n = false → Effect (.catDone e v) s s
      [(Fld.CAT_CNT_COUNT n, s.f (Fld.CAT_CNT_COUNT n) - (if m = 0 then 15 else m))])) ∧
 (∀ (n : Fin 16) (rising : Bool) (s : State), 7 ≤ n.val → s.rst.porHold = false →
    let sig := s.f (Fld.WHD_WATCH_SIG n)
    let edge := s.f (Fld.WHD_WATCH_EDGE n)
    let fires := 1 ≤ sig ∧ sig ≤ 0x11 ∧ (edge = 3 ∨ edge = 1 ∧ rising = true ∨ edge = 2 ∧ rising = false)
    (fires → s.live = true → s.whd.phase = .awake →
      Effect (.watchEntryFire n rising) s s (raised s (9 + n.val))) ∧
    (fires → s.whd.phase ≠ .awake → Effect (.watchEntryFire n rising) s s
      ((Fld.WHD_WATCH_LOGGED n, 1) :: if s.f (Fld.WHD_WATCH_CNT n) = 15 then [(Fld.WHD_WATCH_LSAT n, 1)]
        else [(Fld.WHD_WATCH_CNT n, s.f (Fld.WHD_WATCH_CNT n) + 1)])) ∧
    (¬ fires → exec (.watchEntryFire n rising) s = .next s))

/-! ### The register interface and resets (chapter 05) -/

/-- R97, R102, R103: a register write acts on each field by its access code; what keeps one from its register; a
misaligned access has no effect but its exception. R23, R110 to R115: a write of a set-point waits for the firing of
its group; SYS_UPD fires the groups whose OWNER admits the writer and counts the others. R117, R238, R239: a write
of a Wellhead register waits until the Wellhead takes it; entries 0 to 6 and the read copies take none. R103, R117,
R273, R275: writes of DRV registers are posted, and the drive die takes them. -/
def Obligations.RegisterAndPostedWrites : Prop :=
 ((∀ (e : Engine) (addr v : Word) (s : State) (k : Kind), Passes s e addr.toNat → addr.toNat % 4 = 0 →
    0x40380000 ≤ addr.toNat → addr.toNat < 0x40400000 → kindAt addr.toNat = some k →
    ∃ t, exec (.registerWrite e addr v) s = .next t ∧ t = { s with regs := t.regs, shadow := t.shadow } ∧
      (∀ a, a ≠ addr.toNat → t.reg a = s.reg a) ∧
      ∀ x ∈ k.fields, (t.reg addr.toNat).field x.lo x.w = match x.acc with
        | .rw => v.field x.lo x.w
        | .w1c => (s.reg addr.toNat &&& ~~~v).field x.lo x.w
        | .wb => if s.f Fld.PROT_SEAL_SEALED = 0 then v.field x.lo x.w else (s.reg addr.toNat).field x.lo x.w
        | _ => (s.reg addr.toNat).field x.lo x.w) ∧
  (∀ (e : Engine) (addr v : Word) (s : State), Closed s e → s.canIssue e = true → addr.toNat % 4 ≠ 0 →
    (e ≠ .flume → Raises (.registerWrite e addr v) s e ⟨7, 2, some addr, 0⟩ ∧
      Raises (.shWrite e addr v) s e ⟨7, 2, some addr, 0⟩) ∧
    (e = .flume → Effect (.registerWrite e addr v) s s (raised s 11) ∧
      Effect (.shWrite e addr v) s s (raised s 11))) ∧
  (∀ (e : Engine) (v : Word) (i : Fin 5) (s : State), Closed s e → s.canIssue e = true → (∀ n, e ≠ .slu n) →
    let addr : Word := BitVec.ofNat 32 (Reg.LEAT_SHARE i)
    (e ≠ .flume → s.permits e .wr addr.toNat = false →
      Raises (.registerWrite e addr v) s e ⟨5, 0, some addr, 0⟩) ∧
    (e = .flume → s.permits e .wr addr.toNat = false →
      Effect (.registerWrite e addr v) s s (raised s 11))) ∧
  (∀ (e : Engine) (v : Word) (b : Fin 5) (s : State), Closed s e → s.canIssue e = true → (∀ n, e ≠ .slu n) →
    let a := Reg.BRG_CFG b
    s.permits e .wr a = true → s.ownerOk e a = false →
      Effect (.registerWrite e (BitVec.ofNat 32 a) v) s s
        (raised s 10 ++ [(Fld.PROT_SEAL_VIOL, min 65535 (s.f Fld.PROT_SEAL_VIOL + 1))]))) ∧
 ((∀ (e : Engine) (v : Word) (n : Fin 5) (i : Fin 16) (s : State), Passes s e (Reg.SLU_SP n i) →
    ∃ t, exec (.shWrite e (BitVec.ofNat 32 (Reg.SLU_SP n i)) v) s = .next t ∧
      t = { s with shadow := t.shadow, regs := t.regs } ∧ RegsAre s t [] ∧
      ∀ a, t.shadow.lookup a = if a = Reg.SLU_SP n i then some v else s.shadow.lookup a) ∧
  (∀ (e : Engine) (v : Word) (s : State), Passes s e Reg.SYS_UPD → (s.shadow.map (·.1)).Nodup →
    let admits (g : Nat) : Bool := v.getLsbD g && ownerAdmits (s.f (Fld.SYS_UPDGRP_OWNER g)) e
    let denied := ((List.range 16).filter (fun g => v.getLsbD g && !admits g)).length
    ∃ t, exec (.sysUpd e v) s = .next t ∧ t.mem = s.mem ∧ t.engs = s.engs ∧
      (∀ g < 16, t.f (Fld.SYS_UPDGRP_FIRED g) =
        if admits g ∧ g ∉ s.now.byMark then (s.f (Fld.SYS_UPDGRP_FIRED g) + 1) % 256 else s.f (Fld.SYS_UPDGRP_FIRED g)) ∧
      t.f Fld.SYS_UPDSTAT_DENIED = min 255 (s.f Fld.SYS_UPDSTAT_DENIED + denied) ∧
      ∀ (n : Fin 5) (i : Fin 16),
        t.reg (Reg.SLU_SP n i) = (match s.shadow.lookup (Reg.SLU_SP n i) with
          | some w => if admits (s.groupOf n.val) then w else s.reg (Reg.SLU_SP n i)
          | none => s.reg (Reg.SLU_SP n i)) ∧
        t.shadow.lookup (Reg.SLU_SP n i) =
          (if admits (s.groupOf n.val) then none else s.shadow.lookup (Reg.SLU_SP n i)))) ∧
 ((∀ (e : Engine) (addr v : Word) (s : State), Passes s e addr.toNat → 0x40050000 ≤ addr.toNat →
    addr.toNat < 0x40060000 → addr.toNat % 4 = 0 →
    let takes := addr.toNat = Reg.WHD_WAKECFG ∨ addr.toNat = Reg.WHD_WTIMER ∨
      ∃ n : Nat, 7 ≤ n ∧ n < 16 ∧ addr.toNat = 0x40050080 + 4 * n
    (takes → ∃ t, exec (.whdWrite e addr v) s = .next t ∧
      t = { s with whd := { s.whd with posted := t.whd.posted } } ∧
      ∀ a, t.whd.posted.lookup a = if a = addr.toNat then some v else s.whd.posted.lookup a) ∧
    (¬ takes → exec (.whdWrite e addr v) s = .next s)) ∧
  (∀ s : State, s.rst.porHold = false → (s.whd.posted.map (·.1)).Nodup →
    ∃ t, exec .whdWriteTaken s = .next t ∧ t.whd = { s.whd with posted := [] } ∧
      t = { s with regs := t.regs, shadow := t.shadow, whd := t.whd } ∧
      t.f Fld.WHD_WAKECFG_TIMER = (match s.whd.posted.lookup Reg.WHD_WAKECFG with
        | some v => v.field Fld.WHD_WAKECFG_TIMER.lo 1 | none => s.f Fld.WHD_WAKECFG_TIMER) ∧
      (∀ n : Fin 16, 7 ≤ n.val →
        t.f (Fld.WHD_WATCH_SIG n) = (match s.whd.posted.lookup (Reg.WHD_WATCH n) with
          | some v => v.toNat % 32 | none => s.f (Fld.WHD_WATCH_SIG n)) ∧
        t.f (Fld.WHD_WATCH_EDGE n) = (match s.whd.posted.lookup (Reg.WHD_WATCH n) with
          | some v => v.toNat / 32 % 4 | none => s.f (Fld.WHD_WATCH_EDGE n)) ∧
        (t.f (Fld.WHD_WATCH_ARMED n) = 1 ↔
          1 ≤ t.f (Fld.WHD_WATCH_SIG n) ∧ t.f (Fld.WHD_WATCH_SIG n) ≤ 0x11 ∧ t.f (Fld.WHD_WATCH_EDGE n) ≠ 0) ∧
        t.f (Fld.WHD_WATCH_CNT n) = s.f (Fld.WHD_WATCH_CNT n) ∧
        t.f (Fld.WHD_WATCH_LOGGED n) = s.f (Fld.WHD_WATCH_LOGGED n)))) ∧
 ((∀ (e : Engine) (addr v : Word) (s : State), Passes s e addr.toNat →
    let posts (c : Instr) (a : Nat) : Prop := exec c s = .next { s with drv := { s.drv with
      posted := s.drv.posted.filter (fun x => x.1 != a) ++ [(a, v)] } }
    (addr.toNat = Reg.DRV_OVCFG ∨ addr.toNat = Reg.DRV_SPWCFG → s.f Fld.PROT_SEAL_SEALED = 0 →
      posts (.drvWrite e addr v) addr.toNat) ∧
    (addr.toNat = Reg.DRV_OVCFG ∨ addr.toNat = Reg.DRV_SPWCFG → s.f Fld.PROT_SEAL_SEALED = 1 →
      exec (.drvWrite e addr v) s = .next s) ∧
    (addr.toNat = Reg.DRV_SPWTEST → e = .msp0 → s.super .msp0 = true →
      (v.toNat / 65536 = 0x7C3B → s.md = mSERVICE →
        posts (.drvWrite e addr v) Reg.DRV_SPWTEST ∧ posts (.spillwayTest e v) Reg.DRV_SPWTEST) ∧
      (v.toNat / 65536 ≠ 0x7C3B ∨ s.md ≠ mSERVICE → exec (.spillwayTest e v) s = .next s))) ∧
  (∀ (e : Engine) (v : Word) (s : State), Closed s e → s.canIssue e = true → s.super e = false →
    Raises (.spillwayTest e v) s e ⟨2, 3, some (BitVec.ofNat 32 Reg.DRV_SPWTEST), 0⟩) ∧
  (∀ (v : Word) (r : List (Nat × Word)) (s : State),
    let taken : State := { s with drv := { s.drv with posted := r } }
    (s.drv.posted = (Reg.DRV_OVCFG, v) :: r → s.f Fld.DRV_SPWCFG_EN = 1 → Effect .drvWriteTaken s taken
      [(Fld.DRV_OVCFG_OV1, v.toNat % 256), (Fld.DRV_OVCFG_OV1HYS, v.toNat / 256 % 4),
       (Fld.DRV_OVCFG_OV2OFS, v.toNat / 4096 % 16), (Fld.DRV_OVCFG_OV2REL, v.toNat / 65536 % 128)]) ∧
    (s.drv.posted = (Reg.DRV_SPWCFG, v) :: r → Effect .drvWriteTaken s taken
      ([(Fld.DRV_SPWCFG_EN, v.toNat % 2), (Fld.DRV_SPWCFG_ITH, v.toNat / 256 % 32),
        (Fld.DRV_SPWCFG_IMAX, v.toNat / 65536 % 16), (Fld.DRV_SPWCFG_TCHK, v.toNat / 2 ^ 24 % 64)] ++
        if v.getLsbD 0 = true then [] else [(Fld.DRV_STAT_SPW_ON, 0)])) ∧
    (s.drv.posted = (Reg.DRV_SPWTEST, v) :: r →
      (s.f Fld.DRV_SPWCFG_EN = 1 → s.f Fld.DRV_STAT_OV1 = 0 →
        Effect .drvWriteTaken s taken [(Fld.DRV_STAT_TBUSY, 1),
          (Fld.DRV_STAT_SPW_ON, if s.drv.vdrvOk = true ∧ s.f Fld.DRV_STAT_SPILL_FAULT = 0 then 1 else 0)]) ∧
      (s.f Fld.DRV_SPWCFG_EN = 0 ∨ s.f Fld.DRV_STAT_OV1 = 1 → exec .drvWriteTaken s = .next taken)) ∧
    (s.drv.posted = [] → exec .drvWriteTaken s = .next s)))

/-- R119 to R123: each kind of reset, when it is asserted and what it clears and keeps. R107, R108: the watchdog is
kicked by the Miller core with the key only; its timeout resets the lane, in TRIPLEX and DUPLEX with the bridges
latched, and in SIMPLEX halts the Miller core and defers the reset. R17 to R19, R79: the timebase moves one step at
a time, by software only. -/
def Obligations.ResetsWatchdogAndTimebase : Prop :=
 (let clears (s t : State) (k : ResetKind) : Prop :=
    t.rst.asserted = some (joinReset s.rst.asserted k) ∧ (∀ e, t.eng e = {}) ∧ t.md = mBOOT ∧
    t.f Fld.PROT_SEAL_SEALED = 0 ∧ t.shadow = [] ∧ t.f Fld.SYS_TBSEL_ACTIVE = 0 ∧
    t.f Fld.SYS_MODE_ROLE = 0 ∧ t.cis.keyLock = s.cis.keyLock ∧ t.cis.dir0 = s.cis.dir0 ∧ t.cis.dir1 = s.cis.dir1 ∧
    (s.cis.running ≠ some .fuseKey → t.cis.keyHash = s.cis.keyHash) ∧
    (∀ a, s.cis.dataBusy = false ∨ a < s.cis.dataAt ∨ s.cis.dataAt + 4 ≤ a → t.cis.bytes.byte a = s.cis.bytes.byte a) ∧
    t.cis.running = none ∧ t.cis.dataBusy = false ∧ t.plb.log = s.plb.kept ∧
    (∀ n, n < 224 → t.isPending n = false) ∧
    (k ≠ .por → t.reg Reg.WHD_WTIMER = s.reg Reg.WHD_WTIMER ∧ t.reg Reg.WHD_WAKECFG = s.reg Reg.WHD_WAKECFG ∧
      t.safe.levels = s.safe.levels ∧
      ∀ b : Fin 5, (s.bridge b).latch.held = true → (t.bridge b).latch = (s.bridge b).latch) ∧
    (k = .por → ∀ b : Fin 5, (t.bridge b).latch.held = false) ∧
    (∀ a, t.mem.byte a = if k = .soft ∧ s.inReset = false ∧ s.live = true ∧ 0x10200000 ≤ a ∧ a < 0x10240000
      then s.mem.byte a else 0)
  (∀ (r : Rail) (s : State), ∃ t, exec (.por r) s = .next t ∧ clears s t .por) ∧
  (∀ (split : Bool) (s : State), s.rst.porHold = true → exec (.porRelease split) s =
    .next { s with rst := { s.rst with porHold := false, splitLatch := split, pgood := true } }) ∧
  (∀ (w : Nat) (s : State),
    (w < 100 → exec (.rstN w) s = .next s) ∧
    (1000 ≤ w → ∃ t, exec (.rstN w) s = .next t ∧ clears s t .rstN) ∧
    (100 ≤ w → w < 1000 → ∃ t, exec (.rstN w) s = .next t ∧
      (t = { s with free := t.free } ∨ clears s t .rstN))) ∧
  (∀ (v : Word) (s : State), Passes s .msp0 Reg.SYS_RSTCTL → s.super .msp0 = true →
    (v.toNat / 65536 = 0x50F7 → s.f Fld.SYS_MODE_STOPPING = 0 →
      s.md = mBOOT ∨ s.md = mCOMMISSION ∨ s.md = mREADY ∨ s.md = mSERVICE →
      ∃ t, exec (.softReset .msp0 v) s = .next t ∧ clears s t .soft) ∧
    (v.toNat / 65536 ≠ 0x50F7 ∨ s.f Fld.SYS_MODE_STOPPING = 1 ∨ s.inRun = true ∨ s.md = mSAFEHOLD →
      exec (.softReset .msp0 v) s = .next s)) ∧
  (∀ (v : Word) (e : Engine) (s : State), Closed s e → s.canIssue e = true → s.super e = false →
    Raises (.softReset e v) s e ⟨2, 3, some (BitVec.ofNat 32 Reg.SYS_RSTCTL), 0⟩)) ∧
 ((∀ (e : Engine) (v : Word) (s : State), Passes s e Reg.SYS_WDG →
    (s.f Fld.PROT_SEAL_SEALED = 0 → ¬ (v.getLsbD 31 = true ∧ v.toNat % 65536 < 4) →
      Effect (.watchdogConfig e v) s s [(Fld.SYS_WDG_PERIOD, v.toNat % 65536), (Fld.SYS_WDG_EN, v.toNat / 2 ^ 31)]) ∧
    (s.f Fld.PROT_SEAL_SEALED = 1 ∨ v.getLsbD 31 = true ∧ v.toNat % 65536 < 4 →
      Effect (.watchdogConfig e v) s s [])) ∧
  (∀ (e : Engine) (v : Word) (s : State), Passes s e Reg.SYS_WDGKICK →
    (e = .miller → v.toNat % 65536 = 0xB0D4 →
      exec (.watchdogKick e v) s = .next { s with rst := { s.rst with wdgT0 := s.tnow } }) ∧
    (e ≠ .miller ∨ v.toNat % 65536 ≠ 0xB0D4 → exec (.watchdogKick e v) s = .next s)) ∧
  (∀ s : State, s.live = true → s.rst.wdgOn = true → s.mode.deferred = false →
    (s.md ≠ mSIMPLEX → ∃ t, exec .watchdogTimeout s = .next t ∧ t.rst.asserted = some .watchdog ∧
      (∀ e, t.eng e = {}) ∧
      (∀ b : Fin 5, let lat := (t.bridge b).latch
        if (s.bridge b).latch.held = true then lat = (s.bridge b).latch
        else if s.inRun = true ∧ s.legMask b ≠ 0 then
          lat.held = true ∧ lat.resign = true ∧
            lat.state = (if s.motor b && !(s.pcfg b).bit 1 then .lowerShort else .inert)
        else lat.held = false)) ∧
    (s.md = mSIMPLEX → s.mode.window = none → s.pairClean = true →
      ∃ t, exec .watchdogTimeout s = .next t ∧
      (t.eng .miller).run = .halted ∧ t.isPending 12 = true ∧ t.mode.deferred = true ∧
      t.rst.asserted = none ∧ t.f Fld.SYS_MODE_STOPPING = 1 ∧
      (s.f Fld.SYS_MODE_STOPPING = 0 → t.f Fld.SYS_MODE_SCAUSE = 5))) ∧
  (∀ s : State, s.rst.wdgOn = false → exec .watchdogTimeout s = .next s)) ∧
 ((∀ (e : Engine) (v : Word) (s : State), Passes s e Reg.SYS_TBSEL →
    let want := v.toNat % 4
    let now := s.f Fld.SYS_TBSEL_ACTIVE
    let stays := s.inRun = true ∨ s.md = mSAFEHOLD ∨ s.md = mSERVICE ∨ ∃ b : Fin 5, s.f (Fld.BRG_CTL_RUN b) = 1
    let ok := (now = 0 ∧ want = 1 ∧ s.f Fld.SYS_TBSEL_DLL_LOCK = 1) ∨ (now = 1 ∧ want = 2 ∧ s.ksync = true) ∨
      (now = 1 ∧ want = 0) ∨ (now = 2 ∧ want = 1 ∧ ¬ stays)
    (ok → Effect (.timebaseSelect e v) s s [(Fld.SYS_TBSEL_SEL, want)]) ∧
    (¬ ok → exec (.timebaseSelect e v) s = .next s)) ∧
  (∀ s : State, s.live = true →
    ((∀ n : Fin 2, s.f (Fld.CAN_CTL_EN n) = 0) →
      Effect .timebaseStep s s [(Fld.SYS_TBSEL_ACTIVE, s.f Fld.SYS_TBSEL_SEL)]) ∧
    (∃ t, exec .timebaseStep s = .next t ∧ t = { s with regs := t.regs, can := t.can } ∧
      t.f Fld.SYS_TBSEL_ACTIVE = s.f Fld.SYS_TBSEL_SEL ∧
      ∀ n : Fin 2, s.f (Fld.CAN_CTL_EN n) = 1 → s.whd.phase = .awake → t.f (Fld.CAN_CTL_EN n) = 1 ∧
        (s.f Fld.SYS_TBSEL_SEL = 0 → t.f (Fld.CAN_STAT_STATE n) = 0) ∧
        (s.f Fld.SYS_TBSEL_SEL ≠ 0 → s.f (Fld.CAN_STAT_STATE n) = 0 → t.f (Fld.CAN_STAT_STATE n) = 1)) ∧
    (s.romOwns = false →
      Effect .xtalOk s { s with whd := { s.whd with xtalOk := true } } [(Fld.SYS_TBSEL_XTAL_OK, 1)]) ∧
    (s.f Fld.SYS_TBSEL_XTAL_OK = 1 → Effect .dllLock s s [(Fld.SYS_TBSEL_DLL_LOCK, 1)]) ∧
    (s.f Fld.SYS_TBSEL_ACTIVE = 0 → Effect .dllLockLost s s [(Fld.SYS_TBSEL_DLL_LOCK, 0)]) ∧
    (s.f Fld.SYS_TBSEL_ACTIVE ≠ 0 → s.mode.window = none →
      (s.md = mTRIPLEX ∨ s.md = mDUPLEX → ∃ t, exec .dllLockLost s = .next t ∧
        t.f Fld.SYS_TBSEL_LOCK_LOST = 1 ∧ t.f Fld.SYS_TBSEL_ACTIVE = s.f Fld.SYS_TBSEL_ACTIVE ∧
        t.isPending 8 = true ∧ t.mode.window = some .resign ∧ t.f Fld.SYS_MODE_ROLE = 0) ∧
      (s.inRun = false → s.f Fld.SYS_MODE_ROLE = 0 → ∃ t, exec .dllLockLost s = .next t ∧
        t.rst.asserted = some .resign))))

/-! ### Boot, SEAL and the Cistern (chapter 04) -/

/-- R94, R95, R98, R120: the release of a reset records its cause and runs the boot ROM, which halts with its code or
goes on to the commissioning set-up or to phase 0. R95: phase 0 that has not executed SEAL within its time halts the
boot. R96, R99, R107, R227: SEAL freezes the set-up and releases the engines; once sealed it only retires; on core
1 it raises PRIV; in a split lane it ends comparison and starts core 1. Where the Miller core and the Flume engine start is the model's
choice (log entry 15). -/
def Obligations.BootAndSeal : Prop :=
 (∀ (env : BootEnv) (s : State) (k : ResetKind), s.rst.asserted = some k → s.rst.porHold = false →
    s.whd.phase = .awake → s.cis.journal = none →
    let pass := ∃ m, env.voutMode = some m ∧ m.toNat / 32 = 0 ∧ 0x10 ≤ m.toNat % 32 ∧ m.toNat % 32 ≤ 0x17
    let dirOk := s.cis.dir0.valid = true ∨ s.cis.dir1.valid = true
    let halts (code : Nat) : Prop := ∃ t, exec (.resetRelease env) s = .next t ∧ t.rst.asserted = none ∧
      t.f Fld.SYS_MODE_CAUSE = resetCause k ∧ t.f Fld.CIS_BOOTSTAT_HALT = code ∧
      (t.eng .msp0).run = .stopped ∧ (t.eng .msp1).run = .stopped ∧ t.faultLow = true
    (¬ pass → halts 1) ∧
    (pass → env.injectPass = false → halts 2) ∧
    (pass → env.injectPass = true → ¬ dirOk → halts 3) ∧
    (pass → env.injectPass = true → dirOk → env.bootStrap = true → ∃ t, exec (.resetRelease env) s = .next t ∧
      t.md = mCOMMISSION ∧ t.f Fld.SYS_MODE_CAUSE = 0x11 ∧ t.f Fld.PROT_SEAL_SEALED = 1 ∧
      t.f Fld.PROT_SEAL_BY_ROM = 1 ∧ t.rst.injHold = false) ∧
    (pass → env.injectPass = true → dirOk → env.bootStrap = false → s.cis.keyLock = false → halts 4) ∧
    (pass → env.injectPass = true → dirOk → env.bootStrap = false → s.cis.keyLock = true →
      s.cis.dir.find sTRIAL = none →
      (∀ n, s.cis.dir.find sACTIVE = some n → s.cis.passes n = true →
        (splitFlag s.lane (s.cis.flags n) ≠ s.rst.splitLatch → halts 6) ∧
        (splitFlag s.lane (s.cis.flags n) = s.rst.splitLatch → ∃ t, exec (.resetRelease env) s = .next t ∧
          t.rst.asserted = none ∧ t.rst.phase0 = true ∧ t.f Fld.SYS_MODE_CAUSE = resetCause k ∧ t.md = s.md ∧
          t.f Fld.CIS_BOOTSTAT_RUNSLOT = n.val ∧ t.f Fld.CIS_BOOTSTAT_TRIALRUN = 0 ∧
          t.f Fld.CIS_BOOTSTAT_FALLBACK = 0 ∧ t.cis = s.cis ∧
          t.eng .msp0 = { pc := BitVec.ofNat 32 (s.cis.ph0Entry n), run := .running, psw := 0x200 })) ∧
      (s.cis.dir.find sACTIVE = none → s.cis.dir.find sPREVIOUS = none → halts 5))) ∧
 (∀ s : State,
    (s.live = true → s.rst.phase0 = true → ∃ t, exec .sealLate s = .next t ∧
      t = { s with regs := t.regs, engs := t.engs, rst := { s.rst with phase0 := false } } ∧
      RegsAre s t [(Fld.CIS_BOOTSTAT_HALT, 7)] ∧
      (∀ e, t.eng e = if isMsp e then { s.eng e with run := .stopped } else s.eng e)) ∧
    (s.rst.phase0 = false → exec .sealLate s = .next s)) ∧
 (∀ (o : FmtS) (s : State), Issues s o.eng 1 → o.gd = 0 → o.ga = 0 → o.num = 0 →
    (s.eng o.eng).psw.getLsbD 9 = true →
    Closed s o.eng →
    (o.eng = .msp0 → s.f Fld.PROT_SEAL_SEALED = 1 → Retires (.seal o) s o.eng 1 (s.eng o.eng)) ∧
    (o.eng = .msp1 → Raises (.seal o) s .msp1 ⟨2, 1, none, 0⟩) ∧
    (o.eng = .msp0 → s.f Fld.PROT_SEAL_SEALED = 0 → ∃ t, exec (.seal o) s = .next t ∧
      t.f Fld.PROT_SEAL_SEALED = 1 ∧ t.f Fld.PROT_SEAL_BY_ROM = 0 ∧
      t.eng .msp0 = (s.eng .msp0).next 1 ∧
      t.eng .miller = { s.eng .miller with run := .running, pc := 0x10000000 } ∧
      t.eng .flume = { s.eng .flume with run := .running, pc := 0x10000000 } ∧
      (∀ n : Fin 5, t.eng (.slu n) =
        if s.f (Fld.SLU_STAT_STATE n) = 4 then s.eng (.slu n) else { s.eng (.slu n) with run := .stopped }) ∧
      t.rst.phase0 = false ∧ (t.rst.wdgOn = true ↔ s.f Fld.SYS_WDG_EN = 1) ∧ t.rst.wdgT0 = s.tnow ∧
      t.whd.pmbAddr.toNat = s.f Fld.PWR_PMBCFG_ADDR ∧
      t.f Fld.SYS_MODE_MODE = s.f Fld.SYS_MODE_MODE ∧
      (s.rst.splitLatch = false → t.mem = s.mem ∧ t.eng .msp1 = s.eng .msp1 ∧
        t.f Fld.SYS_MODE_SPLIT = s.f Fld.SYS_MODE_SPLIT ∧ t.f Fld.MSP_STAT_LOCKSTEP = s.f Fld.MSP_STAT_LOCKSTEP) ∧
      (s.rst.splitLatch = true → t.f Fld.SYS_MODE_SPLIT = 1 ∧ t.f Fld.MSP_STAT_SPLIT = 1 ∧
        t.f Fld.MSP_STAT_LOCKSTEP = 0 ∧
        t.eng .msp1 = { pc := s.rst.core1Entry, run := .running, psw := 0x200 })))

/-- R86, R87, R89, R90: a keyed slot command starts, ends at once with its refusal, or is refused while another runs.
R82, R90, R104, R441: the data port, and a sector that does not read back. -/
def Obligations.CisternCommandsAndData : Prop :=
 (∀ (n : Fin 4) (s : State), Passes s .msp0 Reg.CIS_CMD → s.super .msp0 = true →
    let ops : List (Instr × CisOp) := [(.verify .msp0 n 0xA37E, .verify n), (.activate .msp0 n 0xA37E, .activate n),
      (.rollback .msp0 n 0xA37E, .rollback), (.erase .msp0 n 0xA37E, .erase n),
      (.raiseFloor .msp0 n 0xA37E, .raiseFloor (BitVec.ofNat 16 (s.f Fld.CIS_ARG_ARG))),
      (.fuseKey .msp0 n 0xA37E, .fuseKey)]
    let st (m : Fin 4) : Nat := (s.cis.dir.stateOf m).toNat
    let floor := s.cis.dir.floor.toNat
    let above (m : Fin 4) : Prop := floor ≤ s.cis.version m / 65536
    (s.cis.running ≠ none → ∀ x ∈ ops, Effect x.1 s s [(Fld.CIS_STAT_BUSYREF, 1)]) ∧
    (s.cis.running = none → s.dip = true → ∀ x ∈ ops, Effect x.1 s s
      ([(Fld.CIS_STAT_RESULT, 1), (Fld.CIS_STAT_DONE, 1)] ++ raised s 15)) ∧
    (s.cis.running = none → s.dip = false → s.whd.phase = .awake →
      (s.md ≠ mCOMMISSION → ∀ x ∈ ops, Effect x.1 s s
        ([(Fld.CIS_STAT_RESULT, 2), (Fld.CIS_STAT_DONE, 1)] ++ raised s 15)) ∧
      (s.md = mCOMMISSION → ∀ x ∈ ops,
        let free := s.cis.dir.find sTRIAL = none
        let ok : Prop := match x.2 with
          | .verify m => st m = 0
          | .activate m => st m = 1 ∧ free ∧ above m
          | .rollback => free ∧ ∃ m, s.cis.dir.find sPREVIOUS = some m ∧ above m
          | .erase m => st m ≠ 2 ∧ st m ≠ 3
          | .raiseFloor v => free ∧ ∃ m, s.cis.dir.find sACTIVE = some m ∧ floor < v.toNat ∧
              v.toNat ≤ s.cis.version m / 65536
          | .fuseKey => s.cis.keyLock = false
        (ok → Effect x.1 s { s with cis := { s.cis with running := some x.2, journal := s.cis.openEntry x.2 } }
          [(Fld.CIS_STAT_CMD, 1), (Fld.CIS_STAT_BUSY, 1)]) ∧
        (¬ ok → ∃ r, (r = 3 ∨ r = 5) ∧ Effect x.1 s s
          ([(Fld.CIS_STAT_RESULT, r), (Fld.CIS_STAT_DONE, 1)] ++ raised s 15))))) ∧
 ((∀ (e : Engine) (v : Word) (s : State), Passes s e Reg.CIS_DATA →
    let a := 4 * s.f Fld.CIS_ADDR_ADDR
    let next := (Fld.CIS_ADDR_ADDR, (s.f Fld.CIS_ADDR_ADDR + 1) % 2 ^ 22)
    (s.cis.running ≠ none ∨ s.dip = true → Effect (.cisDataWrite e v) s s [(Fld.CIS_STAT_BUSYREF, 1)]) ∧
    (s.cis.running = none → s.dip = false → s.whd.phase = .awake →
      (s.cis.dataBusy = true → Effect (.cisDataWrite e v) s { s with cis := { s.cis with heldData := s.cis.heldData ++ [(e, v)] } } []) ∧
      (s.cis.dataBusy = false → s.cis.remapping = none →
        (∀ n, a < 0xC00000 → n = a / 0x300000 → s.md = mCOMMISSION → (s.cis.dir.slots[n]?.map (·.state)) = some sEMPTY →
          Effect (.cisDataWrite e v) s
            { s with cis := { s.cis with bytes := s.cis.bytes.write a 4 v.toNat, dataBusy := true, dataAt := a } }
            [next, (Fld.CIS_STAT_CMD, 0), (Fld.CIS_STAT_BUSY, 1)]) ∧
        (a < 0xC00000 → s.md ≠ mCOMMISSION →
          Effect (.cisDataWrite e v) s s [(Fld.CIS_STAT_RESULT, 2), next])))) ∧
  (∀ (e : Engine) (gd : BitVec 5) (s : State), Closed s e → s.canIssue e = true → s.permits e .rd Reg.CIS_DATA = true →
    4 * s.f Fld.CIS_ADDR_ADDR < 0xC00000 →
    Effect (.cisDataRead e gd) s
      ((s.setEng e ((s.eng e).setG gd (s.cis.bytes.word (4 * s.f Fld.CIS_ADDR_ADDR)))).twin e)
      [(Fld.CIS_ADDR_ADDR, (s.f Fld.CIS_ADDR_ADDR + 1) % 2 ^ 22)]) ∧
  (∀ s : State, s.cis.dataBusy = true → s.cis.remapping = none → s.cis.heldData = [] → s.race.bufs = [] →
    s.cis.running = none →
    Effect (.cisDataWriteDone true) s { s with cis := { s.cis with dataBusy := false } }
      [(Fld.CIS_STAT_CMD, 0), (Fld.CIS_STAT_BUSY, 0)] ∧
    (s.f Fld.PLB_SPARE_MRAMUSED < 164 → Effect (.cisDataWriteDone false) s
      { s with cis := { s.cis with remapping := some s.dataSector } }
      [(Fld.CIS_STAT_CMD, 0), (Fld.CIS_STAT_BUSY, 1)])) ∧
  (∀ (n : Nat) (s : State), s.live = true → n < 0xF00 → s.cis.remapping = some n →
    s.f Fld.PLB_SPARE_MRAMUSED < 164 → s.race.bufs = [] →
    ∃ t, exec (.sectorRemapDone n) s = .next t ∧ t.cis.remapping = none ∧
      t.cis.remapTab = s.cis.remapTab ++ [(n, s.f Fld.PLB_SPARE_MRAMUSED)] ∧
      t.f Fld.PLB_SPARE_MRAMUSED = s.f Fld.PLB_SPARE_MRAMUSED + 1 ∧ t.isPending 212 = true ∧ t.mem = s.mem ∧
      t.engs = s.engs) ∧
  (∀ (n : Nat) (s : State), 4096 ≤ n → exec (.sectorRemapDone n) s = .fault .illFormed))

/-- R81, R84 to R87, R89: what a slot command that ran has done when it ends. R91: the confirmation of a running trial,
and its refusals. -/
def Obligations.CisternEffects : Prop :=
 (∀ (s : State) (op : CisOp), s.cis.running = some op → s.race.rom = none → s.race.bufs = [] →
    s.race.romWait = false → s.live = true →
    let d := s.cis.dir
    ∃ t, exec .cisCommandDone s = .next t ∧ t.cis.running = none ∧ t.f Fld.CIS_STAT_DONE = 1 ∧
      t.f Fld.CIS_STAT_CMD = 0 ∧ t.isPending 15 = true ∧ t.mem = s.mem ∧ t.engs = s.engs ∧
      match op with
      | .verify n =>
        let good := s.cis.valid n && s.cis.aboveFloor n
        (∀ m, t.cis.dir.stateOf m = if m = n then (if good then sSTAGED else sREJECTED) else d.stateOf m) ∧
        (t.f Fld.CIS_STAT_RESULT = 0 ↔ good = true)
      | .activate n => t.f Fld.CIS_STAT_RESULT = 0 ∧ ∀ m, t.cis.dir.stateOf m =
          if m = n then sTRIAL else if d.stateOf m = sACTIVE then sPREVIOUS
          else if d.stateOf m = sPREVIOUS then sEMPTY else d.stateOf m
      | .rollback => ∀ n, d.find sPREVIOUS = some n → t.f Fld.CIS_STAT_RESULT = 0 ∧
          ∀ m, t.cis.dir.stateOf m = if m = n then sTRIAL else if d.stateOf m = sACTIVE then sPREVIOUS
            else d.stateOf m
      | .erase n => t.f Fld.CIS_STAT_RESULT = 0 ∧
          (∀ m, t.cis.dir.stateOf m = if m = n then sEMPTY else d.stateOf m) ∧
          ∀ a, t.cis.bytes.byte a = if n.val * 0x300000 ≤ a ∧ a < n.val * 0x300000 + 0x1000 then 0
            else s.cis.bytes.byte a
      | .raiseFloor v => t.f Fld.CIS_STAT_RESULT = 0 ∧ t.cis.dir.floor = v ∧
          ∀ m, t.cis.dir.stateOf m = d.stateOf m
      | .fuseKey =>
        if s.cis.keyHash &&& ~~~s.keyhReg = 0 ∧ s.cis.keyCrc &&& ~~~(keyCrcOf s.keyhReg) = 0 then
          t.f Fld.CIS_STAT_RESULT = 0 ∧ t.cis.keyLock = true ∧ t.cis.keyHash = s.keyhReg
        else t.f Fld.CIS_STAT_RESULT = 7 ∧ t.cis.keyLock = s.cis.keyLock ∧ t.cis.keyHash = s.cis.keyHash) ∧
 (∀ (v : Word) (s : State), Passes s .msp0 Reg.CIS_CONFIRM → s.super .msp0 = true →
    (v.toNat / 65536 ≠ 0x5C0F → exec (.cisConfirm .msp0 v) s = .next s) ∧
    (v.toNat / 65536 = 0x5C0F → s.cis.running = none → s.dip = false → s.whd.phase = .awake →
      let ends (r : Nat) := Effect (.cisConfirm .msp0 v) s s
        ([(Fld.CIS_STAT_RESULT, r), (Fld.CIS_STAT_DONE, 1)] ++ raised s 15)
      (s.md ≠ mREADY → s.md ≠ mCOMMISSION → ends 2) ∧
      (s.md = mREADY ∨ s.md = mCOMMISSION → s.f Fld.CIS_BOOTSTAT_TRIALRUN = 0 → ends 8) ∧
      (s.md = mREADY ∨ s.md = mCOMMISSION → s.f Fld.CIS_BOOTSTAT_TRIALRUN = 1 →
        ∃ t, exec (.cisConfirm .msp0 v) s = .next t ∧ t.f Fld.CIS_STAT_RESULT = 0 ∧ t.f Fld.CIS_STAT_DONE = 1 ∧
          t.f Fld.CIS_BOOTSTAT_TRIALRUN = 0 ∧ t.isPending 15 = true ∧ t.mem = s.mem ∧ t.engs = s.engs ∧
          ∀ m, t.cis.dir.stateOf m =
            if m.val = s.f Fld.CIS_BOOTSTAT_RUNSLOT then sACTIVE else s.cis.dir.stateOf m)))

/-! ### Modes (chapter 01) -/

/-- R27, R28: a keyed request is pending from its write, superseding an earlier one; any other key, and any engine but
the supervisor-level Millstone pair, requests nothing. R29, R34, R73, R91: the transitions that a request makes at
once where the lane has no turn marks. R27, R29, R34, R108: the end of the stop program, and SAFE-HOLD with its
cause where no turn mark comes. -/
def Obligations.ModesAndRequests : Prop :=
 (∀ (k : BitVec 16) (x : BitVec 4) (s : State),
    let asks : List (Instr × BitVec 4) := [(.modeRequestTriplex .msp0 k, 3), (.modeRequestDuplex .msp0 k, 4),
      (.modeRequestReady .msp0 k, 2), (.modeRequestCommission .msp0 k, 1), (.modeRequestService .msp0 k, 7),
      (.modeRequestSafeHold .msp0 k, 6), (.modeRequestStandby .msp0 k, 8), (.modeRequestDormant .msp0 k, 9),
      (.modeRequestOther .msp0 x k, x)]
    let set (q : BitVec 4) : State :=
      { s with mode := { s.mode with request := some q, marks := 0, forming := none } }
    (Passes s .msp0 Reg.SYS_MODEREQ → s.super .msp0 = true →
      (k ≠ 0xC1A5 → ∀ a ∈ asks, exec a.1 s = .next s) ∧
      (k = 0xC1A5 → 4 ≤ s.f Fld.KNR_STAT_STATE → s.mode.request = none →
        ∀ a ∈ asks, Effect a.1 s (set a.2) [(Fld.SYS_MODE_REQST, 1)]) ∧
      (k = 0xC1A5 → s.f Fld.KNR_STAT_STATE < 4 → s.whd.phase = .awake → s.mode.request = none →
        (∀ a ∈ asks, a.2 = 3 ∨ a.2 = 4 → ∃ t, exec a.1 s = .next t ∧ t.f Fld.SYS_MODE_REQST = 3 ∧
          t.md = s.md ∧ t.mode.request = none ∧ t.mem = s.mem) ∧
        (∀ a ∈ asks, inTable s.md a.2 = false → a.2 ≠ 3 → a.2 ≠ 4 → s.f Fld.SYS_MODE_STOPPING = 0 →
          ∃ t, exec a.1 s = .next t ∧ t.f Fld.SYS_MODE_REQST = 4 ∧ t.md = s.md ∧ t.mode.request = none ∧
            t.mem = s.mem))) ∧
    (Closed s .msp0 → s.canIssue .msp0 = true → s.super .msp0 = false →
      ∀ a ∈ asks, Raises a.1 s .msp0 ⟨2, 3, some (BitVec.ofNat 32 Reg.SYS_MODEREQ), 0⟩)) ∧
 (∀ (s : State), Passes s .msp0 Reg.SYS_MODEREQ → s.super .msp0 = true → s.f Fld.KNR_STAT_STATE < 4 → s.whd.phase = .awake →
    s.mode.request = none → s.f Fld.SYS_MODE_STOPPING = 0 →
    let key : BitVec 16 := 0xC1A5
    let moves (c : Instr) (m : Nat) : Prop := ∃ t, exec c s = .next t ∧ t.md = m ∧
      t.f Fld.SYS_MODE_PREV = s.md ∧ t.f Fld.SYS_MODE_CAUSE = 0x10 ∧ t.f Fld.SYS_MODE_REQST = 2 ∧
      t.mode.request = none ∧ t.isPending 6 = true ∧ t.isPending 7 = true ∧ t.mem = s.mem ∧ t.cis = s.cis
    let refused (c : Instr) : Prop := ∃ t, exec c s = .next t ∧ t.md = s.md ∧ t.f Fld.SYS_MODE_REQST = 3 ∧
      t.mode.request = none ∧ t.isPending 7 = true ∧ t.mem = s.mem ∧ t.cis = s.cis
    (s.md = mREADY →
      moves (.modeRequestCommission .msp0 key) mCOMMISSION ∧ moves (.modeRequestSafeHold .msp0 key) mSAFEHOLD ∧
      (if s.f Fld.CIS_BOOTSTAT_TRIALRUN = 0 ∧ s.cogZero = true ∧ s.parked = true
        then moves (.modeRequestService .msp0 key) mSERVICE else refused (.modeRequestService .msp0 key)) ∧
      (∀ c ∈ [(Instr.modeRequestStandby .msp0 key, (8 : BitVec 4)), (Instr.modeRequestDormant .msp0 key, 9)],
        (s.allInert = false ∨ s.wakeEnabled = false ∨ s.dip = true → s.mode.lpWait = false → refused c.1) ∧
        (s.allInert = true → s.wakeEnabled = true → s.dip = false → s.mode.lpWait = false →
          s.f Fld.PWR_PMBCFG_PMB_BUSY = 0 → ∃ t, exec c.1 s = .next t ∧ t.whd.phase = .armed ∧
            t.whd.target = c.2 ∧ t.f Fld.SYS_MODE_REQST = 2 ∧ t.md = mREADY ∧ t.mem = s.mem))) ∧
    (s.md = mSAFEHOLD → if s.safeOk = true ∧ s.stopCause = false then moves (.modeRequestReady .msp0 key) mREADY
      else refused (.modeRequestReady .msp0 key)) ∧
    (s.md = mSERVICE → moves (.modeRequestReady .msp0 key) mREADY) ∧
    (s.inRun = true →
      (if s.cogZero = true then moves (.modeRequestReady .msp0 key) mREADY
        else refused (.modeRequestReady .msp0 key)) ∧
      ∃ t, exec (.modeRequestSafeHold .msp0 key) s = .next t ∧ t.md = s.md ∧ t.f Fld.SYS_MODE_STOPPING = 1 ∧
        t.f Fld.SYS_MODE_SCAUSE = 4 ∧ t.f Fld.SYS_MODE_REQST = 1)) ∧
 (∀ s : State, s.live = true → s.inRun = true → s.f Fld.SYS_MODE_STOPPING = 1 →
    exec .stopProgramComplete s = .next { s with mode := { s.mode with stopDone := true } } ∧
    (s.mode.stopDone = true → s.mode.deferred = false → ∃ t, exec .stopCompletionTimeout s = .next t ∧
      t.md = mSAFEHOLD ∧ t.f Fld.SYS_MODE_PREV = s.md ∧ t.f Fld.SYS_MODE_STOPPING = 0 ∧ t.mode.stopDone = false ∧
      t.f Fld.SYS_MODE_SCAUSE = s.f Fld.SYS_MODE_SCAUSE ∧
      t.f Fld.SYS_MODE_CAUSE = (match s.f Fld.SYS_MODE_SCAUSE with
        | 1 => 0x30 | 2 => 0x31 | 3 => 0x32 | 4 => 0x10 | _ => 0x34) ∧
      (s.mode.request = some 6 → t.f Fld.SYS_MODE_REQST = 2 ∧ t.mode.request = none) ∧
      t.mem = s.mem ∧ t.cis = s.cis) ∧
    (s.mode.stopDone = true → s.mode.deferred = true → ∃ t, exec .stopCompletionTimeout s = .next t ∧
      t.rst.asserted = some .watchdog ∧
      ∀ b : Fin 5, s.legMask b ≠ 0 → (t.bridge b).latch.held = true) ∧
    (s.mode.stopDone = false → exec .stopCompletionTimeout s = .next s))

/-! ### Supplies, sleep and wake (chapter 03) -/

/-- R58 to R63, R67: a voltage request is sent by PWR_VREQ or by the governor in steps of at most 5 codes; the warning
code follows a falling request at once. R55, R59 to R61, R67: the transfers of an outstanding request, its
acknowledgement and its end without one; STATUS_WORD reads. R54, R67, R69, R70: a VANA undervoltage outside the RUN
modes, and dips of a rail. -/
def Obligations.SuppliesAndPmbus : Prop :=
 (∀ s : State, s.live = true → s.power.vreq = none → s.power.xfer = none → s.power.alertDue = false →
    s.f Fld.PWR_PMBCFG_PMB_BUSY = 0 →
    let sends (code : Nat) : State := { s with
      power := { s.power with vreq := some code, cmdDue := false, xfer := some { kind := .voutCommand } },
      sent := s.sent ++ [.pmbus (s.f Fld.PWR_PMBCFG_ADDR) 0x21 (mantissa code (s.f Fld.PWR_PMBCFG_VEXP))] }
    let fields (code : Nat) : List (Field × Nat) := [(Fld.PWR_VSTAT_PENDING, code), (Fld.PWR_PMBCFG_PMB_BUSY, 1),
      (Fld.PWR_VSTAT_WCODE, min (s.f Fld.PWR_VSTAT_WCODE) code)]
    (∀ (e : Engine) (v : Word), Passes s e Reg.PWR_VREQ → e = .msp0 ∨ e = .miller → s.super e = true →
      let code := v.toNat % 64
      (s.f Fld.PWR_GOV_EN = 0 → code ≤ 50 →
        Effect (.voltageRequest e v) s (sends code) ((Fld.PWR_VREQ_CODE, code) :: fields code)) ∧
      (s.f Fld.PWR_GOV_EN = 1 ∨ 50 < code → exec (.voltageRequest e v) s = .next s)) ∧
    (∀ (e : Engine) (v : Word), Closed s e → s.canIssue e = true → s.super e = false →
      Raises (.voltageRequest e v) s e ⟨2, 3, some (BitVec.ofNat 32 Reg.PWR_VREQ), 0⟩) ∧
    (s.f Fld.PLB_STAT_BUSY = 0 →
      let goal := min (s.f Fld.PWR_GOV_CEIL) (max (s.f Fld.PWR_GOV_FLOOR) (20 + s.f Fld.PWR_GOV_WEAR + s.f Fld.PWR_GOV_OVR))
      let p := s.f Fld.PWR_VSTAT_PENDING
      (s.f Fld.PWR_GOV_EN = 0 ∨ goal = p → exec .governorRequest s = .next s) ∧
      (s.f Fld.PWR_GOV_EN = 1 → p < goal → Effect .governorRequest s (sends (min goal (p + 5))) (fields (min goal (p + 5)))) ∧
      (s.f Fld.PWR_GOV_EN = 1 → goal < p → Effect .governorRequest s (sends (max goal (p - 5))) (fields (max goal (p - 5))))) ∧
    Effect .ovrDecay s s [(Fld.PWR_GOV_OVR, s.f Fld.PWR_GOV_OVR - 1)]) ∧
 (∀ s : State, s.live = true → s.power.alertDue = false → s.power.cmdDue = false → s.mode.request = none →
    s.f Fld.PLB_STAT_BUSY = 0 →
    let xfer (x : Option Xfer) (sent : List Sent) : State :=
      { s with power := { s.power with xfer := x }, sent := s.sent ++ sent }
    let pg (on : Bool) (t : State) : State := { t with rst := { t.rst with pgood := on } }
    let readStatus : List Sent := [.pmbus (s.f Fld.PWR_PMBCFG_ADDR) 0x79 0]
    let faulty (v : BitVec 16) : Prop := v &&& 0xF87D ≠ 0
    (∀ c, s.power.vreq = some c →
      (s.power.xfer = none → exec .readVoutPoll s =
        .next (xfer (some { kind := .readVout }) [.pmbus (s.f Fld.PWR_PMBCFG_ADDR) 0x8B 0])) ∧
      (∀ (d : BitVec 16) (level : Bool) (x : Xfer), s.power.xfer = some x → x.kind = .readVout →
        (level = true → voutNear d.toNat c (s.f Fld.PWR_PMBCFG_VEXP) = true →
          Effect (.pmbusTransferEnd (.ok d level)) s { s with
              rst := { s.rst with pgood := true }
              power := { s.power with vreq := none, xfer := some { kind := .statusWord }, warnArmed := true },
              sent := s.sent ++ readStatus }
            [(Fld.PWR_VSTAT_PGOOD, 1), (Fld.PWR_VOUT_READ_VOUT, d.toNat), (Fld.PWR_VSTAT_TARGET, c),
             (Fld.PWR_VSTAT_PENDING, c), (Fld.PWR_VSTAT_WCODE, c), (Fld.PWR_PMBCFG_PMB_BUSY, 0)]) ∧
        (level = false ∨ voutNear d.toNat c (s.f Fld.PWR_PMBCFG_VEXP) = false →
          Effect (.pmbusTransferEnd (.ok d level)) s (pg level (xfer none []))
            [(Fld.PWR_VSTAT_PGOOD, Word.ofBool level), (Fld.PWR_VOUT_READ_VOUT, d.toNat)])) ∧
      (∀ (x : Xfer) (r : XferResult), s.power.xfer = some x → x.kind = .readVout → r = .nack ∨ r = .pecBad →
        (x.fails < 2 → exec (.pmbusTransferEnd r) s =
          .next (xfer (some { kind := .readVout, fails := x.fails + 1 }) [.pmbus (s.f Fld.PWR_PMBCFG_ADDR) 0x8B 0])) ∧
        (2 ≤ x.fails → Effect (.pmbusTransferEnd r) s { s with power := { s.power with vreq := none, xfer := none } }
          ([(Fld.PWR_STAT_PMBUS_ERR, 1), (Fld.PWR_STAT_TOCNT, min 255 (s.f Fld.PWR_STAT_TOCNT + 1)),
            (Fld.PWR_VSTAT_PENDING, s.f Fld.PWR_VSTAT_TARGET), (Fld.PWR_PMBCFG_PMB_BUSY, 0)] ++ raised s 4))) ∧
      ((∀ x, s.power.xfer = some x → x.kind ≠ .statusWord) →
        Effect .pmbusTimeout s { s with power := { s.power with vreq := none, xfer := none } }
          ([(Fld.PWR_STAT_PMBUS_TIMEOUT, 1), (Fld.PWR_STAT_TOCNT, min 255 (s.f Fld.PWR_STAT_TOCNT + 1)),
            (Fld.PWR_VSTAT_PENDING, s.f Fld.PWR_VSTAT_TARGET), (Fld.PWR_PMBCFG_PMB_BUSY, 0)] ++ raised s 4)) ∧
      Effect .pgoodLost s (pg false s) [(Fld.PWR_VSTAT_PGOOD, 0)]) ∧
    (s.power.xfer = none → exec .pmbAlert s = .next (xfer (some { kind := .statusWord }) readStatus)) ∧
    (∀ x, s.power.xfer = some x → exec .pmbAlert s =
      .next { s with power := { s.power with alertDue := true } }) ∧
    (∀ (v : BitVec 16) (x : Xfer), s.power.xfer = some x → x.kind = .statusWord →
      (faulty v → Effect (.statusWordRead v) s (xfer none [])
        ([(Fld.PWR_VOUT_STATUS, v.toNat), (Fld.PWR_STAT_REG_FAULT, 1)] ++ raised s 0)) ∧
      (¬ faulty v → Effect (.statusWordRead v) s (xfer none []) [(Fld.PWR_VOUT_STATUS, v.toNat)])) ∧
    (s.power.vreq = none → Effect .pgoodLost s (pg false s)
      ([(Fld.PWR_VSTAT_PGOOD, 0), (Fld.PWR_STAT_PGOOD_LOST, 1)] ++ raised s 0))) ∧
 (∀ s : State, s.live = true →
    let vana (low : Bool) : State := { s with rst := { s.rst with vanaUv := low } }
    (s.f Fld.PWR_BOW_VANA_UV = 0 → s.inRun = false →
      Effect .vanaUv s (vana true) ((Fld.PWR_BOW_VANA_UV, 1) :: levelled 3 true)) ∧
    (s.f Fld.PWR_BOW_VANA_UV = 0 → s.md = mTRIPLEX ∨ s.md = mDUPLEX → s.mode.window = none →
      ∃ t, exec .vanaUv s = .next t ∧ t.f Fld.PWR_BOW_VANA_UV = 1 ∧ t.isPending 3 = true ∧
        t.mode.window = some .resign ∧ t.f Fld.SYS_MODE_ROLE = 0) ∧
    Effect .vanaUvClear s (vana false) ((Fld.PWR_BOW_VANA_UV, 0) :: levelled 3 false) ∧
    (s.f Fld.PWR_BOW_VIO_BOW = 0 → Effect (.dipWarning .vio) s s
      ([(Fld.PWR_BOW_VIO_BOW, 1), (Fld.PWR_BOW_BOW, 1), (Fld.PWR_BOW_VIO_CNT, min 255 (s.f Fld.PWR_BOW_VIO_CNT + 1)),
        (Fld.HLTH_WORD_BOW, 1), (Fld.RACE_STAT_HOLD, 1)] ++ raised s 1)) ∧
    (s.f Fld.PWR_BOW_VCORE_BOW = 0 → s.power.warnArmed = true → Effect (.dipWarning .vcore) s s
      ([(Fld.PWR_BOW_VCORE_BOW, 1), (Fld.PWR_BOW_BOW, 1),
        (Fld.PWR_BOW_VCORE_CNT, min 255 (s.f Fld.PWR_BOW_VCORE_CNT + 1)),
        (Fld.HLTH_WORD_BOW, 1), (Fld.RACE_STAT_HOLD, 1)] ++ raised s 1)) ∧
    (s.power.warnArmed = false → exec (.dipWarning .vcore) s = .next s) ∧
    (s.f Fld.PWR_BOW_VIO_BOW = 1 → s.f Fld.PWR_BOW_VCORE_BOW = 1 → Effect (.dipClear .vio) s s
      ([(Fld.PWR_BOW_VIO_BOW, 0), (Fld.PWR_BOW_BOW_CLEAR, 1), (Fld.RACE_STAT_HOLD, 1)] ++ raised s 2)) ∧
    (s.f Fld.PWR_BOW_VIO_BOW = 1 → s.f Fld.PWR_BOW_VCORE_BOW = 0 → s.race.bufs = [] →
      s.f Fld.RACE_STAT_UP = 0 → Effect (.dipClear .vio) s { s with race := { s.race with owed := 0 } }
      ([(Fld.PWR_BOW_VIO_BOW, 0), (Fld.PWR_BOW_BOW_CLEAR, 1), (Fld.RACE_STAT_HOLD, 0)] ++ raised s 2)))

/-- R73 to R76: low-power entry waits for the Cistern, loses what R121 lists, and a wake source that came on the way
acts at its end; the wake sources in the low-power mode. Sources with no tick between them are on one slow-clock edge (the
model's choice, log entry 67). R27, R72, R77, R78: a wake whose voltage lies within 10 mV of 0.80 V boots warm; one that
is not confirmed is tried eight times. -/
def Obligations.LowPowerAndWake : Prop :=
 ((∀ s : State, s.live = true → s.whd.phase = .armed →
    (s.cis.running = none → s.cis.dataBusy = false → s.cis.remapping = none →
      exec .lowPowerClamp s = .next { s with whd := { s.whd with phase := .clamped, sameEdge := false } }) ∧
    (s.cis.running ≠ none ∨ s.cis.dataBusy = true → exec .lowPowerClamp s = .next s)) ∧
  (∀ s : State, s.inReset = false → s.whd.phase = .clamped →
    ∃ t, exec .lowPowerEntered s = .next t ∧ t.md = s.whd.target.toNat ∧ (∀ e, t.eng e = {}) ∧
      t.f Fld.PROT_SEAL_SEALED = 0 ∧ t.shadow = [] ∧ (s.cis.dataBusy = false → t.cis.bytes = s.cis.bytes) ∧
      t.cis.dir0 = s.cis.dir0 ∧ t.reg Reg.WHD_WAKECFG = s.reg Reg.WHD_WAKECFG ∧
      t.whd.phase = (if s.whd.wakeSrc = none then .asleep else .waking) ∧
      (∀ src, s.whd.wakeSrc = some src → t.f Fld.WHD_WAKESTAT_SRC = src.toNat) ∧
      (∀ a, t.mem.byte a = if s.whd.target = 8 ∧ 0x10200000 ≤ a ∧ a < 0x10240000 then s.mem.byte a else 0)) ∧
  (∀ (ch : Fin 2) (s : State), s.inReset = false → s.whd.phase = .asleep →
    let k : Nat := if ch = 0 then s.f Fld.WHD_WAKECFG_K1 else s.f Fld.WHD_WAKECFG_K2
    let wakes (c : Instr) (src : Nat) : Prop := ∃ t, exec c s = .next t ∧ t.whd.phase = .waking ∧
      t.whd.tries = 1 ∧ t.f Fld.WHD_WAKESTAT_SRC = src ∧ t.f Fld.WHD_WAKESTAT_VTRIES = 1 ∧
      t.f Fld.WHD_WAKESTAT_VFAIL = 0 ∧ t.f Fld.WHD_WAKESTAT_WCNT = min 65535 (s.f Fld.WHD_WAKESTAT_WCNT + 1) ∧
      t.mem = s.mem ∧ t.whd.xtalOn = true ∧ ∀ x, s.whd.pmbExp = some x → t.sent = s.sent ++
        [.pmbus s.whd.pmbAddr.toNat 0x21 (mantissa 20 x.toNat), .pmbus s.whd.pmbAddr.toNat 0x01 0x80]
    (if k = 1 then wakes (.knaorActivityWake ch) (1 + 2 * ch.val) else exec (.knaorActivityWake ch) s = .next s) ∧
    (if k = 2 then wakes (.knaorWakePattern ch) (2 + 2 * ch.val) else exec (.knaorWakePattern ch) s = .next s) ∧
    (if s.f Fld.WHD_WAKECFG_ENA = 1 then wakes .enaWake 5 else exec .enaWake s = .next s) ∧
    (if s.f Fld.WHD_WAKECFG_SAFE = 1 then wakes .safeWireWake 6 else exec .safeWireWake s = .next s) ∧
    (if s.f Fld.WHD_WAKECFG_TIMER = 1 ∧ s.f Fld.WHD_WTIMER_PERIOD ≠ 0 then wakes .wakeTimer 7
      else exec .wakeTimer s = .next s)) ∧
  (∀ s : State, s.inReset = false → s.whd.phase = .armed → s.f Fld.WHD_WAKECFG_ENA = 1 →
    (s.whd.wakeSrc = none → exec .enaWake s = .next { s with whd := { s.whd with wakeSrc := some 5, sameEdge := true } }) ∧
    (∀ src, s.whd.wakeSrc = some src → exec .enaWake s = .next (if s.whd.sameEdge = true ∧ 5 < src.toNat
      then { s with whd := { s.whd with wakeSrc := some 5 } } else s)))) ∧
 (∀ s : State, s.inReset = false →
    let near (v : BitVec 16) : Prop := ∃ x, s.whd.pmbExp = some x ∧ voutNear v.toNat 20 x.toNat = true
    (∀ (v : BitVec 16) (env : BootEnv), s.whd.phase = .waking → near v → env.voutMode = none →
      ∃ t, exec (.wakePowerConfirmed ⟨v, env⟩) s = .next t ∧
      t.whd.phase = .awake ∧ t.md = mBOOT ∧ t.f Fld.SYS_MODE_PREV = s.whd.target.toNat ∧
      t.f Fld.SYS_MODE_CAUSE = (if s.whd.target = 8 then 6 else 7) ∧ t.f Fld.CIS_BOOTSTAT_WARM = 1 ∧
      t.f Fld.CIS_BOOTSTAT_HALT = 1 ∧ t.f Fld.SYS_TBSEL_ACTIVE = 0) ∧
    (∀ (v : BitVec 16) (env : BootEnv), s.whd.pmbExp ≠ none → ¬ near v →
      exec (.wakePowerConfirmed ⟨v, env⟩) s = .next s) ∧
    (∀ (v : BitVec 16) (env : BootEnv), s.whd.phase = .waking → near v → (∃ t, exec (.wakePowerConfirmed ⟨v, env⟩) s = .next t ∧
      t.whd.phase = .awake ∧ t.f Fld.CIS_BOOTSTAT_WARM = 1 ∧
      ∀ a, t.mem.byte a = s.mem.byte a ∨ ¬ (s.whd.target = 8 ∧ 0x10200000 ≤ a ∧ a < 0x10240000) ∨ t.rst.phase0 = true)) ∧
    (s.whd.phase = .waking → s.whd.tries < 8 → exec .wakePowerTimeout s =
      .next { s with whd := { s.whd with phase := .retryWait, sameEdge := false },
                     sent := s.sent ++ [.pmbus s.whd.pmbAddr.toNat 0x01 0x40] }) ∧
    (s.whd.phase = .waking → 8 ≤ s.whd.tries → ∃ t, exec .wakePowerTimeout s = .next t ∧
      t.whd = { s.whd with phase := .asleep, sameEdge := false, xtalOn := false, xtalOk := false } ∧
      t.f Fld.WHD_WAKESTAT_VFAIL = 1 ∧ t.mem = s.mem ∧
      t.sent = s.sent ++ [.pmbus s.whd.pmbAddr.toNat 0x01 0x40]) ∧
    (s.whd.phase = .retryWait → s.whd.tries < 8 → ∃ t, exec .wakeRetry s = .next t ∧
      t.whd = { s.whd with phase := .waking, tries := s.whd.tries + 1 } ∧
      t.f Fld.WHD_WAKESTAT_VTRIES = s.whd.tries + 1 ∧ t.mem = s.mem))

/-! ### Gate drive and spillway (chapter 11) -/

/-- R246, R253, R255 to R259, R262: a drive fault of a bridge sets or changes its latch, and the faults located choose
its state; an unknown location is sought in a locate window. A fast comparator trip that a VDS trip accompanies is
left to that trip, until which every leg stays inert (the model's choice, log entry 16). -/
def Obligations.DriveFaults : Prop :=
  ∀ (b : Fin 5) (k : Fin 3) (s : State), s.live = true → s.drv.ena = true → s.drv.vdrvOk = true →
    s.legUsed b k = true →
    let la := (s.bridge b).latch
    let leg := s.leg b k
    let bit : BitVec 3 := BitVec.ofNat 3 (2 ^ k.val)
    let motor := s.motor b
    let found (h l : BitVec 3) (old : Latch) : Latch := { old with
      locH := old.locH ||| h, locL := old.locL ||| l,
      unsh := old.unsh || (old.locH ||| h != 0 && old.locL ||| l != 0) }
    let after (cause : Nat) (h l : BitVec 3) : Latch :=
      if la.held = false then found h l { held := true, cause := cause, pcfg := s.reg (Reg.BRG_PCFG b) }
      else if la.resign = true then found h l { la with resign := false, cause := cause } else found h l la
    let shown (t : State) (st : BState) : Prop := t = { s with regs := t.regs, brg := t.brg } ∧
      (∀ b', b' ≠ b → t.bridge b' = s.bridge b') ∧ t.bstate b = st ∧
      t.f (Fld.BRG_PSTAT_STATE b) = (match st with
        | .inert => 0 | .driving => 1 | .lowerShort => 2 | .upperShort => 3 | .locating => 4 | .regenClamp => 5) ∧
      t.f (Fld.BRG_PSTAT_LATCHED b) = 1 ∧
      (st = .inert ∨ st = .locating → ∀ j, (t.leg b j).cmd = .inert ∧ (t.leg b j).gate = .inert) ∧
      (st = .lowerShort → ∀ j, (t.leg b j).cmd = if s.legUsed b j = true then .low else .inert) ∧
      (st = .upperShort → ∀ j, (t.leg b j).cmd = if s.legUsed b j = true then .high else .inert) ∧
      (∀ j, (t.leg b j).gate = (s.leg b j).gate ∨ (t.leg b j).gate = .inert)
    let chosen (x : Latch) : BState :=
      if x.unsh || x.ulost || !motor then .inert else if x.locH = 0 then .lowerShort else .upperShort
    let faults (c : Instr) (cause : Nat) (h l : BitVec 3) : Prop := ∃ t, exec c s = .next t ∧
      (t.bridge b).latch = after cause h l ∧ t.isPending (64 + 4 * b.val) = true ∧
      t.f Fld.DRV_CNT_LATCNT = (if la.held = true then s.f Fld.DRV_CNT_LATCNT
        else min 255 (s.f Fld.DRV_CNT_LATCNT + 1)) ∧
      (s.f (Fld.BRG_CATCHST_BUSY b) = 1 → t.f (Fld.BRG_CATCHST_BUSY b) = 0 ∧ t.f (Fld.BRG_CATCHST_RESULT b) = 7) ∧
      shown t (chosen (after cause h l))
    ((s.bridge b).locating = false → (s.bridge b).vdsDue = true →
      (la.held = true → la.unsh = false → la.locH = 0 ∨ la.locL = 0) →
      faults (.vdsTrip b k true) 2 0 bit ∧ faults (.vdsTrip b k false) 3 bit 0) ∧
    ((s.bridge b).locating = false → (s.bridge b).vdsDue = false →
      (la.held = true → la.unsh = false → la.locH = 0 ∨ la.locL = 0) →
      (leg.gate ≠ .high → faults (.gateStuck b k true) 5 bit 0) ∧
      (leg.gate ≠ .low → faults (.gateStuck b k false) 5 0 bit) ∧
      (leg.gate = .high → faults (.vdsTrip b k true) 2 0 bit) ∧
      (leg.gate = .low → faults (.vdsTrip b k false) 3 bit 0) ∧
      (motor = false → faults (.fastComparatorTrip b false) 4 0 0) ∧
      (motor = true → la.unsh = false → la.ulost = false → ∃ t, exec (.fastComparatorTrip b false) s = .next t ∧
        (t.bridge b).locating = true ∧ (t.bridge b).latch = after 4 0 0 ∧ shown t .locating) ∧
      ∃ t, exec (.fastComparatorTrip b true) s = .next t ∧ t = { s with regs := t.regs, brg := t.brg } ∧
        (t.bridge b).latch = la ∧ (∀ j, (t.leg b j).gate = .inert) ∧
        ((t.bridge b).vdsDue = true ↔ la.held = false ∨ la.resign = true)) ∧
    (∀ h l u : BitVec 3, (s.bridge b).locating = true → (s.bridge b).vdsDue = false → la.held = true → la.resign = false →
      (la.unsh = false → la.locH = 0 ∨ la.locL = 0) →
      let m := s.legMask b
      let x := { found (h &&& m) (l &&& m &&& ~~~u) la with untest := la.untest ||| (u &&& m) }
      ∃ t, exec (.locateWindowEnd b h l u) s = .next t ∧ (t.bridge b).locating = false ∧
        (t.bridge b).latch = x ∧ shown t (chosen x)) ∧
    (s.bstate b = .upperShort → la.locH.getLsbD k.val = false → b ≠ 0 ∨ s.f Fld.DRV_STAT_CP_FAIL = 1 →
      ∃ t, exec (.upperShortLost b k) s = .next t ∧ (t.bridge b).latch = { la with ulost := true } ∧
        t.bstate b = .inert ∧ (∀ j, (t.leg b j).cmd = .inert ∧ (t.leg b j).gate = .inert) ∧
        t = { s with regs := t.regs, brg := t.brg }) ∧
    (s.bstate b = .upperShort → la.locH.getLsbD k.val = true → exec (.upperShortLost b k) s = .next s)

/-- R244, R245, R250, R252, R267: a commanded gate turns on at its dead-time end; a bootstrap undervoltage brings a
refresh pulse and is counted; the charge pump's failure; the software demand. -/
def Obligations.GatesAndDemands : Prop :=
  (∀ (b : Fin 5) (k : Fin 3) (s : State),
    let leg := s.leg b k
    let code (g : Gate) : Nat := match g with | .inert => 0 | .high => 1 | .low => 2
    (leg.gate = .inert → leg.cmd ≠ .inert → Effect (.deadTimeEnd b k) s
      (s.updLeg b k (fun x => { x with gate := leg.cmd })) [(Fld.BRG_LEG_STAT_GATE b k, code leg.cmd)]) ∧
    (leg.gate ≠ .inert ∨ leg.cmd = .inert → exec (.deadTimeEnd b k) s = .next s) ∧
    (s.live = true → s.legUsed b k = true → leg.gate = .high → s.bstate b = .driving → (s.bridge b).locating = false →
      let n := s.f (Fld.BRG_LEG_STAT_UVRUN b k)
      ∃ t, exec (.bstUv b k) s = .next t ∧ t = { s with regs := t.regs, brg := t.brg } ∧
        t.f (Fld.BRG_PSTAT_BSTUV b) = s.f (Fld.BRG_PSTAT_BSTUV b) ||| 2 ^ k.val ∧
        t.f Fld.DRV_CNT_UVCNT = min 255 (s.f Fld.DRV_CNT_UVCNT + 1) ∧
        t.isPending (64 + 4 * b.val + 1) = true ∧ (t.leg b k).gate = .inert ∧
        (leg.uvSeen = true ∨ n < 2 → (t.leg b k).refresh = true ∧ (t.leg b k).cmd = .low ∧
          (t.bridge b).latch = (s.bridge b).latch ∧ t.bstate b = .driving) ∧
        (leg.uvSeen = true → t.f (Fld.BRG_LEG_STAT_UVRUN b k) = n) ∧
        (leg.uvSeen = false → t.f (Fld.BRG_LEG_STAT_UVRUN b k) = min 3 (n + 1) ∧ (t.leg b k).uvSeen = true) ∧
        (leg.uvSeen = false → 2 ≤ n → (t.bridge b).latch.held = true ∧ (t.bridge b).latch.resign = false ∧
          ((s.bridge b).latch.held = false → (t.bridge b).latch.cause = 6 ∧
            t.bstate b = if s.motor b = true then .lowerShort else .inert))) ∧
    (leg.refresh = true → s.bstate b = .driving → s.legUsed b k = true → ∃ t, exec (.refreshPulseEnd b k) s = .next t ∧
      t = { s with regs := t.regs, brg := t.brg } ∧ (t.leg b k).refresh = false ∧
      (t.leg b k).cmd = s.legPattern b k ∧ (t.bridge b).latch = (s.bridge b).latch) ∧
    (leg.refresh = false → exec (.refreshPulseEnd b k) s = .next s)) ∧
  (∀ s : State, s.rst.porHold = false →
    (s.legMask 0 ≠ 0 → s.drv.vdrvOk = true → Effect .chargePumpFail s s [(Fld.DRV_STAT_CP_FAIL, 1)]) ∧
    (s.legMask 0 = 0 ∨ s.drv.vdrvOk = false → exec .chargePumpFail s = .next s)) ∧
  (∀ (e : Engine) (b : Fin 5) (s : State), Passes s e (Reg.BRG_PCMD b) →
    let la := (s.bridge b).latch
    let demands (c : Instr) (d : Nat) (st : BState) : Prop := ∃ t, exec c s = .next t ∧
      t = { s with regs := t.regs, brg := t.brg } ∧ t.f (Fld.BRG_PCMD_DEMAND b) = d ∧
      (∀ b', (t.bridge b').latch = (s.bridge b').latch) ∧
      (s.drv.ena = true → s.drv.vdrvOk = true → la.held = false → (s.bridge b).locating = false →
        (s.bridge b).vdsDue = false → s.ov2Acts b = false → t.bstate b = st ∧ (st = .inert → ∀ j, (t.leg b j).cmd = .inert) ∧
        (st = .lowerShort → ∀ j, (t.leg b j).cmd = if s.legUsed b j = true then .low else .inert)) ∧
      (la.held = true → t.bstate b = s.bstate b)
    demands (.pcmdLowerShort e b) 1 (if s.motor b = true then .lowerShort else .inert) ∧
    demands (.pcmdAllOff e b) 2 .inert ∧
    demands (.pcmdNone e b) 0 (if s.f (Fld.BRG_CTL_RUN b) = 1 then .driving else .inert))

/-- R29, R264, R265, R268: ENA low makes every leg inert and ends a RUN mode; its rise after 10 µs clears what holds the
bridges, and a VDRV undervoltage or VMOT at the OV3 level latches them again. R261, R269 to R273: the motor supply's
levels, the OV2 reaction, the spillway's faults and its test. -/
def Obligations.EnaAndMotorSupply : Prop :=
 (∀ s : State, s.live = true →
    let off (t : State) : Prop := ∀ (b : Fin 5) (k : Fin 3), (t.leg b k).cmd = .inert ∧ (t.leg b k).gate = .inert ∧
      t.bstate b = .inert ∧ t.f (Fld.BRG_PSTAT_STATE b) = 0
    let latched (t : State) (cause : Nat) : Prop := ∀ b : Fin 5,
      if s.legMask b = 0 then (t.bridge b).latch = (s.bridge b).latch
      else (t.bridge b).latch.held = true ∧ (t.bridge b).latch.resign = false ∧
        ((s.bridge b).latch.held = false ∨ (s.bridge b).latch.resign = true → (t.bridge b).latch.cause = cause) ∧
        (t.bridge b).latch.locH = (if (s.bridge b).latch.held then (s.bridge b).latch.locH else 0)
    (s.drv.ena = true → ∃ t, exec .enaFall s = .next t ∧ t.drv = { s.drv with ena := false } ∧ off t ∧
      (∀ b, (t.bridge b).latch = (s.bridge b).latch) ∧ t.isPending 89 = true ∧
      t.f Fld.DRV_STAT_SPW_ON = s.f Fld.DRV_STAT_SPW_ON ∧
      (s.inRun = false → t.md = s.md) ∧
      (s.inRun = true → t.md = mREADY ∧ t.f Fld.SYS_MODE_PREV = s.md ∧ t.f Fld.SYS_MODE_CAUSE = 0x22 ∧
        t.f Fld.SYS_MODE_ROLE = 0 ∧ ∀ b, t.f (Fld.BRG_CTL_RUN b) = 0)) ∧
    (s.drv.ena = false → exec .enaFall s = .next s) ∧
    (∀ (ns : Nat) (ov3 : Bool), s.drv.ena = false →
      let keeps (t : State) : Prop := ∀ b, (t.bridge b).latch = (s.bridge b).latch ∧
        t.f (Fld.BRG_CTL_RUN b) = s.f (Fld.BRG_CTL_RUN b) ∧ t.f Fld.DRV_STAT_SPILL_FAULT = s.f Fld.DRV_STAT_SPILL_FAULT
      let clears (t : State) : Prop := t.f Fld.DRV_STAT_SPILL_FAULT = 0 ∧ t.f Fld.DRV_STAT_CP_FAIL = 0 ∧
        (∀ (b : Fin 5) (k : Fin 3), t.f (Fld.BRG_CTL_RUN b) = 0 ∧ t.f (Fld.BRG_LEG_STAT_UVRUN b k) = 0) ∧
        ∀ b : Fin 5, if (s.drv.vdrvOk = true ∧ ov3 = false) ∨ s.f (Fld.BRG_PCFG_LEGMASK b) = 0
          then (t.bridge b).latch = {}
          else (t.bridge b).latch =
            { held := true, cause := if s.drv.vdrvOk = true then 8 else 7, pcfg := s.reg (Reg.BRG_PCFG b) }
      ∃ t, exec (.enaRise ns ov3) s = .next t ∧ t.drv = { s.drv with ena := true } ∧ t.isPending 89 = true ∧
        t.mem = s.mem ∧ t.md = s.md ∧ (ns < 8000 → keeps t) ∧ (10000 ≤ ns → clears t) ∧ (keeps t ∨ clears t)) ∧
    (s.drv.vdrvOk = true → s.inRun = false → ∃ t, exec .vdrvUndervoltage s = .next t ∧
      t.drv = { s.drv with vdrvOk := false } ∧ t.f Fld.DRV_STAT_SPW_ON = 0 ∧ t.isPending 88 = true ∧ off t ∧
      latched t 7 ∧ t.md = s.md ∧ t.mem = s.mem) ∧
    (s.drv.vdrvOk = true → s.md = mTRIPLEX ∨ s.md = mDUPLEX → s.mode.window = none →
      ∃ t, exec .vdrvUndervoltage s = .next t ∧ t.drv.vdrvOk = false ∧ off t ∧ latched t 7 ∧
        t.mode.window = some .resign ∧ t.f Fld.SYS_MODE_ROLE = 0) ∧
    (∃ t, exec .vdrvRecover s = .next t ∧ t.drv = { s.drv with vdrvOk := true } ∧
      t.f (Fld.CAT_CNT_NOW 88) = 0 ∧ (∀ b, (t.bridge b).latch = (s.bridge b).latch) ∧ t.mem = s.mem ∧
      ∀ b : Fin 5, s.drv.ena = true → (s.bridge b).latch.held = true → (s.bridge b).latch.resign = false →
        (s.bridge b).latch.locH = 0 → (s.bridge b).latch.unsh = false → (s.bridge b).latch.ulost = false →
        (s.bridge b).locating = false → (s.bridge b).vdsDue = false →
        t.bstate b = if s.motor b = true then .lowerShort else .inert)) ∧
 (∀ s : State, s.live = true → s.rst.porHold = false →
    let may := s.f Fld.DRV_SPWCFG_EN = 1 ∧ s.drv.vdrvOk = true ∧ s.f Fld.DRV_STAT_SPILL_FAULT = 0 ∧
      s.f Fld.DRV_STAT_SPW_ON = 0
    let free (b : Fin 5) : Prop := s.drv.ena = true ∧ s.drv.vdrvOk = true ∧ (s.bridge b).latch.held = false ∧
      (s.bridge b).locating = false ∧ (s.bridge b).vdsDue = false
    let reacts (t : State) : Prop := t.f Fld.DRV_STAT_OV2 = 1 ∧ t.mem = s.mem ∧
      (s.f Fld.DRV_STAT_OV2 = 0 → t.f Fld.DRV_CNT_OV2CNT = min 255 (s.f Fld.DRV_CNT_OV2CNT + 1) ∧
        t.isPending 85 = true) ∧
      ∀ b : Fin 5, free b → t.bstate b = (if s.motor b = true then .lowerShort else .regenClamp) ∧
        ∀ j : Fin 3, (t.leg b j).cmd = if s.legUsed b j = true ∧ (s.motor b = true ∨ s.legPattern b j = .low)
          then .low else .inert
    (s.f Fld.DRV_STAT_OV1 = 0 → ¬ may → Effect .spillwayOn s s ((Fld.DRV_STAT_OV1, 1) :: raised s 84)) ∧
    (s.f Fld.DRV_STAT_OV1 = 0 → may → Effect .spillwayOn s s ([(Fld.DRV_STAT_OV1, 1), (Fld.DRV_STAT_SPW_ON, 1),
      (Fld.DRV_CNT_OV1CNT, min 255 (s.f Fld.DRV_CNT_OV1CNT + 1))] ++ raised s 84)) ∧
    Effect .spillwayOff s s ((Fld.DRV_STAT_OV1, 0) ::
      if s.f Fld.DRV_STAT_TBUSY = 1 then [] else [(Fld.DRV_STAT_SPW_ON, 0)]) ∧
    (∃ t, exec .ov2Reaction s = .next t ∧ t.drv = { s.drv with ov2 := true } ∧ reacts t) ∧
    (s.f Fld.DRV_STAT_OV2 = 1 → s.f Fld.DRV_STAT_SPILL_FAULT = 0 → ∃ t, exec .ov2Release s = .next t ∧
      t.drv = { s.drv with ov2 := false } ∧ t.f Fld.DRV_STAT_OV2 = 0 ∧ t.f (Fld.CAT_CNT_NOW 85) = 0 ∧
      ∀ b : Fin 5, free b → s.f (Fld.BRG_PCMD_DEMAND b) = 0 →
        ((s.bridge b).counting = true → t.bstate b = if s.motor b = true then .lowerShort else .regenClamp) ∧
        ((s.bridge b).counting = false → t.bstate b = if s.f (Fld.BRG_CTL_RUN b) = 1 then .driving else .inert)) ∧
    (s.f Fld.DRV_STAT_SPILL_FAULT = 1 →
      exec .ov2Release s = .next { s with drv := { s.drv with ov2 := false } }) ∧
    (s.inRun = false → ∃ t, exec .ov3 s = .next t ∧ t.f Fld.DRV_STAT_OV3 = 1 ∧ t.isPending 86 = true ∧
      t.mem = s.mem ∧ t.md = s.md ∧ ∀ b : Fin 5, if s.legMask b = 0 then (t.bridge b).latch = (s.bridge b).latch else
        (t.bridge b).latch.held = true ∧ (t.bridge b).latch.resign = false ∧
        ((s.bridge b).latch.held = false ∨ (s.bridge b).latch.resign = true → (t.bridge b).latch.cause = 8)) ∧
    (∀ c : SpillCheck, s.f Fld.DRV_STAT_SPILL_FAULT = 0 → s.f Fld.DRV_STAT_SPW_ON = 1 →
      s.f Fld.DRV_STAT_OV1 = 1 → s.inRun = false → ∃ t, exec (.spillFault c) s = .next t ∧
        t.f Fld.DRV_STAT_SPILL_FAULT = 1 ∧ t.f Fld.DRV_STAT_SPW_ON = 0 ∧ t.isPending 87 = true ∧ t.faultLow = true ∧
        t.md = s.md ∧ reacts t) ∧
    (∀ pass : Bool, s.f Fld.DRV_STAT_TBUSY = 1 → Effect (.spillwayTestEnd pass) s s
      ([(Fld.DRV_STAT_TBUSY, 0), (Fld.DRV_STAT_TPASS, Word.ofBool pass), (Fld.DRV_STAT_TFAIL, Word.ofBool (!pass))] ++
        if s.f Fld.DRV_STAT_OV1 = 1 then [] else [(Fld.DRV_STAT_SPW_ON, 0)])))

/-! ### Bridges (chapter 12) -/

/-- R276 to R278: which writes of RUN a bridge takes; the first period waits for its boundary, with SYNC for the turn
mark; with RUN clear the legs follow no PWM. -/
def Obligations.BridgeRun : Prop :=
  ∀ (e : Engine) (b : Fin 5) (s : State), Passes s e (Reg.BRG_CTL b) → s.f Fld.PLB_STAT_BUSY = 0 →
    let ty := s.f (Fld.BRG_CFG_TYPE b)
    let lm := s.f (Fld.BRG_PCFG_LEGMASK b)
    let motor := s.f (Fld.BRG_PCFG_SCLASS b) = 1
    let single0 := ∃ k : Nat, k < 16 ∧ s.f (Fld.ADC_SET_CFG_KIND k) = 2 ∧ s.f (Fld.ADC_SET_CFG_BRG k) = 0
    let consistent : Prop := ((ty = 1 ∨ ty = 2) ∧ lm = 7 ∧ motor ∨ (ty = 3 ∨ ty = 4) ∧ b ≠ 0 ∧ lm = 3 ∧ ¬ motor) ∧
      ¬ (b = 0 ∧ single0)
    let may : Prop := (s.inRun = true ∨ s.md = mSAFEHOLD ∨ s.md = mSERVICE ∧ s.stopDem = false) ∧
      s.f Fld.SYS_TBSEL_ACTIVE = 2 ∧ consistent ∧ s.f (Fld.BRG_PWMSTAT_CFGERR b) = 0 ∧
      s.f (Fld.BRG_CATCHST_BUSY b) = 0
    let per := max 10240 (s.f (Fld.BRG_PER_PER b))
    let whole : Prop := s.f Fld.KNR_CFG0_TL * 1024 % per = 0
    let sync := s.f (Fld.BRG_CFG_SYNC b) = 1
    (s.f (Fld.BRG_CTL_RUN b) = 0 → (s.bridge b).perArmed = none →
      (¬ may → exec (.bridgeRunStart e b) s = .next s) ∧
      (may → sync → ¬ whole → Effect (.bridgeRunStart e b) s s [(Fld.BRG_PWMSTAT_CFGERR b, 1)]) ∧
      (may → ¬ sync ∨ whole → ∃ t, exec (.bridgeRunStart e b) s = .next t ∧
        t = { s with regs := t.regs, brg := t.brg } ∧ (∀ b', b' ≠ b → t.bridge b' = s.bridge b') ∧
        t.f (Fld.BRG_CTL_RUN b) = 1 ∧ (t.bridge b).counting = false ∧
        ((t.bridge b).startMark = true ↔ sync) ∧ (t.bridge b).latch = (s.bridge b).latch ∧
        (s.drv.ena = true → s.drv.vdrvOk = true → (s.bridge b).latch.held = false → (s.bridge b).locating = false →
          (s.bridge b).vdsDue = false → s.ov2Acts b = false → s.f (Fld.BRG_PCMD_DEMAND b) = 0 → t.bstate b = .driving ∧
            (∀ j, (t.leg b j).refresh = false → (t.leg b j).cmd = .inert)))) ∧
    ∃ t, exec (.bridgeRunStop e b) s = .next t ∧ t = { s with regs := t.regs, brg := t.brg } ∧
      t.f (Fld.BRG_CTL_RUN b) = 0 ∧ (t.bridge b).counting = false ∧ (t.bridge b).latch = (s.bridge b).latch ∧
      (∀ b', b' ≠ b → t.bridge b' = s.bridge b') ∧
      ((s.bridge b).latch.held = false → (s.bridge b).locating = false → s.f Fld.DRV_STAT_OV2 = 0 →
        s.f Fld.DRV_STAT_SPILL_FAULT = 0 → s.f (Fld.BRG_PCMD_DEMAND b) = 0 →
        t.bstate b = .inert ∧ ∀ j, (t.leg b j).cmd = .inert)

/-- R251, R278 to R282: the edges of a period from its duties, the edges made in order, each as soon as the interval that it
ends has lasted its least length, and a duty written in a period; the position at which it arrives is free (the model's
choice, log entry 18). -/
def Obligations.PeriodsAndDuties : Prop :=
  ∀ (b : Fin 5) (k : Fin 3) (s : State), s.live = true →
    let per := max 10240 (s.f (Fld.BRG_PER_PER b))
    let minp := max 40 (s.f (Fld.BRG_TIMING_MINP b))
    let lmin := max minp ((1024 * min 200 (max 30 (s.f (Fld.BRG_PCFG_TREF b))) + 99) / 100)
    let limited := b ≠ 0 ∨ s.f Fld.DRV_STAT_CP_FAIL = 1
    let d (w : Word) : Nat := if w.toInt ≤ 0 then 0 else if w = 0x7FFFFFFF then 2 ^ 31 else w.toNat
    let nearest (w : Word) (n : Nat) : Prop :=
      2 * (d w * per) ≤ (2 * n + 1) * 2 ^ 31 ∧ 2 * n * 2 ^ 31 ≤ 2 * (d w * per) + 2 ^ 31 ∧
        (2 * (d w * per) = (2 * n + 1) * 2 ^ 31 ∨ 2 * n * 2 ^ 31 = 2 * (d w * per) + 2 ^ 31 → n % 2 = 0)
    let bound (n : Nat) : Nat :=
      let m := if limited then min n (per - lmin) else if per - n < minp then per else n
      if m < minp then 0 else m
    let x := s.leg b k
    let least : Nat := if x.pwm = .low ∧ limited then lmin else minp
    -- the leg `y` has changed to `side` at position `p`, or waits until its present interval has lasted long enough
    let turns (y : Leg) (side : Gate) (p : Int) : Prop :=
      (x.pwm = .inert ∨ x.pwm = side ∨ x.since + least ≤ p → y.pwm = side ∧ y.wait = none) ∧
      (x.pwm ≠ .inert → x.pwm ≠ side → p < x.since + least → y.pwm = x.pwm ∧ y.wait ≠ none)
    let off (m : Nat) : Nat := if s.f (Fld.BRG_CFG_ALIGN b) = 1 then m else m / 2
    let on (m : Nat) : Nat := if s.f (Fld.BRG_CFG_ALIGN b) = 1 then per else per - (m - m / 2)
    (s.f (Fld.BRG_CTL_RUN b) = 1 → (s.bridge b).startMark = false → (s.bridge b).perArmed = none →
      s.singleShunt b = false → ∃ t, exec (.pwmPeriodStart b) s = .next t ∧ t.mem = s.mem ∧ t.engs = s.engs ∧
        (t.bridge b).counting = true ∧ (t.bridge b).holdPeriod = false ∧ EventOf (0x20 + b.val) s t ∧
        t.f (Fld.BRG_LEG_STAT_UVRUN b k) =
          (if (s.leg b k).uvSeen = true then s.f (Fld.BRG_LEG_STAT_UVRUN b k) else 0) ∧
        ∃ n, nearest (s.reg (Reg.BRG_DUTY b k)) n ∧ (t.leg b k).eOff = off (bound n) ∧
          (t.leg b k).eOn = on (bound n) ∧ (t.leg b k).onMade = false ∧
          turns (t.leg b k) (if bound n = 0 then .low else .high) per) ∧
    ((s.bridge b).counting = true → x.eOff < x.eOn →
      let made (p : Int) (offMade onMade : Bool) (side : Gate) : Prop := ∃ t, exec (.pwmEdge b k) s = .next t ∧
        t = { s with regs := t.regs, brg := t.brg } ∧ (t.leg b k).offMade = offMade ∧ (t.leg b k).onMade = onMade ∧
        turns (t.leg b k) side p ∧
        (∀ j, j ≠ k → (t.leg b j).pwm = (s.leg b j).pwm ∧ (t.leg b j).offMade = (s.leg b j).offMade)
      (x.wait = none → x.offMade = false → x.onMade = false → x.eOff < per → made x.eOff true false .low) ∧
      (x.wait = none → x.offMade = true → x.onMade = false → x.eOn < per → made x.eOn true true .high) ∧
      (∀ q, x.wait = some q → q < per → x.offMade = true → x.onMade = true → made q true true .high) ∧
      (x.wait = none → x.offMade = true → x.onMade = true → exec (.pwmEdge b k) s = .next s)) ∧
    (∀ (e : Engine) (v : Word), Passes s e (Reg.BRG_DUTY b k) → ∃ n, nearest v n ∧
      let cut := limited ∧ per - lmin < n
      let counts := [(Fld.BRG_PSTAT_CLAMPCNT b, min 255 (s.f (Fld.BRG_PSTAT_CLAMPCNT b) + 1))] ++
        raised s (64 + 4 * b.val + 3)
      ((s.bridge b).counting = false → (cut →
          Effect (.dutyWrite e b k v) s (s.updLeg b k (fun x => { x with tOn := bound n }))
            ((⟨Reg.BRG_DUTY b k, 0, 32⟩, v.toNat) :: counts)) ∧
        (¬ cut → Effect (.dutyWrite e b k v) s (s.updLeg b k (fun x => { x with tOn := bound n }))
          [(⟨Reg.BRG_DUTY b k, 0, 32⟩, v.toNat)])) ∧
      ((s.bridge b).counting = true → s.singleShunt b = false → ∃ t, exec (.dutyWrite e b k v) s = .next t ∧
        t.reg (Reg.BRG_DUTY b k) = v ∧ (∀ j, j ≠ k → t.reg (Reg.BRG_DUTY b j) = s.reg (Reg.BRG_DUTY b j)) ∧
        t.mem = s.mem ∧ t.engs = s.engs ∧ (∀ b', b' ≠ b → t.bridge b' = s.bridge b') ∧
        (if (s.leg b k).offMade = true then (t.leg b k).offMade = true ∧ (t.leg b k).eOff = (s.leg b k).eOff
          else (t.leg b k).eOff = off (bound n) ∧
            ((t.leg b k).offMade = true → (t.f (Fld.BRG_PWMSTAT_LATE b)).testBit k.val = true)) ∧
        (if (s.leg b k).onMade = true then (t.leg b k).onMade = true ∧ (t.leg b k).eOn = (s.leg b k).eOn
          else (t.leg b k).eOn = on (bound n) ∧
            ((t.leg b k).onMade = true → (t.f (Fld.BRG_PWMSTAT_LATE b)).testBit k.val = true))))

/-- R285, R288, R290: a sampling set's instant triggers the inputs that name it; its results in their scale, and the
reconstruction of three phase currents from two samples of the return shunt. -/
def Obligations.Sampling : Prop :=
  ∀ (k : Fin 16) (s : State), s.live = true →
    let kind := s.f (Fld.ADC_SET_CFG_KIND k)
    let res (r : Nat) := Reg.ADC_SET_RES k r
    let enabled (r : Nat) := s.f (Fld.ADC_SET_RANK_EN k r) = 1
    let word (input : Nat) (c : BitVec 14) : Word :=
      if input ≤ 2 then clamp32 ((8192 - c.toNat : Int) * 2 ^ 18)
      else if input ≤ 6 then clamp32 ((c.toNat - 8192 : Int) * 2 ^ 18)
      else if input = 7 then 0 else BitVec.ofNat 32 (c.toNat * 2 ^ 17)
    (∀ (b : Fin 5) (second : Bool), kind = 1 → s.f (Fld.ADC_SET_CFG_BRG k) = b.val →
      (s.bridge b).counting = true →
      (s.f (Fld.ADC_SET_CFG_POS k) < max 10240 (s.f (Fld.BRG_PER_PER b)) →
        ∃ t, exec (.samplingInstant k second 0) s = .next t ∧ t = { s with adc := t.adc, slu := t.slu } ∧
          (t.set k).conv = true ∧ EventOf (1 + k.val) s t) ∧
      (max 10240 (s.f (Fld.BRG_PER_PER b)) ≤ s.f (Fld.ADC_SET_CFG_POS k) →
        exec (.samplingInstant k second 0) s = .next s)) ∧
    (∀ (second : Bool) (busy : BitVec 3), kind = 3 → (s.set k).due = true →
      (∀ r : Fin 3, busy.getLsbD r.val = true → enabled r.val) →
      let n := ((List.range 3).filter (fun r => busy.getLsbD r)).length
      ∃ t, exec (.samplingInstant k second busy) s = .next t ∧ (t.set k).conv = true ∧ (t.set k).due = false ∧
        EventOf (1 + k.val) s t ∧ t.mem = s.mem ∧
        t.f (Fld.ADC_SET_STAT_CONFL k) = min 255 (s.f (Fld.ADC_SET_STAT_CONFL k) + n) ∧
        (0 < n → t.isPending 90 = true)) ∧
    (∀ busy : BitVec 3, kind = 0 → exec (.samplingInstant k false busy) s = .next s) ∧
    (∀ c0 c1 c2 : BitVec 14, (s.set k).conv = true → kind ≠ 2 → ∃ t,
      exec (.conversionComplete k c0 c1 c2) s = .next t ∧ t.mem = s.mem ∧ t.engs = s.engs ∧
        (t.set k).conv = false ∧
        (enabled 0 → t.reg (res 0) = word (s.f (Fld.ADC_SET_RANK_INPUT k 0)) c0) ∧
        (enabled 1 → t.reg (res 1) = word (s.f (Fld.ADC_SET_RANK_INPUT k 1)) c1) ∧
        (enabled 2 → t.reg (res 2) = word (s.f (Fld.ADC_SET_RANK_INPUT k 2)) c2) ∧
        (∀ r, r < 3 → ¬ enabled r → t.reg (res r) = 0)) ∧
    (∀ c0 c1 c2 : BitVec 14, (s.set k).conv = true → kind = 2 →
      (∀ (x y : Fin 3) (gx gy : Bool), (s.set k).note1 = some (x, gx) → (s.set k).note2 = some (y, gy) → x ≠ y →
        let i (g : Bool) (c : BitVec 14) : Int :=
          (clamp32 (if g then (8192 - c.toNat : Int) * 2 ^ 18 else (c.toNat - 8192 : Int) * 2 ^ 18)).toInt
        ∃ t, exec (.conversionComplete k c0 c1 c2) s = .next t ∧ t.mem = s.mem ∧ t.engs = s.engs ∧
          t.f (Fld.ADC_SET_STAT_SSINV k) = s.f (Fld.ADC_SET_STAT_SSINV k) ∧
          ∀ r : Fin 3, t.reg (res r) = if r = x then BitVec.ofInt 32 (i gx c0)
            else if r = y then BitVec.ofInt 32 (i gy c1) else clamp32 (-(i gx c0 + i gy c1))) ∧
      ((s.set k).note1 = none ∨ (s.set k).note2 = none ∨
          (s.set k).note1.map (·.1) = (s.set k).note2.map (·.1) →
        ∃ t, exec (.conversionComplete k c0 c1 c2) s = .next t ∧ t.mem = s.mem ∧
          t.f (Fld.ADC_SET_STAT_SSINV k) = min 255 (s.f (Fld.ADC_SET_STAT_SSINV k) + 1) ∧
          ∀ r : Fin 3, t.reg (res r) = s.reg (res r)))

/-- R291 to R297: the catch unit's decision, Ke supervision, locked rotor and the pump speed curve's threshold. Ke words
are read as unsigned (the model's choice, log entry 19). -/
def Obligations.CatchAndSupervision : Prop :=
  ∀ (e : Engine) (b : Fin 5) (s : State), s.live = true →
    let ty := s.f (Fld.BRG_CFG_TYPE b)
    (Passes s e (Reg.BRG_CATCHCTL b) →
      let ok := (ty = 1 ∨ ty = 2) ∧ s.f (Fld.BRG_CTL_RUN b) = 0 ∧ (s.bridge b).latch.held = false ∧ s.drv.ena = true
      (¬ ok → exec (.catchStart e b) s = .next s) ∧
      (ok → b ≠ 0 ∨ 6 ≤ s.f (Fld.BRG_CFG_COG 0) → Effect (.catchStart e b) s s [(Fld.BRG_CATCHST_BUSY b, 1)]) ∧
      (ok → b = 0 → s.f (Fld.BRG_CFG_COG 0) < 6 → ∃ t, exec (.catchStart e b) s = .next t ∧
        t = { s with regs := t.regs } ∧ t.f (Fld.BRG_CATCHST_BUSY b) = 0 ∧ t.f (Fld.BRG_CATCHST_RESULT b) = 8 ∧
        t.reg (Reg.BRG_CATCHT b) = s.tnow)) ∧
    (∀ o : CatchObs, s.f (Fld.BRG_CATCHST_BUSY b) = 1 →
      let fast := s.f (Fld.BRG_CATCHCFG_NCATCH b) < o.speed.toNat
      let r := if o.beyond = false then 1 else if o.crossings < 4 then 6 else match o.seq with
        | .forward => if fast then 3 else 2
        | .backward => if s.f Fld.DRV_SPWCFG_EN = 1 then 4 else 5
        | .mixed => 6
      ∃ t, exec (.catchEnd b o) s = .next t ∧ t = { s with regs := t.regs, free := t.free } ∧
        t.f (Fld.BRG_CATCHST_BUSY b) = 0 ∧ t.f (Fld.BRG_CATCHST_RESULT b) = r ∧
        t.f (Fld.BRG_CATCHST_CROSS b) = min 255 o.crossings ∧ t.reg (Reg.BRG_CATCHT b) = s.tnow ∧
        (r = 2 ∨ r = 3 → t.f (Fld.BRG_CATCHST_DIR b) = 0 ∧ t.f (Fld.BRG_CATCHSPD_SPD b) = o.speed.toNat) ∧
        (r = 4 ∨ r = 5 → t.f (Fld.BRG_CATCHST_DIR b) = 1 ∧
          t.f (Fld.BRG_CATCHSPD_SPD b) = (65536 - o.speed.toNat) % 65536) ∧
        (r = 2 ∨ r = 4 → t.reg (Reg.BRG_CATCHANG b) = o.angle)) ∧
    (∀ v : Word, Passes s e (Reg.BRG_KEEST b) →
      let nom := (s.reg (Reg.BRG_KENOM b)).toNat
      let tol := s.f (Fld.BRG_KECFG_TOL b) + 1
      let inBand := 20 * (max v.toNat nom - min v.toNat nom) ≤ tol * nom
      let late := 10240000 * (min 99 (s.f (Fld.BRG_KECFG_TIME b)) + 1)
      let t0 := (s.bridge b).keFirst.getD s.age
      let est : Field × Nat := (⟨Reg.BRG_KEEST b, 0, 32⟩, v.toNat)
      (b = 0 → exec (.keUpdate e b v) s = .next s) ∧
      (b ≠ 0 → s.f (Fld.BRG_KECFG_EN b) = 0 → Effect (.keUpdate e b v) s s [est]) ∧
      (b ≠ 0 → s.f (Fld.BRG_KECFG_EN b) = 1 → inBand →
        Effect (.keUpdate e b v) s (s.updBrg b (fun x => { x with keFirst := none }))
          ([est, (Fld.BRG_SUPSTAT_KE_ABNORMAL b, 0), (Fld.BRG_SUPSTAT_KELOW b, 0),
            (Fld.BRG_SUPSTAT_KEHIGH b, 0)] ++ levelled (64 + 4 * b.val + 2) false)) ∧
      (b ≠ 0 → s.f (Fld.BRG_KECFG_EN b) = 1 → ¬ inBand → s.age - t0 < late →
        s.f (Fld.BRG_SUPSTAT_KE_ABNORMAL b) = 0 →
        Effect (.keUpdate e b v) s (s.updBrg b (fun x => { x with keFirst := some t0 })) [est]) ∧
      (b ≠ 0 → s.f (Fld.BRG_KECFG_EN b) = 1 → ¬ inBand → late ≤ s.age - t0 →
        Effect (.keUpdate e b v) s (s.updBrg b (fun x => { x with keFirst := some t0 }))
          ([est, (Fld.BRG_SUPSTAT_KE_ABNORMAL b, 1), (Fld.BRG_SUPSTAT_KELOW b, Word.ofBool (v.toNat < nom)),
            (Fld.BRG_SUPSTAT_KEHIGH b, Word.ofBool (nom < v.toNat))] ++ levelled (64 + 4 * b.val + 2) true))) ∧
    (s.f (Fld.BRG_LOCKCFG_EN 0) = 1 → (s.bridge 0).lockT0 ≠ none →
      Effect .lockedRotor s s ((Fld.BRG_SUPSTAT_LOCKED 0, 1) :: levelled 66 true)) ∧
    (s.f (Fld.BRG_LOCKCFG_EN 0) = 0 ∨ (s.bridge 0).lockT0 = none → exec .lockedRotor s = .next s) ∧
    (∀ v : Word, Passes s e (Reg.BRG_CRVIN b) →
      let x := v.toNat % 65536
      let px (j : Nat) := s.f (Fld.BRG_CRVPT_X b j)
      let py (j : Nat) := s.f (Fld.BRG_CRVPT_Y b j)
      let input : Field × Nat := (Fld.BRG_CRVIN_X b, x)
      let on := if s.f (Fld.BRG_CRVOUT_ON b) = 1 then
          ¬ x < s.f (Fld.BRG_CRVON_XON b) - s.f (Fld.BRG_CRVON_XHYS b) else s.f (Fld.BRG_CRVON_XON b) < x
      (b = 0 → exec (.curveInputWrite e b v) s = .next s) ∧
      (b ≠ 0 → s.f (Fld.BRG_CRVCFG_EN b) = 0 ∨ s.f (Fld.BRG_CRVCFG_SW b) = 0 →
        Effect (.curveInputWrite e b v) s s [input]) ∧
      (b ≠ 0 → s.f (Fld.BRG_CRVCFG_EN b) = 1 → s.f (Fld.BRG_CRVCFG_SW b) = 1 →
        (¬ on → Effect (.curveInputWrite e b v) s s
          [input, (Fld.BRG_CRVOUT_ON b, 0), (Fld.BRG_CRVOUT_Y b, 0)]) ∧
        (on → ∃ y, Effect (.curveInputWrite e b v) s s
            [input, (Fld.BRG_CRVOUT_ON b, 1), (Fld.BRG_CRVOUT_Y b, y)] ∧ y < 65536 ∧
          (x ≤ px 0 → y = py 0) ∧ (px 0 < x → px 15 ≤ x → y = py 15) ∧
          ((∀ j, j < 15 → px j < px (j + 1)) → ∀ j, j < 15 → px j ≤ x → x < px (j + 1) →
            ∀ g : Int, 2 * |(g - py j) * (px (j + 1) - px j : Int) - ((py (j + 1) : Int) - py j) * (x - px j)| <
                (px (j + 1) - px j : Int) → (y : Int) = g))))

/-! ### Cog inputs (chapter 13) -/

/-- R298, R304, R307, R308, R312, R315, R316: counts in QUAD, rejected samples, soft limits, reference events, and
compares, which fire at their write where their condition holds already. -/
def Obligations.CogCounts : Prop :=
  ∀ (c : Fin 6) (s : State), s.live = true →
    let x := s.cogOf c
    let pos := (s.reg (Reg.COG_POS c)).toInt
    let lo := (s.reg (Reg.COG_LIMLO c)).toInt
    let hi := (s.reg (Reg.COG_LIMHI c)).toInt
    let sane := s.f (Fld.COG_CPR_CPR c) ≠ 0 ∧ lo ≤ hi ∧ s.f (Fld.COG_STAT_WIRE c) = 0
    let disarmed := ∀ k : Fin 2, s.f (Fld.COG_CMP_CTL_ARM c k) = 0
    let src (j : Nat) := 96 + 5 * c.val + j
    let cog (a b z : Bool) : State := s.updCog c (fun y => { y with a := a, b := b, z := z })
    let kept (t : State) : Prop := t.mem = s.mem ∧ t.engs = s.engs ∧
      (∀ c' : Fin 6, c' ≠ c → t.reg (Reg.COG_POS c') = s.reg (Reg.COG_POS c') ∧ t.cogOf c' = s.cogOf c') ∧
      ∀ b, (t.bridge b).latch = (s.bridge b).latch ∧ t.f (Fld.BRG_CTL_RUN b) = s.f (Fld.BRG_CTL_RUN b)
    (∀ a b z : Bool, s.f (Fld.COG_CFG_MODE c) = 1 → sane → s.f (Fld.COG_CFG_ZEN c) = 0 → disarmed →
      (a ≠ x.a → b ≠ x.b → Effect (.cogCountEdge c a b z) s (cog a b z)
        ([(Fld.COG_STAT_ILLEGAL c, 1), (Fld.COG_STAT_ILLCNT c, min 255 (s.f (Fld.COG_STAT_ILLCNT c) + 1))] ++
          raised s (src 3))) ∧
      ((a ≠ x.a ∧ b = x.b) ∨ (a = x.a ∧ b ≠ x.b) →
        let forward := if a ≠ x.a then a ≠ b else a = b
        let up := forward ↔ s.f (Fld.COG_CFG_INV c) = 0
        let p := if up then pos + 1 else pos - 1
        let held := s.f (Fld.COG_STAT_LIMIT_HELD c) = 1
        ∃ t, exec (.cogCountEdge c a b z) s = .next t ∧ kept t ∧
          (t.reg (Reg.COG_TEDGE c)).toNat = (let grid := if s.f Fld.SYS_TBSEL_ACTIVE = 0 then 16 else 4
            s.tnow.toNat / grid * grid) ∧
          (t.f (Fld.COG_STAT_DIR c) = 0 ↔ up) ∧ (t.cogOf c).a = a ∧ (t.cogOf c).b = b ∧
          (s.f (Fld.COG_CPR_CPR c) ≤ 4096 → t.f (Fld.COG_STAT_STILL c) = 0 ∧
            (t.f (Fld.COG_STAT_UNSETTLED c) = 1 ↔ s.f (Fld.COG_STAT_STILL c) = 1 ∨ x.fresh = true ∨
              ¬ (up ↔ s.f (Fld.COG_STAT_DIR c) = 0))) ∧
          (held → t.reg (Reg.COG_POS c) = s.reg (Reg.COG_POS c) ∧ t.f (Fld.COG_STAT_LIMIT_HELD c) = 1) ∧
          (¬ held → lo ≤ p → p ≤ hi → (t.reg (Reg.COG_POS c)).toInt = p ∧ t.f (Fld.COG_STAT_LIMIT_HELD c) = 0 ∧
            t.f (Fld.COG_STAT_REFD c) = s.f (Fld.COG_STAT_REFD c)) ∧
          (¬ held → p < lo ∨ hi < p → t.reg (Reg.COG_POS c) =
              (if hi < p then s.reg (Reg.COG_LIMHI c) else s.reg (Reg.COG_LIMLO c)) ∧
            t.f (Fld.COG_STAT_LIMIT_HELD c) = 1 ∧ t.f (Fld.COG_STAT_REFD c) = 0 ∧ t.isPending (src 4) = true))) ∧
    (s.f (Fld.COG_CFG_MODE c) = 1 → sane → s.f (Fld.COG_CFG_ZEN c) = 1 → s.f (Fld.COG_CFG_ZGATE c) = 0 →
      disarmed → x.z = false →
      let same := pos % (s.f (Fld.COG_CPR_CPR c) : Int) =
        (s.reg (Reg.COG_REF c)).toInt % (s.f (Fld.COG_CPR_CPR c) : Int)
      ∃ t, exec (.cogCountEdge c x.a x.b true) s = .next t ∧ kept t ∧
        (s.f (Fld.COG_CTL_REFARM c) = 1 ∨ s.f (Fld.COG_STAT_LIMIT_HELD c) = 1 →
          t.reg (Reg.COG_POS c) = s.reg (Reg.COG_REF c) ∧ t.f (Fld.COG_STAT_REFD c) = 1 ∧
          t.f (Fld.COG_CTL_REFARM c) = 0 ∧ t.f (Fld.COG_STAT_LIMIT_HELD c) = 0) ∧
        (s.f (Fld.COG_CTL_REFARM c) = 0 → s.f (Fld.COG_STAT_LIMIT_HELD c) = 0 →
          t.reg (Reg.COG_POS c) = s.reg (Reg.COG_POS c) ∧
          (t.f (Fld.COG_STAT_REFMIS c) = 1 ↔ s.f (Fld.COG_STAT_REFMIS c) = 1 ∨
            s.f (Fld.COG_STAT_REFD c) = 1 ∧ ¬ same))) ∧
    (∀ (e : Engine) (k : Fin 2) (v : Word), Passes s e (Reg.COG_CMP_CTL c k) → s.f (Fld.COG_STAT_WIRE c) = 0 →
      let d := v.toNat / 2 % 4
      let val := (s.reg (Reg.COG_CMP_VAL c k)).toInt
      let holds := d = 1 ∧ val ≤ pos ∨ d = 2 ∧ pos ≤ val ∨ d = 3 ∧ pos = val
      let trg := v.getLsbD 3 = true
      let left (f : Field) (bit : Nat) : Nat := if v.getLsbD bit = true then 0 else s.f f
      ∃ t, exec (.compareArm e c k v) s = .next t ∧ t = { s with regs := t.regs, cog := t.cog, slu := t.slu } ∧
        t.f (Fld.COG_CMP_CTL_DIR c k) = d ∧ (t.f (Fld.COG_CMP_CTL_TRG c k) = 1 ↔ trg) ∧
        (∀ a, a ≠ Reg.COG_CMP_CTL c k → a ≠ Reg.COG_CMP_T c k → a ≠ Reg.CAT_CNT (src k.val) →
          t.reg a = s.reg a) ∧
        (v.getLsbD 0 = true → holds → t.f (Fld.COG_CMP_CTL_ARM c k) = 0 ∧
          t.f (Fld.COG_CMP_CTL_FIRED c k) = 1 ∧ t.f (Fld.COG_CMP_CTL_LATE c k) = 1 ∧
          t.reg (Reg.COG_CMP_T c k) = s.tnow ∧ t.isPending (src k.val) = true ∧
          (trg → EventOf (0x1A + c.val) s t) ∧ (¬ trg → t.slu = s.slu)) ∧
        (v.getLsbD 0 = false ∨ ¬ holds →
          (t.f (Fld.COG_CMP_CTL_ARM c k) = 1 ↔ v.getLsbD 0 = true) ∧
          t.f (Fld.COG_CMP_CTL_FIRED c k) = left (Fld.COG_CMP_CTL_FIRED c k) 4 ∧
          t.f (Fld.COG_CMP_CTL_LATE c k) = left (Fld.COG_CMP_CTL_LATE c k) 5 ∧
          t.reg (Reg.COG_CMP_T c k) = s.reg (Reg.COG_CMP_T c k) ∧ t.slu = s.slu))

/-- R283, R301, R302, R305, R311 to R313: Hall transitions, wire faults and their end, standstill, and the speed of both
classes, whose bound is judged at each whole 1 µs and at captures. That those boundaries are the whole microseconds of
cw.tnow is the model's choice (log entry 71). -/
def Obligations.CogSpeedAndFaults : Prop :=
  ∀ (c : Fin 6) (s : State), s.live = true → s.f (Fld.COG_CPR_CPR c) ≠ 0 →
    (s.reg (Reg.COG_LIMLO c)).toInt ≤ (s.reg (Reg.COG_LIMHI c)).toInt →
    let x := s.cogOf c
    let mode := s.f (Fld.COG_CFG_MODE c)
    let cpr := s.f (Fld.COG_CPR_CPR c)
    let src (j : Nat) := 96 + 5 * c.val + j
    let plain := s.f (Fld.COG_RPT_P_EN 0) = 0 ∧ s.f (Fld.COG_RPT_P_EN 1) = 0
    let repeaters : List (Field × Nat) := [(Fld.COG_RPT_STAT_RFLT0, 0), (Fld.COG_RPT_STAT_RFLT1, 0)] ++ levelled 126 false
    let speed (neg : Bool) (num den : Nat) : Word :=
      let n := halfEven (num * 2 ^ 31) (den * 2 ^ s.f (Fld.COG_CFG_SCL c))
      clamp32 (if neg then -(n : Int) else n)
    (∀ pair : Fin 3, mode = 1 ∨ mode = 2 → pair = 0 ∨ pair = 1 ∨ s.f (Fld.COG_CFG_ZEN c) = 1 → plain →
      let w := s.f (Fld.COG_STAT_WIRE c)
      (w.testBit pair.val = false → Effect (.wireFault c pair) s
        (s.updCog c (fun y => { y with ivals := [], fresh := true, teeth := 0, net := 0, up := false, down := false }))
        ([(Fld.COG_STAT_WIRE c, w ||| 2 ^ pair.val),
          (Fld.COG_STAT_WIRELOG c, s.f (Fld.COG_STAT_WIRELOG c) ||| 2 ^ pair.val), (Fld.COG_STAT_REFD c, 0),
          (Fld.COG_STAT_STILL c, 0), (Fld.COG_STAT_UNSETTLED c, 1), (⟨Reg.COG_SPD c, 0, 32⟩, 0)] ++
            levelled (src 2) true ++ repeaters)) ∧
      (∀ a b z : Bool, w = 2 ^ pair.val → Effect (.wireFaultClear c pair a b z) s
        (s.updCog c (fun y => { y with a := a, b := b, z := z, fresh := true }))
        ((Fld.COG_STAT_WIRE c, 0) :: (levelled (src 2) false ++ repeaters)))) ∧
    (1 ≤ mode → mode ≤ 4 → s.f (Fld.COG_STAT_WIRE c) = 0 → mode ≠ 3 →
      Effect (.standstill c) s (s.updCog c (fun y => { y with ivals := [], fresh := false, teeth := 0 }))
        ([(Fld.COG_STAT_STILL c, 1), (Fld.COG_STAT_UNSETTLED c, 0)] ++
          if cpr ≤ 4096 then [] else [(⟨Reg.COG_SPD c, 0, 32⟩, 0), (Fld.COG_STAT_REVERSAL c, 0)]) ∧
      (cpr ≤ 4096 → exec (.speedWindowEnd c) s = .next s ∧
        (s.f (Fld.COG_STAT_STILL c) = 1 ∨ s.f (Fld.COG_STAT_UNSETTLED c) = 1 → s.cogSpeed c = 0) ∧
        ∀ (t1 : Nat) (r : List Nat), x.ivals = t1 :: r → s.f (Fld.COG_STAT_STILL c) = 0 →
          s.f (Fld.COG_STAT_UNSETTLED c) = 0 → 0 < t1 →
          let us := s.tnow.toNat % 1024
          let judged := match x.seen with | some a => min us (s.age - a) | none => us
          let last := 12 * ((s.tnow - s.reg (Reg.COG_TEDGE c)).toNat - judged)
          let k := min (x.ivals.length) (match s.f (Fld.COG_CFG_AVG c) with | 0 => 1 | 1 => 2 | 2 => 4 | _ => 6)
          let down := s.f (Fld.COG_STAT_DIR c) = 1
          s.cogSpeed c = if last ≤ t1 then speed down (k * 12288000000) (cpr * (x.ivals.take k).sum)
            else speed down 12288000000 (cpr * last)) ∧
      (4096 < cpr → x.winArmed = none →
        let moved := x.up || x.down
        let first := moved && (decide (s.f (Fld.COG_STAT_STILL c) = 1) || x.fresh)
        Effect (.speedWindowEnd c) s (s.updCog c (fun y => { y with
            net := 0, up := false, down := false, fresh := y.fresh && !moved }))
          ([(⟨Reg.COG_SPD c, 0, 32⟩, (speed (x.net < 0) (x.net.natAbs * 1000000)
              (cpr * min 1000 (max 25 (s.f (Fld.COG_WIN_WIN c))))).toNat),
            (Fld.COG_STAT_UNSETTLED c, Word.ofBool first), (Fld.COG_STAT_REVERSAL c, Word.ofBool (x.up && x.down))] ++
            if moved then [(Fld.COG_STAT_STILL c, 0)] else []))) ∧
    (∀ h : BitVec 3, mode = 4 → s.f (Fld.COG_STAT_WIRE c) = 0 → (∀ k : Fin 2, s.f (Fld.COG_CMP_CTL_ARM c k) = 0) →
      let forward : List (BitVec 3 × BitVec 3) := [(1, 3), (3, 2), (2, 6), (6, 4), (4, 5), (5, 1)]
      let pos := (s.reg (Reg.COG_POS c)).toInt
      let told (t : State) (y : Option (BitVec 3)) : Prop := ∀ b : Fin 5,
        if s.f (Fld.BRG_CFG_TYPE b) = 2 ∧ s.f (Fld.BRG_CFG_COG b) = c.val then (t.bridge b).hall = y ∧
          (y = none → t.f (Fld.BRG_PWMSTAT_HALLERR b) = 1)
        else (t.bridge b).hall = (s.bridge b).hall
      (h = x.hall → exec (.hallTransition c h) s = .next s) ∧
      (h ≠ x.hall → ∃ t, exec (.hallTransition c h) s = .next t ∧ t.mem = s.mem ∧ t.engs = s.engs ∧
        (t.cogOf c).hall = h ∧
        (h = 0 ∨ h = 7 → told t none ∧ t.f (Fld.COG_STAT_ILLEGAL c) = 1 ∧ t.isPending (src 3) = true ∧
          t.f (Fld.COG_STAT_HALL c) = s.f (Fld.COG_STAT_HALL c)) ∧
        (h ≠ 0 → h ≠ 7 → told t (some h) ∧ t.f (Fld.COG_STAT_HALL c) = h.toNat) ∧
        (s.f (Fld.COG_STAT_LIMIT_HELD c) = 0 → s.f (Fld.COG_CFG_INV c) = 0 →
          (s.reg (Reg.COG_LIMLO c)).toInt < pos → pos < (s.reg (Reg.COG_LIMHI c)).toInt →
          (t.reg (Reg.COG_POS c)).toInt = if (x.hall, h) ∈ forward then pos + 1
            else if (h, x.hall) ∈ forward then pos - 1 else pos) ∧
        (h ≠ 0 → h ≠ 7 → x.hall ≠ 0 → x.hall ≠ 7 → (x.hall, h) ∉ forward → (h, x.hall) ∉ forward →
          t.f (Fld.COG_STAT_ILLEGAL c) = 1 ∧ t.isPending (src 3) = true)))

/-! ### Knaor (chapter 14) -/

/-- R318, R321, R324, R327, R338, R345, R350 to R352: the engine on and off, the checks of its configuration, the LISTEN
timer, the Weir's turn start, the spill queue and the wake pattern. -/
def Obligations.KnaorControl : Prop :=
  ∀ s : State, s.live = true →
    let st := s.f Fld.KNR_STAT_STATE
    let nb := s.f Fld.KNR_CFG1_NB
    let bl := s.f Fld.KNR_CFG1_BL
    let tl := s.f Fld.KNR_CFG0_TL
    let cg := s.f Fld.KNR_CFG2_CGAP
    let sbkt := s.f Fld.KNR_CFG3_SBKT
    let offlim := max 1 (s.f Fld.KNR_SYNCCFG_OFFLIM)
    let ratelim := max 1 (s.f Fld.KNR_SYNCCFG_RATELIM)
    let bitNs := match s.f Fld.KNR_CFG0_RATE with | 0 => 40 | 1 => 80 | _ => 200
    let frameNs (l : Nat) := (118 + 10 * l) * bitNs
    let gmNs := 250 * (s.f Fld.KNR_WEIR_GM + 1)
    let permits (b : Nat) := (s.reg (Reg.PROT_KTXB (b / 32))).getLsbD (b % 32) = true
    let tx (n : Nat) := n < 64 ∧ s.f (Fld.KNR_BUF_CFG_EN n) = 1 ∧ s.f (Fld.KNR_BUF_CFG_TX n) = 1
    let num (n : Nat) := s.f (Fld.KNR_BUF_CFG_NUM n)
    let checks : Prop :=
      nb * bl + cg ≤ tl ∧ s.f Fld.KNR_CFG3_TMARK < tl ∧ sbkt < nb ∧
      8 * gmNs + 125 * offlim ≤ 8000 * s.f Fld.KNR_CFG1_LOFS ∧
      8000 * s.f Fld.KNR_CFG1_LOFS + 8 * frameNs (s.f Fld.KNR_CFG1_LMAX) + 125 * offlim + 8 * gmNs ≤ 8000 * bl ∧
      offlim + 64 ≤ 64 * cg ∧ ratelim + cg ≤ tl ∧
      (s.f Fld.KNR_CFG0_COLD = 1 → s.f Fld.KNR_CFG0_SYNCN = 1) ∧ (s.f Fld.KNR_CFG0_SYNCN = 1 → permits sbkt) ∧
      (∀ n, tx n → num n < nb ∧ permits (num n) ∧ s.f (Fld.KNR_BUF_CFG_LEN n) ≤ s.f Fld.KNR_CFG1_LMAX ∧
        ∀ m, tx m → num m = num n → m = n) ∧
      (0 < s.f Fld.KNR_WEIR_SPMAX →
        1000 + frameNs (s.f Fld.KNR_CFG2_LMAXS) + gmNs + 1000 * (nb * bl + cg) ≤ 1000 * tl)
    let bit (v : Word) (k : Nat) := Word.ofBool (v.getLsbD k)
    (∀ (e : Engine) (v : Word), Passes s e Reg.KNR_CTL →
      let set : List (Field × Nat) := [(Fld.KNR_CTL_LISTENONLY, bit v 1), (Fld.KNR_CTL_JOINING, bit v 2)]
      let chens : List (Field × Nat) := [(Fld.KNR_CTL_CHEN1, bit v 3), (Fld.KNR_CTL_CHEN2, bit v 4)]
      (st = 0 → ¬ checks → Effect (.knaorEnable e v) s s (set ++ chens ++ [(Fld.KNR_STAT_CFGERR, 1)])) ∧
      (st = 0 → checks → s.f Fld.SYS_TBSEL_ACTIVE = 0 ∨ (v.getLsbD 3 || v.getLsbD 4) = false →
        Effect (.knaorEnable e v) s s (set ++ chens ++ [(Fld.KNR_STAT_CFGERR, 0)])) ∧
      (st = 0 → checks → s.f Fld.SYS_TBSEL_ACTIVE ≠ 0 → (v.getLsbD 3 || v.getLsbD 4) = true → s.knr.waking = [] →
        ∃ t, exec (.knaorEnable e v) s = .next t ∧ t = { s with regs := t.regs, knr := t.knr } ∧
          t.f Fld.KNR_CTL_EN = 1 ∧ t.f Fld.KNR_STAT_STATE = 1 ∧ t.f Fld.KNR_STAT_KSYNC = 0 ∧
          t.f Fld.KNR_STAT_WALIGN = 0 ∧ t.f Fld.KNR_STAT_CFGERR = 0 ∧ (∀ x ∈ set ++ chens, t.f x.1 = x.2) ∧
          t.f Fld.KNR_STAT_K1LOST = 1 - bit v 3 ∧ t.f Fld.KNR_STAT_K2LOST = 1 - bit v 4) ∧
      (st = 0 → Effect (.knaorDisable e v) s s (set ++ chens)) ∧
      (1 ≤ st → st < 4 → s.ksync = false → ∃ t, exec (.knaorDisable e v) s = .next t ∧
        t = { s with regs := t.regs, knr := t.knr, sent := s.sent ++ s.txChannels.map Sent.txenCut } ∧
        t.f Fld.KNR_CTL_EN = 0 ∧ t.f Fld.KNR_STAT_STATE = 0 ∧ t.f Fld.KNR_STAT_KSYNC = 0 ∧
        t.f Fld.KNR_STAT_WALIGN = 0 ∧ t.f Fld.KNR_STAT_WAKEBUSY = 0 ∧ t.knr.sending = none ∧
        (∀ x ∈ set, t.f x.1 = x.2) ∧ t.f Fld.KNR_CTL_CHEN1 = s.f Fld.KNR_CTL_CHEN1) ∧
      (st ≠ 0 → v.getLsbD 0 = true →
        let sends := st = 1 ∧ s.f Fld.KNR_WEIR_WAKEOK = 1 ∧ s.knr.heard = false ∧ v.getLsbD 1 = false ∧
          s.whd.phase = .awake
        let begun (k : Nat) (c : Fin 2) (w : List (Fin 2 × Nat)) : List (Fin 2 × Nat) :=
          if v.getLsbD k = true then w.filter (fun x => x.1 != c) ++ [(c, s.age)] else w
        let out (k : Nat) (c : Fin 2) : List Sent := if v.getLsbD k = true then [.wakePattern c] else []
        (sends → Effect (.wakePatternSend e v) s { s with
            sent := s.sent ++ out 5 0 ++ out 6 1, knr := { s.knr with waking := begun 6 1 (begun 5 0 s.knr.waking) } }
          (set ++ if (v.getLsbD 5 || v.getLsbD 6) = true then [(Fld.KNR_STAT_WAKEBUSY, 1)] else [])) ∧
        (¬ sends → Effect (.wakePatternSend e v) s s set))) ∧
    (s.knr.waking = [] → exec .wakePatternEnd s = .next s) ∧
    (∀ w r, s.knr.waking = w :: r → let left := s.knr.waking.filter (fun x => x.2 != w.2)
      Effect .wakePatternEnd s (s.updKnr (fun x => { x with waking := left }))
        [(Fld.KNR_STAT_WAKEBUSY, if left = [] then 0 else 1)]) ∧
    (st = 1 → s.f Fld.KNR_CFG0_COLD = 1 → s.f Fld.KNR_CTL_LISTENONLY = 0 → s.whd.phase = .awake →
      s.knr.waking = [] → ∃ t, exec .listenTimeout s = .next t ∧ t = { s with regs := t.regs, knr := t.knr } ∧
        t.f Fld.KNR_STAT_STATE = 2 ∧ t.f Fld.KNR_STAT_TURN = 0 ∧ t.f Fld.KNR_STAT_WALIGN = 1 ∧
        t.f Fld.KNR_STAT_KSYNC = 0) ∧
    (st ≠ 1 ∨ s.f Fld.KNR_CFG0_COLD = 0 ∨ s.f Fld.KNR_CTL_LISTENONLY = 1 → exec .listenTimeout s = .next s) ∧
    (s.f Fld.KNR_STAT_WALIGN = 1 →
      let lim : Int := s.f Fld.KNR_WEIR_WSTEP + 1
      let turned (m : Int) (x : Knaor) : Knaor :=
        { x with wdevs := [], wOff := x.wOff - m, wTurn := (x.wTurn + 1) % 64, spillSent := 0 }
      let moves (m : Int) : Prop :=
        (s.knr.gapDone = true → Effect .weirTurnStart s
          (s.updKnr (fun x => { turned m x with gapDone := false }))
          [(Fld.KNR_WDIFF_WDIFF, (BitVec.ofInt 16 (max (-32768) (min 32767 (s.knr.wOff - m)))).toNat)]) ∧
        (s.knr.gapDone = false → exec .weirTurnStart s =
          .next (s.updKnr (fun x => { turned m x with weirFirst := true })))
      (s.knr.wdevs = [] → moves 0) ∧
      (∀ p d, s.knr.wdevs = [(p, d)] → moves (max (-lim) (min lim d))) ∧
      (∀ p q d f, s.knr.wdevs = [(p, d), (q, f)] → moves (max (-lim) (min lim ((d + f).tdiv 2))))) ∧
    (s.f Fld.KNR_STAT_WALIGN = 0 → exec .weirTurnStart s = .next s) ∧
    (∀ (e : Engine) (v : Word), Passes s e Reg.KNR_SPPUSH →
      let id := v.toNat % 256
      let len := v.toNat / 256 % 128
      let ok := s.knr.queue.length < 32 ∧ nb ≤ id ∧
        (s.reg (Reg.KNR_SPGRANT (id / 32))).getLsbD (id % 32) = true ∧ len ≤ s.f Fld.KNR_CFG2_LMAXS
      (¬ ok → Effect (.spillPush e v) s s
        ((Fld.KNR_CNT_SPREJ, min 255 (s.f Fld.KNR_CNT_SPREJ + 1)) :: raised s 134)) ∧
      (ok → Effect (.spillPush e v) s
        (s.updKnr (fun x => { x with queue := x.queue ++ [⟨id, len,
          (List.range 16).map (fun i => s.reg (Reg.KNR_SPSTAGE i)), false⟩] }))
        [(Fld.KNR_SPQ_FILL, s.knr.queue.length + 1)]))

/-- R325, R326, R329: a frame built from a header and a payload, received without a coding error, is valid and gives
back that header and that payload. R327: on the wire it takes 118 + 10 L bit times. -/
def Obligations.FrameRoundTrip : Prop :=
  ∀ (h : KHead) (payload : List Byte) (rx : KRead), h.typ ≤ 2 → h.node < 32 → h.bucket < 256 → h.turn < 64 →
    h.chl < 4 → h.len = payload.length → h.len ≤ 64 → (h.null = true → h.len = 0) →
    rx.bytes = frameBytes h payload → rx.codingErr = false → frameOf rx = some (h, payload) ∧
      (wireBits (frameBytes h payload)).length = 118 + 10 * payload.length

/-- R344: one value cannot move the fault-tolerant midpoint of three or more values beyond the spread of the others. -/
def Obligations.MidpointTolerance : Prop :=
  ∀ (xs : List Int) (x lo hi : Int), 2 ≤ xs.length → (∀ y ∈ xs, lo ≤ y ∧ y ≤ hi) →
    ∀ zs : List Int, zs.Perm (x :: xs) → lo ≤ midpoint zs ∧ midpoint zs ≤ hi

/-- R325, R329, R330, R332, R338, R340, R342, R343, R346, R348, R350: frames launched and let out by the Weir, their end
on the channels, and frames received. A deviation that is no whole number of microticks rounds either way (the model's
choice, log entry 72). -/
def Obligations.KnaorFrames : Prop :=
  ∀ s : State, s.live = true →
    let st := s.f Fld.KNR_STAT_STATE
    let en (c : Fin 2) := s.chEn c = true
    let node := s.f Fld.KNR_CFG0_NODE
    let nb := s.f Fld.KNR_CFG1_NB
    let bl := s.f Fld.KNR_CFG1_BL
    let tl := s.f Fld.KNR_CFG0_TL
    let kept (t : State) : Prop := t.mem = s.mem ∧ t.engs = s.engs ∧ t.brg = s.brg ∧ t.md = s.md ∧
      t.f Fld.KNR_CTL_EN = s.f Fld.KNR_CTL_EN
    (∀ (b : BitVec 8) (late : Int) (n : Nat) (l : List TxLatch) (x : TxLatch), st = 4 → s.whd.phase = .awake →
      s.f Fld.KNR_CTL_LISTENONLY = 0 → b.toNat < nb → s.bufOf b.toNat = some n →
      s.knr.latched = some l → l.find? (fun y => y.buf == n) = some x → x.data.length = 16 → x.len ≤ 64 →
      let sync := s.f Fld.KNR_CFG0_SYNCN = 1 ∧ b.toNat = s.f Fld.KNR_CFG3_SBKT
      let len := if x.valid = true then x.len else 0
      let payload : List Byte := (List.range len).map (fun i => (x.data[i / 4]?.getD 0).extractLsb' (8 * (i % 4)) 8)
      let header : List Byte :=
        [BitVec.ofNat 8 (1 + (if sync then 16 else 0) + (if x.valid = true then 0 else 32) +
           64 * max (s.f Fld.KNR_CTL_JOINING) (s.f Fld.SYS_MODE_JOINING)), BitVec.ofNat 8 node, b,
         BitVec.ofNat 8 (s.f Fld.KNR_TIME_TURN), BitVec.ofNat 8 len, BitVec.ofNat 8 s.knr.chl]
      let body := header ++ [headerCrc header] ++ payload
      let frame := body ++ (List.range 4).map (fun i => BitVec.ofNat 8 (crc32c body / 2 ^ (8 * i)))
      -- instants in eighths of a nanosecond after the start of the Weir's turn
      let at_ : Int := 125 * (s.macroAt (bl * b.toNat + s.f Fld.KNR_CFG1_LOFS) + late + s.knr.wOff)
      let gm : Int := 2000 * (s.f Fld.KNR_WEIR_GM + 1)
      let first : Int := 8000 * (bl * b.toNat) + gm
      let last : Int := 8000 * (bl * (b.toNat + 1)) - gm
      let high := s.weirParts false at_ (s.tFrame len)
      (∃ t, exec (.frameLaunch ⟨b, late⟩) s = .next t ∧ t = { s with knr := t.knr, sent := t.sent } ∧
        t.knr.sending = some ⟨b.toNat, .static, frame, s.tFrame len, high⟩ ∧
        t.sent = s.sent ++ if high = [] then [] else (chans2.filter s.chEn).map (fun c =>
          if high = [(0, s.tFrame len)] then .frame c frame else .frameCut c frame high)) ∧
      (s.f Fld.KNR_STAT_WALIGN = 0 → high = []) ∧
      (s.f Fld.KNR_STAT_WALIGN = 1 → s.bucketOk b.toNat = true → nb * bl ≤ tl → first ≤ at_ →
        at_ + s.tFrame len ≤ last → high = [(0, s.tFrame len)])) ∧
    (∀ (b : BitVec 8) (late : Int), st = 5 ∨ st = 6 ∨ st = 1 ∨ st = 3 ∨ s.f Fld.KNR_CTL_LISTENONLY = 1 →
      exec (.frameLaunch ⟨b, late⟩) s = .next s) ∧
    (∀ (b : BitVec 8) (k1 k2 : TxEnd) (x : OwnFrame), s.knr.sending = some x → x.place = b.toNat →
      let clip (c : Fin 2) (k : TxEnd) : Prop := en c ∧ x.high ≠ [(0, x.len)] ∧ (k.loopOk = false ∨ x.high = [])
      (x.kind = .static → ∃ t, exec (.frameTransmissionEnd b k1 k2) s = .next t ∧ kept t ∧
        t.knr.sending = none ∧
        t.f Fld.KNR_CNT_CLIP1 = (if clip 0 k1 then min 255 (s.f Fld.KNR_CNT_CLIP1 + 1) else s.f Fld.KNR_CNT_CLIP1) ∧
        t.f Fld.KNR_CNT_CLIP2 = (if clip 1 k2 then min 255 (s.f Fld.KNR_CNT_CLIP2 + 1) else s.f Fld.KNR_CNT_CLIP2) ∧
        (clip 0 k1 → t.isPending 129 = true) ∧ (clip 1 k2 → t.isPending 130 = true) ∧
        (¬ clip 0 k1 → ¬ clip 1 k2 → t.knr.clips = 0 ∧ t.f Fld.KNR_STAT_STATE = st) ∧
        (clip 0 k1 ∨ clip 1 k2 → s.knr.clips = 0 → t.knr.clips = 1 ∧ t.f Fld.KNR_STAT_STATE = st) ∧
        (clip 0 k1 ∨ clip 1 k2 → s.knr.clips = 1 → st = 4 → t.f Fld.KNR_STAT_STATE = 5 ∧
          t.f Fld.KNR_STAT_PCAUSE = 1 ∧ t.f Fld.KNR_STAT_KSYNC = 1 ∧ t.isPending 131 = true)) ∧
      (x.kind = .coldstart → st = 2 → en 0 ∨ en 1 →
        ∃ t, exec (.frameTransmissionEnd b k1 k2) s = .next t ∧ kept t ∧ t.knr.sending = none ∧
          (let collides := (en 0 → k1.differ = true) ∧ (en 1 → k2.differ = true)
           (collides → t.f Fld.KNR_STAT_STATE = 1 ∧ t.f Fld.KNR_STAT_WALIGN = 0 ∧
              t.f Fld.KNR_CNT_COLDCNT = min 255 (s.f Fld.KNR_CNT_COLDCNT + 1)) ∧
           (¬ collides → t.f Fld.KNR_STAT_STATE = 2 ∧ t.f Fld.KNR_CNT_COLDCNT = s.f Fld.KNR_CNT_COLDCNT))) ∧
      (∀ (y : SpillEntry) (r : List SpillEntry), x.kind = .spill → s.knr.queue = y :: r →
        y.elig = true → y.id = b.toNat → ∃ t, exec (.frameTransmissionEnd b k1 k2) s = .next t ∧ kept t ∧
          t.knr.queue = r ∧ (r.length ≤ 63 → t.f Fld.KNR_SPQ_FILL = r.length))) ∧
    (∀ (c : Fin 2) (rx : FrameRx), en c → st ≠ 0 →
      let rej (u : State) : Nat := if c = 0 then u.f Fld.KNR_ERRCNT_REJ1 else u.f Fld.KNR_ERRCNT_REJ2
      let x := receive s.tCell rx.line
      let place := (s.placeOf rx.start x).1
      (frameOf x = none → ∃ t, exec (.frameReceived c rx) s = .next t ∧ kept t ∧
        t.f Fld.KNR_STAT_STATE = st ∧ rej t = min 255 (rej s + 1) ∧ t.knr.rx = s.knr.rx ∧ t.knr.devs = s.knr.devs) ∧
      (∀ (h : KHead) (p : List Byte), frameOf x = some (h, p) →
        let fits := (s.placeOf rx.start x).2 = true ∧ h.bucket = place ∧ h.turn = s.f Fld.KNR_TIME_TURN
        (st = 1 → h.sync = true ∨ h.typ = 2 → ∃ t, exec (.frameReceived c rx) s = .next t ∧ kept t ∧
          t.f Fld.KNR_STAT_STATE = 3 ∧ t.f Fld.KNR_STAT_TURN = h.turn % 64 ∧ t.f Fld.KNR_STAT_WALIGN = 1 ∧
          t.f Fld.KNR_STAT_KSYNC = 0) ∧
        (st = 1 → h.sync = false → h.typ ≠ 2 → exec (.frameReceived c rx) s =
          .next (s.updKnr (fun y => { y with heard := true }))) ∧
        (st = 2 → h.node ≠ node → h.typ = 2 ∨ h.sync = true ∧ ¬ fits →
          ∃ t, exec (.frameReceived c rx) s = .next t ∧ kept t ∧ t.f Fld.KNR_STAT_STATE = 1 ∧
            t.f Fld.KNR_CNT_COLDCNT = min 255 (s.f Fld.KNR_CNT_COLDCNT + 1)) ∧
        (3 ≤ st → ¬ fits → ∃ t, exec (.frameReceived c rx) s = .next t ∧ kept t ∧ t.f Fld.KNR_STAT_STATE = st ∧
          rej t = min 255 (rej s + 1) ∧ t.knr.rx = s.knr.rx ∧ t.knr.devs = s.knr.devs) ∧
        (3 ≤ st → fits → ∃ t, exec (.frameReceived c rx) s = .next t ∧ kept t ∧ t.f Fld.KNR_STAT_STATE = st ∧
          (if h.sync = true ∧ h.node ≠ node ∧ place < nb then
            -- the deviation in hundredths of a microtick
            let due : Int := s.macroAt (bl * place + s.f Fld.KNR_CFG1_LOFS) +
              s.f (if c = 0 then Fld.KNR_DELAY_DELAY1 else Fld.KNR_DELAY_DELAY2)
            let late : Int := 25 * (rx.start + x.edge - 4 * due) - 7 * s.tCell
            ∃ d : Int, |100 * d - late| < 100 ∧ (late % 100 = 0 → 100 * d = late) ∧
              t.knr.devs = putDev place c d s.knr.devs
           else t.knr.devs = s.knr.devs) ∧
          ∀ n : Fin 64,
            let ended : Int := rx.start + x.last
            let entry : RxTaken := ⟨s.f Fld.KNR_TIME_TURN, place, c, false, h.node, h.join, p, ended,
              decide (4 * s.macroAt (s.f Fld.KNR_CFG3_TMARK) < ended)⟩
            let takes := s.isRx n.val = true ∧ s.f (Fld.KNR_BUF_CFG_NUM n.val) = place ∧ s.rxOn n.val c = true ∧
              (s.f (Fld.KNR_BUF_CFG_NCHK n.val) = 1 → s.f (Fld.KNR_BUF_CFG_NODE n.val) = h.node)
            (¬ takes → t.knr.rx[n.val] = s.knr.rx[n.val]) ∧
            (takes → s.knr.rx[n.val].got = none → s.knr.rx[n.val].null = none →
              t.knr.rx[n.val] = if h.null = true then { null := some entry } else { got := some entry }) ∧
            (∀ g, takes → h.null = false → s.knr.rx[n.val].got = some g → g.turn = s.f Fld.KNR_TIME_TURN →
              g.place = place → g.ch ≠ c → t.knr.rx[n.val].got =
                some { (if ended < g.ended ∨ ended = g.ended ∧ c = 0 then entry else g) with both := true }))))

/-- R21, R332 to R334, R337, R338, R341, R343, R344, R347, R349: the turn mark, the correction gap and the spill count. -/
def Obligations.KnaorTurns : Prop :=
  ∀ s : State, s.live = true →
    let st := s.f Fld.KNR_STAT_STATE
    let turn := s.f Fld.KNR_TIME_TURN
    (4 ≤ st → s.mode.deferred = false → s.mode.request ≠ some 8 → s.mode.request ≠ some 9 →
      ∃ t, exec .turnMark s = .next t ∧
      t.reg Reg.LEAT_TURNNO = s.reg Reg.LEAT_TURNNO + 1 ∧ t.isPending 128 = true ∧ t.knr.marked = true ∧
      t.f Fld.KNR_TIME_TURN = (if s.knr.marked = true then (turn + 1) % 64 else turn) ∧
      (∀ c : Fin 6, t.reg (Reg.COG_POSF c) = s.reg (Reg.COG_POS c)) ∧
      (∀ x ∈ t.knr.queue, x.elig = true) ∧
      ∀ n : Fin 64, s.isRx n.val = true → s.knr.hadMark = true →
        (s.knr.rx[n.val].got = none → t.f (Fld.KNR_BUF_STAT_AGE n.val) = min 63 (s.f (Fld.KNR_BUF_STAT_AGE n.val) + 1) ∧
          t.f (Fld.KNR_BUF_STAT_NULLRX n.val) = Word.ofBool s.knr.rx[n.val].null.isSome ∧
          (∀ z, s.knr.rx[n.val].null = some z → t.f (Fld.KNR_BUF_STAT_BOTH n.val) = Word.ofBool z.both) ∧
          ∀ i : Fin 16, t.reg (Reg.KNR_DATA n.val i.val) = s.reg (Reg.KNR_DATA n.val i.val)) ∧
        (∀ g, s.knr.rx[n.val].got = some g → g.node < 32 → t.f (Fld.KNR_BUF_STAT_AGE n.val) = 0 ∧
          t.f (Fld.KNR_BUF_STAT_NULLRX n.val) = 0 ∧ t.f (Fld.KNR_BUF_STAT_CH n.val) = g.ch.val ∧
          t.f (Fld.KNR_BUF_STAT_NODE n.val) = g.node ∧ t.f (Fld.KNR_BUF_STAT_BOTH n.val) = Word.ofBool g.both ∧
          t.isPending (137 + s.f (Fld.KNR_BUF_CFG_GRP n.val)) = true ∧
          ∀ i : Fin 16, ∀ k : Fin 4, (t.reg (Reg.KNR_DATA n.val i.val)).extractLsb' (8 * k.val) 8 =
            g.payload[4 * i.val + k.val]?.getD 0)) ∧
    (st < 4 → exec .turnMark s = .next s) ∧
    (2 ≤ st → s.mode.request = none →
      let own : Int := 0
      let values := (if s.knr.ownSync = true then putDev (s.f Fld.KNR_CFG3_SBKT) 0 own
        (s.knr.devs.filter (fun d => d.place != s.f Fld.KNR_CFG3_SBKT)) else s.knr.devs).take 15 |>.map Deviation.value
      let others := s.knr.devs ≠ []
      let off : Int := if others then midpoint values else 0
      let big := max 1 (s.f Fld.KNR_SYNCCFG_OFFLIM) < off.natAbs
      let consistent := s.knr.sawSync = true ∧ s.knr.turnBad = false ∧ ¬ big
      let used : Int := if st = 6 ∧ ¬ consistent then 0 else off
      let rc := if turn % 2 = 1 then s.knr.rc + (s.knr.acc + used).tdiv 2 else s.knr.rc
      let acc := if turn % 2 = 1 then 0 else s.knr.acc + used
      let lost := big ∨ max 1 (s.f Fld.KNR_SYNCCFG_RATELIM) < rc.natAbs ∨ ¬ others ∧ 1 ≤ s.knr.miss
      let f16 (z : Int) : Nat := (BitVec.ofInt 16 (max (-32768) (min 32767 z))).toNat
      ∃ t, exec .correctionGap s = .next t ∧ t.mem = s.mem ∧ t.engs = s.engs ∧
        t.f Fld.KNR_TIME_TURN = (turn + 1) % 64 ∧ t.f Fld.KNR_CORR_OFF = f16 off ∧ t.knr.devs = [] ∧
        t.f Fld.KNR_CNT_SPREJ = s.f Fld.KNR_CNT_SPREJ ∧
        (st = 4 ∨ st = 5 → lost → t.f Fld.KNR_STAT_STATE = 6 ∧ t.f Fld.KNR_STAT_KSYNC = 0 ∧ t.knr.rc = s.knr.rc ∧
          t.knr.acc = 0 ∧ t.f Fld.KNR_ERRCNT_SYNCLOSS = min 255 (s.f Fld.KNR_ERRCNT_SYNCLOSS + 1)) ∧
        (st = 4 ∨ st = 5 → ¬ lost → t.knr.rc = rc ∧ t.f Fld.KNR_CORR_RATE = f16 rc ∧
          t.knr.acc = acc ∧ (st = 4 → t.f Fld.KNR_STAT_STATE = 4) ∧
          (st = 5 → s.f Fld.KNR_CTL_LISTENONLY = 1 → t.f Fld.KNR_STAT_STATE = 5)) ∧
        (st = 6 → ¬ big → t.knr.rc = rc ∧ t.knr.acc = acc) ∧
        (st = 3 → ¬ consistent → t.f Fld.KNR_STAT_STATE = 1) ∧
        (st = 3 → consistent → s.knr.consist = 0 → t.f Fld.KNR_STAT_STATE = 3 ∧ t.f Fld.KNR_STAT_KSYNC = 1) ∧
        (st = 3 → consistent → 1 ≤ s.knr.consist → t.isPending 132 = true ∧ t.f Fld.KNR_STAT_KSYNC = 1 ∧
          t.f Fld.KNR_STAT_STATE = if s.f Fld.KNR_CTL_LISTENONLY = 1 then 5 else 4) ∧
        (st = 2 → consistent → others → 1 ≤ s.knr.consist → t.f Fld.KNR_STAT_STATE = 4 ∧ t.isPending 132 = true) ∧
        (st = 2 → ¬ (consistent ∧ others) → 7 ≤ s.knr.coldTurns → t.f Fld.KNR_STAT_STATE = 1 ∧
          t.f Fld.KNR_CNT_COLDCNT = min 255 (s.f Fld.KNR_CNT_COLDCNT + 1)) ∧
        (st = 6 → s.knr.holdTurns + 1 < s.f Fld.KNR_SYNCCFG_HOLDMAX → consistent → 1 ≤ s.knr.consist →
          t.f Fld.KNR_STAT_STATE = 5 ∧ t.f Fld.KNR_STAT_PCAUSE = 3) ∧
        (st = 6 → s.f Fld.KNR_SYNCCFG_HOLDMAX ≤ s.knr.holdTurns + 1 → t.f Fld.KNR_STAT_STATE = 1)) ∧
    (st < 2 → exec .correctionGap s = .next s) ∧
    (∀ (heard : Bool) (ended : Int), 2 ≤ st → s.knr.spillC ≤ 255 →
      let c := s.knr.spillC
      let stop := s.f Fld.KNR_CFG0_TL - s.f Fld.KNR_CFG2_CGAP
      let step (t : Nat) : Nat := t + s.f Fld.KNR_CFG2_SSTEP
      -- instants in eighths of a nanosecond after the start of the engine's turn
      let gm : Int := 2000 * (s.f Fld.KNR_WEIR_GM + 1)
      let begins : Int := 125 * (s.macroAt s.knr.spillT + 64)
      let fits (x : SpillEntry) : Prop := begins + s.tFrame x.len + gm ≤ 125 * s.macroAt stop
      let counted (t : Nat) : State := s.updKnr (fun x => { x with spillC := c + 1, spillT := t })
      (stop ≤ s.knr.spillT → exec (.spillStep heard ended) s = .next s) ∧
      (s.knr.spillT < stop → st ≠ 4 ∨ (∀ x ∈ s.knr.queue, x.elig = false ∨ x.id ≠ c) ∨
          (∃ x r, s.knr.queue = x :: r ∧ x.elig = true ∧ x.id = c ∧ ¬ fits x) →
        exec (.spillStep heard ended) s =
          .next (counted (step (if heard = true then s.macroFrom ended else s.knr.spillT)))) ∧
      (∀ (x : SpillEntry) (r : List SpillEntry), s.knr.spillT < stop → st = 4 → s.f Fld.KNR_CTL_LISTENONLY = 0 →
        s.whd.phase = .awake → s.knr.queue = x :: r → x.elig = true → x.id = c → fits x →
        ∃ t, exec (.spillStep heard ended) s = .next t ∧ t = { s with knr := t.knr, sent := t.sent } ∧
          t.knr.spillC = c + 1 ∧ (t.knr.sending.map (fun y => (y.place, y.kind))) = some (c, .spill) ∧
          t.knr.queue = s.knr.queue ∧
          t.knr.spillT = step (s.macroFrom (s.macroAt s.knr.spillT + 64 + ((s.tFrame x.len + 124) / 125 : Nat))) ∧
          (s.f Fld.KNR_STAT_WALIGN = 0 ∨ s.f Fld.KNR_WEIR_SPMAX ≤ s.knr.spillSent → t.sent = s.sent) ∧
          (let at_ := begins + 125 * s.knr.wOff
           s.f Fld.KNR_STAT_WALIGN = 1 → s.knr.spillSent < s.f Fld.KNR_WEIR_SPMAX →
            8000 * (s.f Fld.KNR_CFG1_NB * s.f Fld.KNR_CFG1_BL) + gm ≤ at_ → at_ < 8000 * stop - gm →
            t.knr.spillSent = s.knr.spillSent + 1 ∧
            t.sent.length = s.sent.length + (chans2.filter s.chEn).length)))

/-! ### Leats, lead and failover (chapter 15) -/

/-- R353 to R357, R370, R373: the wires of a Leat, its fall and its rise by the STATUS tokens that arrive, and the
tokens that are held and relayed. -/
def Obligations.LeatTokens : Prop :=
  ∀ (i : Fin 2) (s : State), s.live = true → s.f Fld.PROT_SEAL_SEALED = 1 → s.whd.phase = .awake →
    s.leatExists i = true →
    let peer := s.peerAt i
    let other : Fin 2 := if i = 0 then 1 else 0
    let upF : Field := if i = 0 then Fld.LEAT_LINK_UP0 else Fld.LEAT_LINK_UP1
    let spareF : Field := if i = 0 then Fld.LEAT_LINK_SPARE0 else Fld.LEAT_LINK_SPARE1
    let up := s.f upF = 1
    let kept (t : State) : Prop := t.mem = s.mem ∧ t.engs = s.engs ∧ t.brg = s.brg ∧ t.md = s.md
    let falls (t : State) : Prop := t.f upF = 0 ∧ (up → t.isPending (164 + i.val) = true ∧
      t.f Fld.LEAT_LINK_DOWNCNT = min 255 (s.f Fld.LEAT_LINK_DOWNCNT + 1))
    let relayed (l : Lane) : Prop := up ∧ s.leatUp other = true ∧ l ≠ s.lane ∧ l ≠ s.peerAt other
    (∀ w : Fin 4, (s.f spareF = 0 → ∃ t, exec (.leatWireReplace i w) s = .next t ∧ kept t ∧ t.f spareF = 1 ∧
        t.isPending 166 = true ∧ t.f upF = s.f upF ∧ t.leat = s.leat ∧
        t.plb.log.wires = s.plb.log.wires ++ [(i, w)] ∧
        (s.cisFree = true → s.plb.due = [] → t.plb.wearSeq = s.plb.wearSeq + 1)) ∧
      (s.f spareF = 1 → ∃ t, exec (.leatWireReplace i w) s = .next t ∧ kept t ∧ falls t ∧
        t.leat.ends[i.val].wiresOk = false ∧ t.cis = s.cis)) ∧
    (∃ t, exec .statusSend s = .next t ∧
      t = { s with sent := t.sent, leat := { s.leat with
        ownHeld := (s.heldMask :: s.leat.ownHeld).take 2, ownElig := some s.eligible } } ∧
      t.sent = s.sent ++ (([0, 1] : List (Fin 2)).filter s.leatExists).map (fun j => .status j s.ownStatus) ∧
      s.ownStatus.lane = s.lane ∧ s.ownStatus.mode.toNat = s.md ∧ s.ownStatus.role.toNat = s.f Fld.SYS_MODE_ROLE ∧
      (s.ownStatus.rxOk0 = true ↔ s.leat.ends[0].heard = true ∧ s.leat.ends[0].wiresOk = true)) ∧
    (∀ tok : StatusTok,
      let ok := (if i = 0 then tok.rxOk1 else tok.rxOk0) = true ∧ s.leat.ends[i.val].wiresOk = true
      (tok.lane ≠ peer → exec (.statusToken i tok) s = .next s) ∧
      (tok.lane = peer → ∃ t, exec (.statusToken i tok) s = .next t ∧ kept t ∧ (t.peer peer).status = some tok ∧
        t.leat.ends[i.val].heard = true ∧
        (¬ ok → falls t ∧ t.leat.ends[i.val].good = 0) ∧
        (ok → up → t.f upF = 1) ∧
        (ok → ¬ up → s.leat.ends[i.val].good < 9 → t.f upF = 0 ∧
          t.leat.ends[i.val].good = s.leat.ends[i.val].good + 1) ∧
        (ok → ¬ up → s.leat.ends[i.val].good = 9 → t.f upF = 1 ∧ t.f (Fld.CAT_CNT_NOW (164 + i.val)) = 0 ∧
          ∃ v, Sent.version i v ∈ t.sent))) ∧
    (∃ t, exec (.leatStatusTimeout i) s = .next t ∧ kept t ∧ falls t ∧ t.leat.ends[i.val].heard = false) ∧
    (∀ tok : VersionTok, up → tok.lane ≠ s.lane →
      let own := s.versionTok
      let same := own.version = tok.version ∧ own.hash = tok.hash ∧ tok.trial = false ∧ own.trial = false
      ∃ t, exec (.versionToken i tok) s = .next t ∧ kept t ∧ (t.peer tok.lane).version = some tok ∧
        t.isPending 167 = true ∧ (t.f Fld.CIS_VERCMP_SEEN).testBit (laneIdx tok.lane).val = true ∧
        ((t.f Fld.CIS_VERCMP_EQ).testBit (laneIdx tok.lane).val = true ↔ same) ∧
        (t.sent = s.sent ++ if relayed tok.lane then [.version other tok] else [])) ∧
    (∀ (tok : FormTok) (f : Formation), up → tok.lead ≠ s.lane → s.mode.forming = some f →
      let marked : Formation := { f with token := f.token || (f.lead == tok.lead && f.tgt == tok.tgt) }
      ∃ t, exec (.formToken i tok) s = .next t ∧ t = { s with mode := t.mode, sent := t.sent } ∧
        t.mode = { s.mode with forming := some marked } ∧
        t.sent = s.sent ++ if relayed tok.lead then [.form other tok] else []) ∧
    (∀ tok : DepartTok, up → tok.lane ≠ s.lane →
      let held (t : State) : Prop := kept t ∧ (t.peer tok.lane).leaving = some tok ∧
        (∀ b : Fin 5, (t.peer tok.lane).shorted.getLsbD b = (s.motor b && s.legMask b != 0 &&
          (tok.states.toNat / 8 ^ b.val % 8 == 2 || tok.states.toNat / 8 ^ b.val % 8 == 3))) ∧
        ((s.peer tok.lane).leaving ≠ some tok → (t.peer tok.lane).eligs = some s.eligMask) ∧
        (∀ l, l ≠ tok.lane → t.peer l = s.peer l)
      (∃ t, exec (.resignToken i tok) s = .next t ∧ held t ∧ t.isPending 162 = true ∧
        t.sent = s.sent ++ if relayed tok.lane then [.resign other tok] else []) ∧
      (∃ t, exec (.leaveToken i tok) s = .next t ∧ held t ∧
        t.sent = s.sent ++ if relayed tok.lane then [.leave other tok] else [])) ∧
    (∀ tok : VerdictTok, up → tok.lane ≠ s.lane → tok ∉ s.leat.verdicts →
      (s.f Fld.SYS_MODE_ROLE ≠ 3 ∨ tok.result ≠ 2 → s.bothMismatch tok.turnno = false →
        ∃ t, exec (.verdictToken i tok) s = .next t ∧ kept t ∧
          t.leat.verdicts = (tok :: s.leat.verdicts).take 16 ∧
          (t.peer tok.lane).cleanRun = (if tok.result = 1 then (s.peer tok.lane).cleanRun + 1 else 0) ∧
          t.f Fld.LEAT_CNT_MISVERD = (if tok.result = 2 then min 255 (s.f Fld.LEAT_CNT_MISVERD + 1)
            else s.f Fld.LEAT_CNT_MISVERD)) ∧
      (s.f Fld.SYS_MODE_ROLE = 3 → s.md = mTRIPLEX → s.mode.window = none → tok.result = 2 →
        (∀ l, l ≠ s.lane → l ≠ tok.lane → ⟨l, tok.turnno, 2⟩ ∈ s.leat.verdicts.take 15) →
        ∃ t, exec (.verdictToken i tok) s = .next t ∧ t.mode.window = some .resign ∧
          t.f Fld.SYS_MODE_ROLE = 0))

/-- R357, R364 to R366, R369 to R371, R381: the copy window of a lead, the block that it sends, the block that a follower
takes and the one that any lane forwards, and shadow comparison. -/
def Obligations.StateCopies : Prop :=
  ∀ s : State, s.live = true → s.f Fld.PROT_SEAL_SEALED = 1 → s.whd.phase = .awake → s.f Fld.LEAT_CFG_EN = 1 →
    let role := s.f Fld.SYS_MODE_ROLE
    let a := 4 * s.f Fld.LEAT_TXADDR_ADDR
    let inlen := s.mem.read (a + 0x10) 4
    let stlen := s.mem.read (a + 0x14) 4
    let outlen := s.mem.read (a + 0x18) 4
    let len := inlen + stlen + outlen
    let win := max 20 (min 150 (s.f Fld.LEAT_CFG_WIN))
    let fits := 0x10000000 ≤ a ∧ a < 0x10240000 ∧ inlen % 4 = 0 ∧ stlen % 4 = 0 ∧ outlen % 4 = 0 ∧ len ≤ 16384 ∧
      103 * (250 + 68 + len) ≤ 12500 * win
    let kept (t : State) : Prop := t.engs = s.engs ∧ t.brg = s.brg ∧ t.md = s.md ∧
      t.f Fld.SYS_MODE_ROLE = role
    let other (i : Fin 2) : Fin 2 := if i = 0 then 1 else 0
    let ups : List (Fin 2) := ([0, 1] : List (Fin 2)).filter s.leatUp
    let clean (t : State) : Prop := kept t ∧ t.mem = s.mem ∧ t.leat.windowOpen = true ∧ t.f Fld.LEAT_TXCTL_READY = 0
    (4 ≤ s.f Fld.KNR_STAT_STATE → role = 3 →
      (s.f Fld.LEAT_TXCTL_READY = 1 → fits → ∃ t, exec .copyWindowOpen s = .next t ∧ clean t ∧
        t.f Fld.LEAT_TXCTL_SENT = 1 ∧ t.f Fld.LEAT_TXCTL_BUSY = 1 ∧ t.f Fld.LEAT_TXCTL_MISS = 0 ∧
        t.sent = s.sent ++ ups.map (fun i => .copy i (s.block a false))) ∧
      (s.f Fld.LEAT_TXCTL_READY = 0 ∨ ¬ fits → ∃ t, exec .copyWindowOpen s = .next t ∧ clean t ∧ t.sent = s.sent ∧
        t.f Fld.LEAT_TXCTL_SENT = 0 ∧ t.f Fld.LEAT_TXCTL_NOTREADY = 1 - s.f Fld.LEAT_TXCTL_READY ∧
        t.f Fld.LEAT_TXCTL_TOOLONG = s.f Fld.LEAT_TXCTL_READY ∧
        t.f Fld.LEAT_TXCTL_MISS = min 3 (s.f Fld.LEAT_TXCTL_MISS + 1))) ∧
    (4 ≤ s.f Fld.KNR_STAT_STATE → role = 2 → s.mode.forming = none → s.f Fld.LEAT_RXSTAT_FRESH = 1 →
      s.leat.goDone = false → ∃ t, exec .copyWindowOpen s = .next t ∧ clean t ∧ t.f Fld.LEAT_SHSTAT_RESULT = 3) ∧
    Effect .copyBlockSent s s [(Fld.LEAT_TXCTL_BUSY, 0)] ∧
    (fits → ∀ r : State, r.f Fld.LEAT_ROLE_LEAD = laneCode s.lane → r.reg Reg.LEAT_TURNNO = s.reg Reg.LEAT_TURNNO →
      r.cis = s.cis → r.f Fld.CIS_BOOTSTAT_RUNSLOT = s.f Fld.CIS_BOOTSTAT_RUNSLOT →
      blockCrcOk (s.block a false) = true ∧ r.blockFits (s.block a false) false false = true) ∧
    (∀ (i : Fin 2) (block : List Byte) (cut : Bool) (tok : StatusTok), s.leatUp i = true → s.leat.windowOpen = false →
      blockNum block 6 1 = laneCode (s.peerAt i) → s.leatUp (other i) = true →
      (s.peer (s.peerAt (other i))).status = some tok → (if i = 0 then tok.rxOk1 else tok.rxOk0) = false →
      Effect (.copyBlockReceived i block cut) s { s with sent := s.sent ++ [.copy (other i) block] }
        [(Fld.LEAT_CNT_RELAYED, min 255 (s.f Fld.LEAT_CNT_RELAYED + 1))]) ∧
    (∀ (i : Fin 2) (block : List Byte), s.leatUp i = true → s.leat.windowOpen = true → role = 2 →
      block.length ≤ 16452 →
      let n := if s.f Fld.LEAT_RXSTAT_HELD = 1 then 1 - s.f Fld.LEAT_RXSTAT_CUR else 0
      let at_ := 4 * s.f (Fld.LEAT_RXADDR_ADDR n)
      0x10000000 ≤ at_ → at_ + block.length ≤ 0x10240000 →
      let stored (t : State) : Prop := kept t ∧ ∀ x, t.mem.byte x =
        if at_ ≤ x ∧ x < at_ + block.length then block[x - at_]?.getD 0 else s.mem.byte x
      (∃ t, exec (.copyBlockReceived i block true) s = .next t ∧ stored t ∧ t.leat.blockIn = s.leat.blockIn ∧
        t.f Fld.LEAT_RXSTAT_CRCERR = s.f Fld.LEAT_RXSTAT_CRCERR) ∧
      (blockCrcOk block = false → ∃ t, exec (.copyBlockReceived i block false) s = .next t ∧ stored t ∧
        t.leat.blockIn = s.leat.blockIn ∧ t.f Fld.LEAT_RXSTAT_CRCERR = min 255 (s.f Fld.LEAT_RXSTAT_CRCERR + 1)) ∧
      (blockCrcOk block = true → s.mode.forming = none → s.f Fld.LEAT_JOIN_STAGE = 0 →
        s.blockFits block false false = true → ∃ t, exec (.copyBlockReceived i block false) s = .next t ∧ stored t ∧
          t.leat.blockIn = some n ∧ t.f Fld.LEAT_RXSTAT_CRCERR = s.f Fld.LEAT_RXSTAT_CRCERR)) ∧
    (∀ e : Engine, Passes s e Reg.LEAT_SHCTL →
      (role = 0 ∨ role = 3 ∨ s.f Fld.LEAT_SHSTAT_BUSY = 1 → exec (.shadowCompare e 1) s = .next s) ∧
      (role = 2 → s.f Fld.LEAT_SHSTAT_BUSY = 0 → s.f Fld.LEAT_RXSTAT_FRESH = 1 → s.f Fld.LEAT_RXSTAT_PREV = 1 →
        let l : LeatState := { s.leat with goDone := true, shCompare := some s.shadowFind }
        Effect (.shadowCompare e 1) s { s with leat := l } [(Fld.LEAT_SHSTAT_BUSY, 1)]) ∧
      (role = 2 → s.f Fld.LEAT_SHSTAT_BUSY = 0 → s.f Fld.LEAT_RXSTAT_FRESH = 0 ∨ s.f Fld.LEAT_RXSTAT_PREV = 0 →
        ∃ t, exec (.shadowCompare e 1) s = .next t ∧ kept t ∧ t.mem = s.mem ∧ t.f Fld.LEAT_SHSTAT_RESULT = 3 ∧
          t.f Fld.LEAT_SHSTAT_CONS = s.f Fld.LEAT_SHSTAT_CONS ∧
          t.sent = s.sent ++ ups.map (fun i => .verdict i ⟨s.lane, s.copyTurn, 3⟩))) ∧
    (∀ (r : BitVec 2) (first : Nat), s.leat.shCompare = some (r, first) → first < 4096 →
      ∃ t, exec .shadowCompareDone s = .next t ∧ t.engs = s.engs ∧ t.mem = s.mem ∧ t.md = s.md ∧
        t.f Fld.LEAT_SHSTAT_BUSY = 0 ∧ t.f Fld.LEAT_SHSTAT_RESULT = r.toNat ∧ t.f Fld.LEAT_SHSTAT_FIRST = first ∧
        t.sent = s.sent ++ ups.map (fun i => .verdict i ⟨s.lane, s.copyTurn, r⟩) ∧
        (r = 1 → t.f Fld.LEAT_SHSTAT_CONS = 0 ∧
          (role = 2 → t.f Fld.LEAT_ROLE_CLEAN = min 65535 (s.f Fld.LEAT_ROLE_CLEAN + 1))) ∧
        (r = 2 → t.isPending 163 = true ∧ (role = 2 → t.f Fld.LEAT_ROLE_CLEAN = 0) ∧
          (s.leat.verdicts = [] → t.f Fld.LEAT_SHSTAT_CONS = min 255 (s.f Fld.LEAT_SHSTAT_CONS + 1))))

/-- R371 to R376, R381, R392: the isolation rule, implicit resignation, resigning and yielding by software, the end of
the record window, and a handover of the lead. R25, R29, R373, R376, R377: at the target turn mark of a departed
lead the next eligible follower takes the lead, and the mode follows the lanes that drive on. -/
def Obligations.DeparturesAndHandover : Prop :=
 (∀ s : State, s.live = true → s.f Fld.PROT_SEAL_SEALED = 1 → s.whd.phase = .awake →
    let role := s.f Fld.SYS_MODE_ROLE
    let resigned (t : State) : Prop := t.mode.window = some .resign ∧ t.f Fld.SYS_MODE_ROLE = 0 ∧ t.md = s.md ∧
      t.mem = s.mem ∧ t.engs = s.engs ∧ t.mode.request = none ∧
      ∀ b : Fin 5, if s.legMask b = 0 ∨ (s.bridge b).latch.held = true then (t.bridge b).latch = (s.bridge b).latch
        else (t.bridge b).latch.held = true ∧ (t.bridge b).latch.resign = true ∧
          (t.bridge b).latch.state = if s.motor b = true ∧ (s.pcfg b).getLsbD 1 = false then .lowerShort else .inert
    let driving (l : Lane) : Prop := l ≠ s.lane ∧ (s.peer l).driving = true
    let runs := (s.md = mTRIPLEX ∨ s.md = mDUPLEX ∨ s.md = mSAFEHOLD) ∧ 2 ≤ role
    -- a peer is recorded as lost by isolation; its role changes at a turn mark (R374, R379)
    let isolates (l : Lane) : Prop := ∃ t, exec .isolationCheck s = .next t ∧
      t = { s with leat := t.leat, regs := t.regs, free := t.free } ∧ (t.peer l).driving = true ∧
      ((t.peer l).byIsol = some (BitVec.ofNat 6 s.nextMark) ∨
        (t.peer l).byIsol = some (BitVec.ofNat 6 (s.nextMark + 1))) ∧
      t.f (Fld.LEAT_PEER_LOST (laneIdx l)) = 1 ∧ t.f (Fld.LEAT_PEER_HOW (laneIdx l)) = 2 ∧
      ∀ b : Fin 5, (t.peer l).shorted.getLsbD b = (s.motor b && !(s.pcfg b).getLsbD 1)
    (runs → s.mode.window = none →
      ((∀ l, driving l → s.connected l = true) → exec .isolationCheck s = .next s) ∧
      ((∀ l, l ≠ s.lane → driving l ∧ s.connected l = false) → ∃ t, exec .isolationCheck s = .next t ∧ resigned t ∧
        t.f Fld.LEAT_LINK_ISOL = 1) ∧
      (∀ l, driving l → (∀ l', driving l' → l' = l) → s.connected l = false →
        (role = 3 → (s.peer l).byIsol = none → isolates l) ∧
        (role = 2 → ∃ t, exec .isolationCheck s = .next t ∧ resigned t ∧ t.f Fld.LEAT_LINK_ISOL = 1)) ∧
      (∀ l m, driving l → driving m → s.connected l = false → s.connected m = true → (s.peer l).byIsol = none →
        isolates l)) ∧
    (∀ l : Lane, runs → role = 2 → s.f Fld.LEAT_ROLE_LEAD = laneCode l → l ≠ s.lane → (s.peer l).leaving = none →
      (s.peer l).byIsol = none → (s.peer l).implicit = false →
      (s.f Fld.LEAT_RXSTAT_FRESH = 0 → (s.peer l).frameSeen = false → (s.peer l).framePrev = false →
        Effect .implicitResignCheck s (s.updPeer l (fun p => { p with implicit := true, eligs := p.eligs.or (some s.eligMask) }))
          [(Fld.LEAT_CNT_IMPLICIT, min 255 (s.f Fld.LEAT_CNT_IMPLICIT + 1))]) ∧
      (s.f Fld.LEAT_RXSTAT_FRESH = 1 ∨ (s.peer l).frameSeen = true ∨ (s.peer l).framePrev = true →
        exec .implicitResignCheck s = .next s)) ∧
    (∀ (e : Engine) (key : BitVec 16), Passes s e Reg.LEAT_RESIGN → s.super e = true →
      let taken := (e = .msp0 ∨ e = .miller) ∧ key = 0x6E2A ∧ 2 ≤ role
      (¬ taken → exec (.leatResignFault e key) s = .next s ∧ exec (.leatResignYield e key) s = .next s) ∧
      (taken → s.md = mTRIPLEX ∨ s.md = mDUPLEX ∨ s.md = mSAFEHOLD → s.mode.window = none →
        ∃ t, exec (.leatResignFault e key) s = .next t ∧ resigned t) ∧
      (taken → role = 2 → exec (.leatResignYield e key) s = .next s) ∧
      (taken → role = 3 → s.otherEligible = true → s.leat.leaving = none →
        ∃ t, exec (.leatResignYield e key) s = .next t ∧ t = { s with sent := t.sent, leat := t.leat, free := t.free } ∧
          ∃ tok : DepartTok, tok.lane = s.lane ∧ tok.kind = .yield ∧ tok.states = s.bridgeStates ∧
            (tok.tgt = BitVec.ofNat 6 s.nextMark ∨ tok.tgt = BitVec.ofNat 6 (s.nextMark + 1)) ∧
            t.leat.leaving = some tok ∧ t.sent = s.sent ++ (([0, 1] : List (Fin 2)).filter s.leatUp).map (fun i => .resign i tok))) ∧
    (∀ (e : Engine) (key : BitVec 16), Closed s e → s.canIssue e = true → s.super e = false →
      Raises (.leatResignFault e key) s e ⟨2, 3, some (BitVec.ofNat 32 Reg.LEAT_RESIGN), 0⟩ ∧
      Raises (.leatResignYield e key) s e ⟨2, 3, some (BitVec.ofNat 32 Reg.LEAT_RESIGN), 0⟩) ∧
    (∀ (e : Engine) (v : Word), Passes s e Reg.LEAT_RRACK →
      (e = .miller → v.toNat / 65536 = 0x91D3 → s.f Fld.MSP_MMSTAT_VALID = 0 → s.mode.window = some .resign →
        s.rst.asserted = none → ∃ t, exec (.leatRrack e v) s = .next t ∧ t.rst.asserted = some .resign ∧
          (∀ f, t.eng f = {}) ∧ ∀ b : Fin 5, (s.bridge b).latch.held = true →
            (t.bridge b).latch = (s.bridge b).latch) ∧
      (e ≠ .miller ∨ v.toNat / 65536 ≠ 0x91D3 ∨ s.mode.window = none →
        exec (.leatRrack e v) s = .next s)) ∧
    (s.mode.window = some .resign → s.rst.asserted = none → ∃ t, exec .recordWindowTimeout s = .next t ∧
      t.rst.asserted = some .resign ∧ ∀ f, t.eng f = {}) ∧
    (s.mode.window = none → exec .recordWindowTimeout s = .next s) ∧
    (s.f Fld.LEAT_JOIN_STAGE = 4 → Effect .rampComplete s s
      [(Fld.LEAT_JOIN_STAGE, 5), (Fld.LEAT_JOIN_CNT, 0), (Fld.SYS_MODE_JOINING, 1)]) ∧
    (s.f Fld.LEAT_JOIN_STAGE ≠ 4 → exec .rampComplete s = .next s)) ∧
 (∀ (s : State) (p q : Lane) (tok : DepartTok) (tq : StatusTok) (elig : BitVec 3), s.live = true → s.md = mTRIPLEX →
    s.f Fld.KNR_STAT_STATE = 4 → s.mode.window = none → s.mode.deferred = false → s.mode.stopDone = false →
    s.mode.request = none → s.mode.forming = none → s.f Fld.SYS_MODE_STOPPING = 0 → s.stopDem = false →
    s.f Fld.SYS_MODE_ROLE = 2 → s.f Fld.LEAT_JOIN_STAGE = 0 → s.leat.leaving = none → s.leat.leaveDue = none →
    p ≠ s.lane → q ≠ s.lane → p ≠ q → s.lead = some p → (s.after p).head? = some s.lane → s.eligible = true →
    (s.peer p).eligs = some elig → elig.getLsbD (laneIdx s.lane).val = true →
    (s.peer p).driving = true → (s.peer p).leaving = some tok → tok.kind ≠ .yield →
    tok.tgt.toNat = s.nextMark % 64 →
    (s.peer q).driving = true → (s.peer q).leaving = none → (s.peer q).byIsol = none →
    (s.peer q).implicit = false → (s.peer q).status = some tq → tq.role = 2 → tq.stopping = false → tq.unread = 0 →
    (∀ tp, (s.peer p).status = some tp → tp.stopping = false) →
    ∃ t, exec .turnMark s = .next t ∧ t.f Fld.SYS_MODE_ROLE = 3 ∧ t.lead = some s.lane ∧ t.md = mDUPLEX ∧
      t.f Fld.SYS_MODE_CAUSE = 0x20 ∧ t.f Fld.SYS_MODE_PREV = mTRIPLEX ∧ t.f Fld.SYS_MODE_STOPPING = 0 ∧
      t.f Fld.LEAT_CNT_HANDOVER = min 255 (s.f Fld.LEAT_CNT_HANDOVER + 1) ∧ (t.peer p).driving = false ∧
      (t.peer p).lost = true ∧ (t.peer q).driving = true ∧ t.isPending 168 = true)

/-! ### The safe wires (chapter 16) -/

/-- R393 to R395, R397, R398, R400, R405: readings, latches and counts of the safe inputs, discrepancy, a stop demand
that no turn mark comes to, the SACK level and a readback fault. R399 to R404: acknowledges and what they clear, a
stuck SACK, and what OK, PARKED and the safe outputs are. -/
def Obligations.SafeWires : Prop :=
 (∀ s : State, s.live = true → s.rst.porHold = false → s.f Fld.PROT_SEAL_SEALED = 1 →
    let bitOf (x : Field) (i : Nat) : Field := { addr := x.addr, lo := x.lo + i, w := 1 }
    let used (i : Fin 4) := s.f (bitOf Fld.SAFE_CFG_USE i.val) = 1
    let stops (i : Fin 4) := used i ∧ s.f (bitOf Fld.SAFE_CFG_PARK i.val) = 0
    (∀ (i : Fin 4) (a b : Bool), s.safe.levels[2 * i.val] = some a → s.safe.levels[2 * i.val + 1] = some b →
      s.pairRead i = some (if a = b then .equal else if a = true then .normal else .demand)) ∧
    (∀ (line : Fin 9) (level : Bool), line.val < 8 →
      let i := pairOf line
      let u : State := { s with safe := { s.safe with levels := s.safe.levels.set line (some level) } }
      (¬ used i ∨ u.pairRead i = some .equal ∨ u.pairRead i = none →
        exec (.safeLineChange line level) s = .next u) ∧
      (∀ d : Bool, used i → u.pairRead i = some (if d = true then .demand else .normal) →
        let comes := d = true ∧ stops i ∧ s.pairRead i ≠ some .demand
        ∃ t, exec (.safeLineChange line level) s = .next t ∧ t = { s with regs := t.regs, safe := t.safe } ∧
          t.safe.levels = u.safe.levels ∧ t.safe.last = s.safe.last.set i.val (some d) ∧
          t.safe.measuring = s.safe.measuring ∧
          (comes → s.stopDem = false → t.safe.stopPend = true) ∧
          (¬ comes ∨ s.stopDem = true → t.safe.stopPend = s.safe.stopPend) ∧
          (∀ fs, (comes ∧ s.f (bitOf Fld.SAFE_STAT_LATCH i.val) = 0 ∧ fs = [(bitOf Fld.SAFE_STAT_LATCH i.val, 1),
                (Fld.SAFE_CNT_DEMCNT, min 255 (s.f Fld.SAFE_CNT_DEMCNT + 1))]) ∨
              (¬ (comes ∧ s.f (bitOf Fld.SAFE_STAT_LATCH i.val) = 0) ∧ fs = []) →
            RegsAre s t (fs ++ if s.safe.last[i.val] = some (!d) then raised s (176 + i.val) else [])))) ∧
    (∀ level : Bool,
      let was := s.safe.levels[8]
      let u (m : Bool) : State :=
        { s with safe := { s.safe with levels := s.safe.levels.set 8 (some level), measuring := m } };
      (level = true → exec (.safeLineChange 8 level) s =
        .next (u (if was = some true then s.safe.measuring else true))) ∧
      (level = false → s.f Fld.SAFE_STAT_ACK_STUCK = 1 → Effect (.safeLineChange 8 level) s (u false)
        ((Fld.SAFE_STAT_ACK_STUCK, 0) :: levelled 185 false)) ∧
      (level = false → s.f Fld.SAFE_STAT_ACK_STUCK = 0 → s.safe.measuring = true →
        Effect (.safeLineChange 8 level) s (u false)
          [(Fld.SAFE_CNT_REJACK, min 255 (s.f Fld.SAFE_CNT_REJACK + 1))])) ∧
    (∀ i : Fin 4, let faulty := used i ∧ s.pairRead i = some .equal ∧ s.f (bitOf Fld.SAFE_STAT_DISCF i.val) = 0;
      (faulty → Effect (.discrepancyFault i) s s ((bitOf Fld.SAFE_STAT_DISCF i.val, 1) ::
        (Fld.SAFE_CNT_DISCCNT, min 255 (s.f Fld.SAFE_CNT_DISCCNT + 1)) :: levelled (180 + i.val) true)) ∧
      (¬ faulty → exec (.discrepancyFault i) s = .next s)) ∧
    (let acted : State := { s with safe := { s.safe with stopPend := false } };
      (s.stopDem = false ∨ s.safe.stopPend = false → exec .stopDemandTimeout s = .next s) ∧
      (s.stopDem = true → s.safe.stopPend = true → s.mode.request ≠ some 6 →
        (s.inRun = true → s.f Fld.SYS_MODE_STOPPING = 0 → Effect .stopDemandTimeout s
          { acted with mode := { s.mode with stopDone := false } }
          [(Fld.SYS_MODE_SCAUSE, 1), (Fld.SYS_MODE_STOPPING, 1)]) ∧
        (s.inRun = true ∧ s.f Fld.SYS_MODE_STOPPING = 1 ∨ s.md = mREADY ∧ s.f Fld.SYS_MODE_JOINING = 1 ∨
          s.md = mSAFEHOLD ∨ s.md = mBOOT ∨ s.md = mCOMMISSION → exec .stopDemandTimeout s = .next acted) ∧
        (s.md = mREADY → s.f Fld.SYS_MODE_JOINING = 0 → ∃ t, exec .stopDemandTimeout s = .next t ∧
          t.md = mSAFEHOLD ∧ t.f Fld.SYS_MODE_CAUSE = 0x30 ∧ t.f Fld.SYS_MODE_PREV = mREADY ∧
          t.isPending 6 = true ∧ t.safe = acted.safe ∧ t.mem = s.mem ∧ t.engs = s.engs) ∧
        (s.md = mSERVICE → ∃ t, exec .stopDemandTimeout s = .next t ∧ t.md = mSERVICE ∧ t.safe = acted.safe ∧
          t.plb.selfTest = false ∧ t.f Fld.PLB_STAT_BUSY = 0 ∧ t.mem = s.mem ∧ t.engs = s.engs ∧
          ∀ b : Fin 5, t.f (Fld.BRG_CTL_RUN b) = 0 ∧ ∀ k, (t.leg b k).pwm = .inert))) ∧
    (∀ k : Fin 2, let faulty := s.f (bitOf Fld.SAFE_STAT_RBF k.val) = 0;
      (faulty → Effect (.readbackFault k) s s ((bitOf Fld.SAFE_STAT_RBF k.val, 1) :: levelled (186 + k.val) true)) ∧
      (¬ faulty → exec (.readbackFault k) s = .next s))) ∧
 ((∀ s : State, s.live = true → s.f Fld.PROT_SEAL_SEALED = 1 →
    let bitOf (x : Field) (i : Nat) : Field := { addr := x.addr, lo := x.lo + i, w := 1 }
    let high := s.safe.measuring = true ∧ s.safe.levels[8] = some true
    let low : State := { s with safe := { s.safe with measuring := false, levels := s.safe.levels.set 8 (some false) } }
    let rej := (Fld.SAFE_CNT_REJACK, min 255 (s.f Fld.SAFE_CNT_REJACK + 1))
    (∀ us : Nat, (¬ high → exec (.sackAcknowledge us) s = .next s) ∧
      (high → s.f Fld.SAFE_STAT_ACK_STUCK = 1 → Effect (.sackAcknowledge us) s low
        ((Fld.SAFE_STAT_ACK_STUCK, 0) :: levelled 185 false)) ∧
      (high → s.f Fld.SAFE_STAT_ACK_STUCK = 0 → us < 50000 → Effect (.sackAcknowledge us) s low [rej]) ∧
      (high → s.f Fld.SAFE_STAT_ACK_STUCK = 0 → 50000 ≤ us → us < 3000000 →
        (∀ k : Nat, k < 2 → s.f (bitOf Fld.SAFE_STAT_RBF k) = 0) →
        ∃ t, exec (.sackAcknowledge us) s = .next t ∧ t = { low with regs := t.regs, safe := t.safe } ∧
          t.safe = { low.safe with stopPend := t.stopDem && s.safe.stopPend } ∧
          RegsAre s t (raised s 184 ++ [(Fld.SAFE_STAT_ACKCNT, min 255 (s.f Fld.SAFE_STAT_ACKCNT + 1))] ++
            ([0, 1, 2, 3] : List (Fin 4)).flatMap (fun i =>
              let off := [(bitOf Fld.SAFE_STAT_DISCF i.val, 0), (Fld.CAT_CNT_NOW (180 + i.val), 0)]
              if s.f (bitOf Fld.SAFE_CFG_USE i.val) = 0 then []
              else if s.pairRead i = some .normal then (bitOf Fld.SAFE_STAT_LATCH i.val, 0) :: off
              else if s.pairRead i = some .demand then off else [])))) ∧
    (high → s.f Fld.SAFE_STAT_ACK_STUCK = 0 → Effect .ackStuck s s
      ((Fld.SAFE_STAT_ACK_STUCK, 1) :: rej :: levelled 185 true)) ∧
    (¬ high ∨ s.f Fld.SAFE_STAT_ACK_STUCK = 1 → exec .ackStuck s = .next s) ∧
    (let stop (i : Fin 4) := s.f (bitOf Fld.SAFE_CFG_USE i.val) = 1 ∧ s.f (bitOf Fld.SAFE_CFG_PARK i.val) = 0
     let park (i : Fin 4) := s.f (bitOf Fld.SAFE_CFG_USE i.val) = 1 ∧ s.f (bitOf Fld.SAFE_CFG_PARK i.val) = 1
     (s.stopDem = true ↔ ∃ i, stop i ∧ s.f (bitOf Fld.SAFE_STAT_LATCH i.val) = 1) ∧
     (s.safeOk = true ↔ (∃ i, stop i) ∧ ∀ i, stop i → s.pairRead i = some .normal ∧
       s.f (bitOf Fld.SAFE_STAT_LATCH i.val) = 0 ∧ s.f (bitOf Fld.SAFE_STAT_DISCF i.val) = 0) ∧
     (s.parked = true ↔ (∃ i, park i) ∧ ∀ i, park i → s.pairRead i = some .demand ∧
       s.f (bitOf Fld.SAFE_STAT_DISCF i.val) = 0) ∧
     ∀ k : Fin 2, s.outOn k = true ↔ s.f (bitOf Fld.SAFE_CFG_OUTUSE k.val) = 1 ∧
       s.f (bitOf Fld.SAFE_OUT_RUN k.val) = 1 ∧ s.f (bitOf Fld.SAFE_STAT_RBF k.val) = 0 ∧
       (s.f (bitOf Fld.SAFE_CFG_FOLLOW k.val) = 1 → s.stopDem = false ∧ s.f Fld.SYS_MODE_STOPPING = 0 ∧
         s.md ≠ mSAFEHOLD))) ∧
  (∀ (s : State) (e : Engine) (v : Word), Passes s e Reg.SAFE_OUT →
    Effect (.safeOutWrite e v) s s [(Fld.SAFE_OUT_RUN, v.toNat % 4)]) ∧
  (∀ (s : State) (e : Engine) (v : Word), Closed s e → s.canIssue e = true → s.permits e .wr Reg.SAFE_OUT = true →
    (∀ n, e ≠ .slu n) → e ≠ .msp0 → s.f Fld.PROT_SEAL_SEALED = 1 →
    Effect (.safeOutWrite e v) s s
      ((Fld.PROT_SEAL_VIOL, min 65535 (s.f Fld.PROT_SEAL_VIOL + 1)) :: raised s 10)))

/-! ### The Race port and CAN (chapter 17) -/

/-- R410, R411: a packet is its header, its second word, LEN payload words and the CRC word over them, and it is valid
only with a TYPE that R410 names, a LEN that this TYPE allows and that CRC. R407, R410: its words cross the pairs in
eight edges each, the low four bits first, the frame pair high through the header only, and what the receiver samples
at those edges is the packet. -/
def Obligations.RacePacketRoundTrip : Prop :=
  (∀ (ty tag seq : Nat) (w1 : Word) (payload : List Word), tag < 16 →
    (ty = 1 ∧ 1 ≤ payload.length ∧ payload.length ≤ 64 ∨ (ty = 2 ∨ ty = 3) ∧ payload.length ≤ 16 ∨
      (ty = 4 ∨ ty = 5) ∧ payload = []) →
    let ws := racePacket ty tag seq w1 payload
    packetValid ⟨ws, true, true⟩ = true ∧ raceType ws = ty ∧ raceLen ws = payload.length ∧
      raceSeq ws = seq % 65536 ∧ ws[1]? = some w1 ∧ racePayload ws = payload ∧ raceFix ws = false) ∧
  (∀ ws : List Word, raceRead (raceEdges ws) true = ⟨ws, true, true⟩ ∧ (raceEdges ws).length = 8 * ws.length ∧
    ∀ (k : Nat) (x : Bool × Nat), (raceEdges ws)[k]? = some x → (x.1 = true ↔ k < 8) ∧
      some x.2 = (ws[k / 8]?).map (fun w => w.toNat / 16 ^ (k % 8) % 16)) ∧
  (∀ p : RacePkt, packetValid p = true → p.frOk = true ∧ p.rckOk = true ∧
    p.words.length = raceLen p.words + 3 ∧ p.words.getLast? = some (raceCrc p.words.dropLast) ∧
    (raceType p.words = 1 ∧ 1 ≤ raceLen p.words ∧ raceLen p.words ≤ 64 ∨
      (raceType p.words = 2 ∨ raceType p.words = 3) ∧ raceLen p.words ≤ 16 ∨
      (raceType p.words = 4 ∨ raceType p.words = 5) ∧ raceLen p.words = 0))

/-- R411 to R417: packets that arrive on a link that is down and on one that is up, what they do, the buffers they hold
and the credits that they give back. R421: the boot ROM's services of the commissioning port, each answered by a
doorbell of thirteen words. -/
def Obligations.RaceInbound : Prop :=
 (∀ s : State, s.live = true → s.whd.phase = .awake → s.f Fld.RACE_CTL_EN = 1 → s.dip = false →
    let up := s.f Fld.RACE_STAT_UP = 1
    let kept (t : State) : Prop := t.engs = s.engs ∧ t.md = s.md ∧ t.brg = s.brg
    let down (t : State) : Prop := kept t ∧ t.mem = s.mem ∧ t.f Fld.RACE_STAT_UP = 0 ∧
      t.f Fld.RACE_STAT_CRAVAIL = 0 ∧ t.f Fld.RACE_STAT_RXFREE = 0 ∧ t.isPending 192 = true
    let run (c : RacePkt → Instr) (ts : List Nat) : Prop := ∀ p : RacePkt, raceType p.words ∈ ts →
      let ws := p.words
      (¬ up → packetValid p = false ∨ raceType ws ≠ 5 →
        exec (c p) s = .next { s with race := { s.race with syncRun := 0 } }) ∧
      (up → raceType ws ≠ 5 → 8 ≤ s.race.bufs.length + s.race.owed → ∃ t, exec (c p) s = .next t ∧ down t ∧
        t.f Fld.RACE_CNT_RXERR = min 255 (s.f Fld.RACE_CNT_RXERR + 1) ∧ t.race.bufs = s.race.bufs ∧
        t.sent = s.sent) ∧
      (up → raceType ws = 5 ∨ s.race.bufs.length + s.race.owed < 8 → packetValid p = false →
        let back := if raceType ws = 5 then [] else [Sent.credit 1]
        (s.race.badRun < 3 →
          Effect (c p) s { s with race := { s.race with badRun := s.race.badRun + 1 }, sent := s.sent ++ back }
            [(Fld.RACE_CNT_RXERR, min 255 (s.f Fld.RACE_CNT_RXERR + 1))]) ∧
        (3 ≤ s.race.badRun → ∃ t, exec (c p) s = .next t ∧ down t ∧ t.sent = s.sent ++ back ∧
          t.f Fld.RACE_CNT_RXERR = min 255 (s.f Fld.RACE_CNT_RXERR + 1))) ∧
      (up → raceType ws ≠ 5 → s.race.owed = 0 → packetValid p = true → s.race.bufs = [] →
        let held (t : State) (b : RaceBuf) : Prop := t.race.bufs = [b] ∧ t.race.badRun = 0 ∧ t.sent = s.sent ∧
          t.f Fld.RACE_STAT_LASTSEQ = raceSeq ws ∧ t.f Fld.RACE_STAT_RXFREE = 7 ∧ kept t
        let a := (ws.getD 1 0).toNat
        let to_ (k : Nat) : Nat := if raceFix ws = true then a else (a + 4 * k) % 2 ^ 32
        let window (x : Nat) : Prop := ∃ n : Nat, n < 4 ∧ s.f (Fld.PROT_RWIN_LIMIT_EN n) = 1 ∧
          s.f (Fld.PROT_RWIN_BASE_BASE n) ≤ x / 4096 ∧ x / 4096 ≤ s.f (Fld.PROT_RWIN_LIMIT_LIMIT n)
        let may (x : Nat) : Prop := x % 4 = 0 ∧ ¬ (0x40500000 ≤ x ∧ x < 0x40580000) ∧
          (window x ∨ x = Reg.CIS_DATA ∧ s.f Fld.PROT_SEAL_BY_ROM = 1)
        (raceType ws = 1 → (∃ k, k < raceLen ws ∧ ¬ may (to_ k)) → ∃ t, exec (c p) s = .next t ∧ t.mem = s.mem ∧
          held t { words := ws, fin := true } ∧
          t.f Fld.RACE_CNT_RXREJ = min 255 (s.f Fld.RACE_CNT_RXREJ + 1)) ∧
        (raceType ws = 1 → raceFix ws = false → (∀ k, k < raceLen ws → may (to_ k)) → 0x10000000 ≤ a →
          a + 4 * raceLen ws ≤ 0x10240000 → ∃ t, exec (c p) s = .next t ∧
          held t { words := ws, done := raceLen ws, fin := true } ∧
          t.f Fld.RACE_CNT_RXREJ = s.f Fld.RACE_CNT_RXREJ ∧
          (∀ k, k < raceLen ws → some (t.mem.word (a + 4 * k)) = ws[2 + k]?) ∧
          (∀ x, x < a ∨ a + 4 * raceLen ws ≤ x → t.mem.byte x = s.mem.byte x)) ∧
        (raceType ws = 2 → s.f Fld.RACE_STAT_DBFULL = 0 → s.f Fld.PROT_SEAL_BY_ROM = 0 → s.race.rom = none →
          ∃ t, exec (c p) s = .next t ∧ t.mem = s.mem ∧ held t { words := ws, fin := true } ∧
          t.f Fld.RACE_STAT_DBFULL = 1 ∧ t.f Fld.RACE_DBCTL_INLEN = raceLen ws ∧ t.isPending 193 = true ∧
          ∀ k, k < raceLen ws → some (t.reg (Reg.RACE_DBIN k)) = ws[2 + k]?) ∧
        (raceType ws = 2 → s.f Fld.RACE_STAT_DBFULL = 1 → s.race.rom = none → ∃ t, exec (c p) s = .next t ∧
          t.mem = s.mem ∧ held t { words := ws } ∧ t.f Fld.RACE_DBCTL_INLEN = s.f Fld.RACE_DBCTL_INLEN ∧
          ∀ k, t.reg (Reg.RACE_DBIN k) = s.reg (Reg.RACE_DBIN k)) ∧
        (raceType ws = 3 ∨ raceType ws = 4 → ∃ t, exec (c p) s = .next t ∧ t.mem = s.mem ∧
          held t { words := ws, fin := true } ∧
          t.f Fld.RACE_CNT_RXREJ = min 255 (s.f Fld.RACE_CNT_RXREJ + 1)))
    run .raceWrite [1] ∧ run .raceDoorbell [2] ∧ run .raceTraceReceived [3, 4] ∧ run .raceSync [5] ∧
    (∀ p : RacePkt, raceType p.words = 5 → packetValid p = true →
      (up → exec (.raceSync p) s = .next { s with race := { s.race with badRun := 0 } }) ∧
      (¬ up → s.race.syncRun < 15 →
        exec (.raceSync p) s = .next { s with race := { s.race with syncRun := s.race.syncRun + 1 } }) ∧
      (¬ up → s.race.syncRun = 15 → s.f Fld.RACE_STAT_CRAVAIL = 0 → s.race.bufs.length < 8 →
        Effect (.raceSync p) s { s with
            race := { s.race with syncRun := 0, badRun := 0, owed := 0 },
            sent := s.sent ++ [.credit (8 - s.race.bufs.length)] }
          ([(Fld.RACE_STAT_UP, 1), (Fld.RACE_STAT_RXFREE, 8 - s.race.bufs.length)] ++ levelled 192 false))) ∧
    (∀ b : RaceBuf, s.race.bufs = [b] → (b.fin = false → exec .raceBufferFreed s = .next s) ∧
      (b.fin = true → up → Effect .raceBufferFreed s
        { s with race := { s.race with bufs := [] }, sent := s.sent ++ [.credit 1] } [(Fld.RACE_STAT_RXFREE, 8)])) ∧
    (s.race.bufs = [] → exec .raceBufferFreed s = .next s)) ∧
 (∀ s : State, s.live = true → s.f Fld.PROT_SEAL_BY_ROM = 1 → s.md = mCOMMISSION →
    s.f Fld.RACE_STAT_DBFULL = 1 → s.race.rom = none → s.race.romWait = false → s.race.romMul = none →
    s.f Fld.RACE_STAT_DBOBUSY = 0 → s.race.sending ≠ none → s.race.bufs = [] →
    let code := (s.reg (Reg.RACE_DBIN 0)).toNat % 256
    let w (n : Nat) : Word := s.reg (Reg.RACE_DBIN n)
    let answers (t : State) (u : State) (n : Nat) : Prop :=
      t = { u with regs := t.regs, race := t.race } ∧ t.f Fld.RACE_STAT_DBFULL = 0 ∧
      t.f Fld.RACE_STAT_DBOBUSY = 1 ∧ t.race.dbOut = some
        ([BitVec.ofNat 32 (0x80 + n), t.reg Reg.CIS_STAT, t.reg Reg.CIS_FLOOR] ++
          ([0, 1, 2, 3] : List (Fin 4)).flatMap (fun i => [t.reg (Reg.CIS_SLOT_STATE i), t.reg (Reg.CIS_SLOT_VER i)]) ++
          [t.reg Reg.CIS_BOOTSTAT, s.reg Reg.RACE_STAT])
    (code = 1 → ∃ t, exec .setaddr s = .next t ∧ answers t s 1 ∧ t.reg Reg.CIS_ADDR = w 1 &&& 0x00FFFFFC) ∧
    (code = 3 → ∃ t, exec .setkey s = .next t ∧ answers t s 3 ∧
      ∀ n : Fin 8, t.reg (Reg.CIS_KEYH n) = if s.cis.keyLock = true then s.reg (Reg.CIS_KEYH n) else w (1 + n.val)) ∧
    (code = 4 → ∃ t, exec .query s = .next t ∧ answers t s 4 ∧ t.race.romMul = none) ∧
    (code = 5 → ∃ t, exec .speed s = .next t ∧ answers t s 5 ∧ t.race.romMul = some (w 1).toNat) ∧
    (code = 2 → ∀ u, (s.plainWrite Reg.CIS_ARG (w 2)).wCisCmd .msp0 (w 1) = .done u → u.cis.running ≠ none →
      exec .command s = .next { u with race := { u.race with romWait := true } }) ∧
    (code = 2 → ∀ u, (s.plainWrite Reg.CIS_ARG (w 2)).wCisCmd .msp0 (w 1) = .done u → u.cis.running = none →
      u.f Fld.CIS_STAT_DONE = 0 → exec .command s = .next { u with race := { u.race with romWait := true } }) ∧
    (code = 2 → ∀ u, (s.plainWrite Reg.CIS_ARG (w 2)).wCisCmd .msp0 (w 1) = .done u → u.cis.running = none →
      u.f Fld.CIS_STAT_DONE = 1 → ∃ t, exec .command s = .next t ∧ answers t u 2) ∧
    (code ≠ 1 → exec .setaddr s = .next s) ∧ (code ≠ 2 → exec .command s = .next s) ∧
    (code ≠ 3 → exec .setkey s = .next s) ∧ (code ≠ 4 → exec .query s = .next s) ∧
    (code ≠ 5 → exec .speed s = .next s))

/-- R408, R409, R412, R414, R418 to R420: the port on and off, credits received, the loss of RCK, and what is sent, in
its order of priority. -/
def Obligations.RaceOutbound : Prop :=
  ∀ s : State, s.live = true → s.whd.phase = .awake →
    let race (r : Race) : State := { s with race := r }
    let on := s.f Fld.RACE_CTL_EN = 1
    let up := s.f Fld.RACE_STAT_UP = 1
    let av := s.f Fld.RACE_STAT_CRAVAIL
    let sync : OutKind × List Word := (.sync, racePacket 5 0 0 0 [])
    let waits := s.race.dbOut ≠ none ∨ s.race.gap ≠ 0 ∨ s.race.queue ≠ []
    let down (t : State) : Prop := t.f Fld.RACE_STAT_UP = 0 ∧ t.f Fld.RACE_STAT_CRAVAIL = 0 ∧
      t.f Fld.RACE_STAT_RXFREE = 0 ∧ t.isPending 192 = true ∧ t.mem = s.mem ∧ t.engs = s.engs ∧ t.sent = s.sent ∧
      t.race.queue = s.race.queue ∧ t.race.dbOut = s.race.dbOut ∧ t.race.gap = s.race.gap ∧
      t.race.bufs = s.race.bufs
    let starts (t : State) (q : Race) (k : OutKind) (ty tag : Nat) (w1 : Word) (ws : List Word) : Prop :=
      t = { s with regs := t.regs, race := t.race, sent := t.sent } ∧
      t.race = { q with sending := some (k, racePacket ty tag q.seq w1 ws), seq := q.seq + 1 }
    (∀ (e : Engine) (v : Word), Passes s e Reg.RACE_CTL →
      let mul := v.toNat / 256 % 64
      (¬ on → v.toNat % 2 = 0 ∨ s.f Fld.SYS_TBSEL_XTAL_OK = 0 →
        Effect (.raceEnable e v) s s [(Fld.RACE_CTL_MUL, mul)]) ∧
      (¬ on → v.toNat % 2 = 1 → s.f Fld.SYS_TBSEL_XTAL_OK = 1 → ∃ t, exec (.raceEnable e v) s = .next t ∧ down t ∧
        t.f Fld.RACE_CTL_EN = 1 ∧ t.f Fld.RACE_CTL_MUL = mul ∧
        t.race.sending = if s.race.sending = none then some sync else s.race.sending) ∧
      (on → v.toNat % 2 = 1 → exec (.raceEnable e v) s = .next s) ∧
      (on → v.toNat % 2 = 0 → ∃ t, exec (.raceEnable e v) s = .next t ∧ down t ∧ t.f Fld.RACE_CTL_EN = 0 ∧
        t.f Fld.RACE_CTL_MUL = s.f Fld.RACE_CTL_MUL ∧ t.race.sending = s.race.sending)) ∧
    (on → up → s.race.sending ≠ none ∨ ¬ waits →
      Effect .creditReceived s s [(Fld.RACE_STAT_CRAVAIL, min 15 (av + 1))]) ∧
    (on → up → s.race.sending = none → ∀ ws, s.race.dbOut = some ws → ∃ t, exec .creditReceived s = .next t ∧
      starts t { s.race with dbOut := none } .doorbell 2 0 0 ws ∧
      t.f Fld.RACE_STAT_CRAVAIL = min 15 (av + 1) - 1) ∧
    (¬ up → exec .creditReceived s = .next s ∧ exec .rckLoss s = .next s ∧ exec .syncDue s = .next s) ∧
    (on → up → ∃ t, exec .rckLoss s = .next t ∧ down t ∧
      t.race.sending = if s.race.sending = none then some sync else s.race.sending) ∧
    (on → up → s.race.sending = none → exec .syncDue s = .next (race { s.race with sending := some sync })) ∧
    (on → waits → av = 0 → Effect .creditStall s s ((Fld.RACE_STAT_STALL, 1) :: levelled 195 true)) ∧
    (¬ waits ∨ av ≠ 0 → exec .creditStall s = .next s) ∧
    (∀ (e : Engine) (v : Word), Passes s e Reg.RACE_TRPUSH → s.race.sending ≠ none →
      let r : TraceRec := { tag := v.toNat / 256 % 16, stamp := s.tnow, words :=
        (List.range (min 16 (v.toNat % 32))).map (fun i => s.reg (Reg.RACE_TRSTAGE i)) };
      (s.race.queue.length < 64 → Effect (.tracePush e v) s (race { s.race with queue := s.race.queue ++ [r] })
        [(Fld.RACE_TRPUSH_FILL, s.race.queue.length + 1)]) ∧
      (s.race.queue.length = 64 → Effect (.tracePush e v) s
        (race { s.race with queue := s.race.queue.tail ++ [r], gap := s.race.gap + 1 })
        ([(Fld.RACE_TRPUSH_FILL, 64), (Fld.RACE_CNT_TRDROP, min 65535 (s.f Fld.RACE_CNT_TRDROP + 1))] ++
          raised s 194))) ∧
    (∀ (e : Engine) (v : Word), Passes s e Reg.RACE_DBCTL → let n := v.toNat / 65536 % 32;
      (s.f Fld.RACE_STAT_DBOBUSY = 0 → s.race.sending ≠ none → n ≤ 16 → Effect (.doorbellSend e v) s
        (race { s.race with dbOut := some ((List.range n).map (fun i => s.reg (Reg.RACE_DBOUT i))) })
        [(Fld.RACE_STAT_DBOBUSY, 1)]) ∧
      (s.f Fld.RACE_STAT_DBOBUSY = 1 → n ≤ 16 → exec (.doorbellSend e v) s = .next s) ∧
      (n = 0 → s.f Fld.RACE_STAT_DBFULL = 0 → exec (.doorbellAck e v) s = .next s) ∧
      (n = 0 → s.f Fld.RACE_STAT_DBFULL = 1 → s.race.bufs = [] → Effect (.doorbellAck e v) s s
        [(Fld.RACE_STAT_DBFULL, 0), (Fld.RACE_DBCTL_INLEN, 0)]) ∧
      (n = 0 → s.f Fld.RACE_STAT_DBFULL = 1 → s.f Fld.PROT_SEAL_BY_ROM = 0 → ∀ (b : RaceBuf) (r : List RaceBuf),
        s.race.bufs = b :: r → b.fin = false → raceType b.words = 2 → ∃ t, exec (.doorbellAck e v) s = .next t ∧
        t = { race { s.race with bufs := { b with fin := true } :: r } with regs := t.regs } ∧
        t.f Fld.RACE_STAT_DBFULL = 1 ∧ t.f Fld.RACE_DBCTL_INLEN = (racePayload b.words).length % 32 ∧
        t.isPending 193 = true)) ∧
    (s.race.sending = none → exec .outboundPacketSent s = .next s) ∧
    (∀ (k : OutKind) (ws : List Word), s.race.sending = some (k, ws) → s.race.rom = none → s.race.romMul = none →
      let gone : Race := { s.race with sending := none };
      (∀ t, exec .outboundPacketSent s = .next t → (.race ws) ∈ t.sent ∧
        (k = .doorbell → t.f Fld.RACE_STAT_DBOBUSY = 0) ∧
        (k ≠ .sync → t.f Fld.RACE_STAT_STALL = 0 ∧ t.f (Fld.CAT_CNT_NOW 195) = 0)) ∧
      (on → up → k = .sync → av ≠ 0 →
        (∀ ds, s.race.dbOut = some ds → ∃ t, exec .outboundPacketSent s = .next t ∧
          starts t { gone with dbOut := none } .doorbell 2 0 0 ds ∧ t.f Fld.RACE_STAT_CRAVAIL = av - 1) ∧
        (s.race.dbOut = none → s.race.gap ≠ 0 → ∃ t, exec .outboundPacketSent s = .next t ∧
          starts t { gone with gap := 0 } .gap 4 0 (BitVec.ofNat 32 (min 65535 s.race.gap)) [] ∧
          t.f Fld.RACE_STAT_CRAVAIL = av - 1) ∧
        (s.race.dbOut = none → s.race.gap = 0 → ∀ r rest, s.race.queue = r :: rest → rest.length < 128 →
          ∃ t, exec .outboundPacketSent s = .next t ∧
          starts t { gone with queue := rest } .trace 3 r.tag r.stamp r.words ∧
          t.f Fld.RACE_STAT_CRAVAIL = av - 1 ∧ t.f Fld.RACE_TRPUSH_FILL = rest.length)) ∧
      (on → up → k = .sync → av = 0 ∨ ¬ waits →
        exec .outboundPacketSent s = .next { race gone with sent := s.sent ++ [.race ws] }) ∧
      (on → ¬ up → k = .sync →
        exec .outboundPacketSent s = .next
          { race { gone with sending := some sync } with sent := s.sent ++ [.race ws] }))

/-- R422 to R426: a CAN controller on and off, its error states and its recovery. R424 to R426: frames received and
stored, and frames pushed, sent in order of bus priority and complete. -/
def Obligations.CanControllers : Prop :=
 (∀ (n : Fin 2) (s : State), s.live = true → s.whd.phase = .awake →
    let ctl := s.f (Fld.CAN_CTL_EN n)
    let st := s.f (Fld.CAN_STAT_STATE n)
    let src := 200 + 4 * n.val
    let kept (t : State) : Prop := t = { s with regs := t.regs, can := t.can } ∧ (t.canUnit n).tx = (s.canUnit n).tx ∧
      (t.canUnit n).rx = (s.canUnit n).rx ∧ ∀ m : Fin 2, m ≠ n → t.canUnit m = s.canUnit m
    (∀ (e : Engine) (v : Word), Passes s e (Reg.CAN_CTL n) → v.toNat / 32 % 4 = 0 →
      let modes := [(Fld.CAN_CTL_FDE n, v.toNat / 2 % 2), (Fld.CAN_CTL_LISTEN n, v.toNat / 4 % 2),
        (Fld.CAN_CTL_LOOP n, v.toNat / 8 % 2), (Fld.CAN_CTL_ACCALL n, v.toNat / 16 % 2)]
      let nb := s.reg (Reg.CAN_NBT n)
      let db := s.reg (Reg.CAN_DBT n)
      let quanta (w : Word) (l1 p2 l2 : Nat) : Nat :=
        (w.toNat % 32 + 1) * (1 + (w.toNat / 32 % 2 ^ l1 + 1) + (w.toNat / 2 ^ p2 % 2 ^ l2 + 1))
      let ok := 64 ≤ quanta nb 8 13 7 ∧ 8 ≤ quanta db 5 13 4 ∧ 1 ≤ nb.toNat / 32 % 256 ∧
        1 ≤ nb.toNat / 2 ^ 13 % 128 ∧ nb.toNat / 2 ^ 20 % 128 ≤ nb.toNat / 2 ^ 13 % 128 ∧
        db.toNat / 2 ^ 20 % 128 ≤ db.toNat / 2 ^ 13 % 16;
      (ctl = 0 → v.toNat % 2 = 0 → Effect (.canEnable e n v) s s modes) ∧
      (ctl = 0 → v.toNat % 2 = 1 → ¬ ok →
        Effect (.canEnable e n v) s s (modes ++ [(Fld.CAN_STAT_CFGERR n, 1)])) ∧
      (ctl = 0 → v.toNat % 2 = 1 → ok → s.f Fld.SYS_TBSEL_ACTIVE = 0 → Effect (.canEnable e n v) s s
        (modes ++ [(Fld.CAN_CTL_EN n, 1), (Fld.CAN_STAT_CFGERR n, 0)])) ∧
      (ctl = 0 → v.toNat % 2 = 1 → ok → s.f Fld.SYS_TBSEL_ACTIVE ≠ 0 →
        ∃ t, exec (.canEnable e n v) s = .next t ∧ kept t ∧ RegsAre s t (modes ++ [(Fld.CAN_CTL_EN n, 1),
          (Fld.CAN_STAT_CFGERR n, 0), (Fld.CAN_STAT_STATE n, 1), (Fld.CAN_STAT_TEC n, 0), (Fld.CAN_STAT_REC n, 0)])) ∧
      (ctl = 1 → v.toNat % 2 = 1 → exec (.canEnable e n v) s = .next s) ∧
      (ctl = 1 → v.toNat % 2 = 0 → ∃ t, exec (.canEnable e n v) s = .next t ∧ kept t ∧
        (t.canUnit n).cur = none ∧ RegsAre s t
          [(Fld.CAN_CTL_EN n, 0), (Fld.CAN_STAT_STATE n, 0), (Fld.CAT_CNT_NOW (src + 3), 0)])) ∧
    (∀ (e : Engine) (v : Word), Passes s e (Reg.CAN_CTL n) → ctl = 1 → v.toNat % 2 = 1 →
      (v.toNat / 64 % 2 = 0 → st = 3 → ∃ t, exec (.canRecover e n v) s = .next t ∧ kept t ∧ t.regs = s.regs ∧
        (t.canUnit n).recover = true ∧ (t.canUnit n).cur = (s.canUnit n).cur) ∧
      (v.toNat / 64 % 2 = 0 → st ≠ 3 → exec (.canRecover e n v) s = .next s) ∧
      (v.toNat / 32 % 2 = 0 → ∃ t, exec (.canTxabort e n v) s = .next t ∧ t.mem = s.mem ∧ t.engs = s.engs ∧
        (t.canUnit n).rx = (s.canUnit n).rx ∧ t.f (Fld.CAN_CTL_EN n) = 1 ∧
        t.f (Fld.CAN_CNT_TXFILL n) = (t.canUnit n).tx.length ∧
        ((t.canUnit n).tx = [] ∨ ∃ f, (s.canUnit n).cur = some f ∧ (t.canUnit n).tx = [f] ∧
          (t.canUnit n).cur = some f))) ∧
    (∀ tec rec : Nat, (ctl = 0 ∨ st = 3 ∨ s.f Fld.SYS_TBSEL_ACTIVE = 0 → exec (.canBusError n tec rec) s = .next s) ∧
      (ctl = 1 → st ≠ 3 → s.f Fld.SYS_TBSEL_ACTIVE ≠ 0 → ∃ t, exec (.canBusError n tec rec) s = .next t ∧ kept t ∧
        let now := if 255 < tec then 3 else if 127 < tec ∨ 127 < rec then 2 else 1
        RegsAre s t ([(Fld.CAN_STAT_TEC n, min 255 tec), (Fld.CAN_STAT_REC n, min 255 rec),
          (Fld.CAN_STAT_STATE n, now)] ++ (if now = st then [] else raised s (src + 2)) ++
          (if now = 3 then levelled (src + 3) true else [])))) ∧
    (st = 3 → (s.canUnit n).recover = true → ∃ t, exec (.canRecoveryComplete n) s = .next t ∧ kept t ∧
      (t.canUnit n).recover = false ∧ RegsAre s t ([(Fld.CAN_STAT_TEC n, 0), (Fld.CAN_STAT_REC n, 0),
        (Fld.CAN_STAT_STATE n, 1)] ++ raised s (src + 2) ++ levelled (src + 3) false)) ∧
    (st ≠ 3 ∨ (s.canUnit n).recover = false → exec (.canRecoveryComplete n) s = .next s)) ∧
 (∀ (n : Fin 2) (s : State), s.live = true → s.whd.phase = .awake → s.f (Fld.CAN_STAT_STATE n) ≠ 3 →
    let on := s.f (Fld.CAN_CTL_EN n) = 1 ∧ s.f Fld.SYS_TBSEL_ACTIVE ≠ 0
    let c := s.canUnit n
    let src := 200 + 4 * n.val
    let kept (t : State) : Prop := t.mem = s.mem ∧ t.engs = s.engs ∧ t.md = s.md ∧ t.brg = s.brg
    let oldest (t : State) : Prop := t.f (Fld.CAN_CNT_RXFILL n) = (t.canUnit n).rx.length % 128 ∧
      (∀ e r, (t.canUnit n).rx = e :: r → t.reg (Reg.CAN_RXE n 0) = e.frame.w0 ∧
        (t.reg (Reg.CAN_RXE n 1)).toNat % 64 = e.frame.w1.toNat % 64 ∧ t.reg (Reg.CAN_RXE n 2) = e.stamp ∧
        (e.filter < 32 → (t.reg (Reg.CAN_RXE n 1)).toNat / 256 = e.filter)) ∧
      ((t.canUnit n).rx = [] → ∀ k : Nat, k < 19 → t.reg (Reg.CAN_RXE n k) = 0)
    let hits (f : CanFrame) (k : Nat) : Prop :=
      let id := s.reg (Reg.CAN_FLT_ID n k)
      let m := s.reg (Reg.CAN_FLT_MASK n k) &&& 0x1FFFFFFF
      id.getLsbD 31 = true ∧ id.getLsbD 29 = f.w0.getLsbD 29 ∧ f.w0 &&& m = id &&& m
    (∀ f : CanFrame, f.data.length ≤ 64 → (¬ on ∨ f.w0.getLsbD 30 = true ∧ s.f (Fld.CAN_CTL_FDE n) = 0 →
        exec (.canFrameReceived n f) s = .next s) ∧
      (on → f.w0.getLsbD 30 = false ∨ s.f (Fld.CAN_CTL_FDE n) = 1 → s.f (Fld.CAN_STAT_REC n) < 128 →
        let counted := [(Fld.CAN_STAT_REC n, s.f (Fld.CAN_STAT_REC n) - 1)]
        (∀ k : Nat, k < 32 → hits f k → (∀ j, j < k → ¬ hits f j) → c.rx.length < 64 →
          ∃ t, exec (.canFrameReceived n f) s = .next t ∧ kept t ∧ oldest t ∧ t.isPending src = true ∧
            (t.canUnit n).rx = c.rx ++ [⟨f, k, s.tnow⟩] ∧ (t.canUnit n).tx = c.tx) ∧
        (s.f (Fld.CAN_STAT_TEC n) < 128 → s.f (Fld.CAN_STAT_STATE n) = 1 → (∃ k : Nat, k < 32 ∧ hits f k) →
          64 ≤ c.rx.length → Effect (.canFrameReceived n f) s s
            ((Fld.CAN_CNT_RXLOST n, min 255 (s.f (Fld.CAN_CNT_RXLOST n) + 1)) :: counted)) ∧
        (s.f (Fld.CAN_STAT_TEC n) < 128 → s.f (Fld.CAN_STAT_STATE n) = 1 → (∀ k : Nat, k < 32 → ¬ hits f k) →
          s.f (Fld.CAN_CTL_ACCALL n) = 0 → Effect (.canFrameReceived n f) s s counted) ∧
        ((∀ k : Nat, k < 32 → ¬ hits f k) → s.f (Fld.CAN_CTL_ACCALL n) = 1 → c.rx.length < 64 →
          ∃ t k, exec (.canFrameReceived n f) s = .next t ∧ kept t ∧ oldest t ∧ t.isPending src = true ∧
            (t.canUnit n).rx = c.rx ++ [⟨f, k, s.tnow⟩]))) ∧
    (∀ (e : Engine) (v : Word), Passes s e (Reg.CAN_RXPOP n) →
      (v.toNat % 2 = 1 → ∃ t, exec (.canRxpop e n v) s = .next t ∧ kept t ∧ oldest t ∧
        (t.canUnit n).rx = c.rx.tail ∧ (t.canUnit n).tx = c.tx) ∧
      (v.toNat % 2 = 0 → exec (.canRxpop e n v) s = .next s)) ∧
    (∀ (e : Engine) (v : Word), Passes s e (Reg.CAN_TXPUSH n) → (v.toNat % 2 = 0 → exec (.canTxPush e n v) s = .next s) ∧
      (v.toNat % 2 = 1 → 16 ≤ c.tx.length → Effect (.canTxPush e n v) s s
        [(Fld.CAN_CNT_TXREJ n, min 255 (s.f (Fld.CAN_CNT_TXREJ n) + 1))]) ∧
      (v.toNat % 2 = 1 → c.tx.length < 16 → ∃ t f, exec (.canTxPush e n v) s = .next t ∧ kept t ∧
        f.w0 = s.reg (Reg.CAN_TXS n 0) ∧ f.w1 = s.reg (Reg.CAN_TXS n 1) ∧ f.data.length = 64 ∧
        (∀ (k : Fin 16) (j : Fin 4), f.data[4 * k.val + j.val]? =
          some ((s.reg (Reg.CAN_TXS n (3 + k.val))).extractLsb' (8 * j.val) 8)) ∧
        (t.canUnit n).tx = c.tx ++ [f] ∧ t.f (Fld.CAN_CNT_TXFILL n) = c.tx.length + 1 ∧
        (t.canUnit n).rx = c.rx)) ∧
    (c.cur = none → exec (.canTxDone n) s = .next s) ∧
    (∀ f : CanFrame, c.cur = some f → on → s.f (Fld.CAN_CTL_LISTEN n) = 0 → s.f (Fld.CAN_CTL_LOOP n) = 0 →
      f.w0.getLsbD 30 = false ∨ s.f (Fld.CAN_CTL_FDE n) = 1 →
      ∃ t, exec (.canTxDone n) s = .next t ∧ kept t ∧ t.sent = s.sent ++ [.can n (canWire f)] ∧
        (canWire f).data = (if f.w1.getLsbD 5 = true ∧ f.w0.getLsbD 30 = false then []
          else f.data.take (dlcLen (f.w0.getLsbD 30) (f.w1.toNat % 16))) ∧
        (t.canUnit n).tx = c.tx.erase f ∧ (t.canUnit n).rx = c.rx ∧ t.isPending (src + 1) = true ∧
        t.f (Fld.CAN_STAT_TEC n) = s.f (Fld.CAN_STAT_TEC n) - 1 ∧
        (∀ g, g ∈ (t.canUnit n).tx → s.canMaySend n g = true → ∃ h, (t.canUnit n).cur = some h ∧
          canPrio h ≤ canPrio g ∧ ∃ pre post, (t.canUnit n).tx = pre ++ h :: post ∧
            ∀ x ∈ pre, s.canMaySend n x = true → canPrio h < canPrio x)))

/-! ### Plumb, wear and spares (chapter 18) -/

/-- R432: a quantity of the baseline at a code lies on the line through the points on each side of it, and beyond the
outermost points on the line through the two nearest. R429, R432, R433: which measurements are discarded, the
slowdown of an accepted one, and SLOW and REQW of its site. -/
def Obligations.PlumbMeasurements : Prop :=
 (∀ (pre post : List BasePoint) (p q : BasePoint) (slope : Int) (y : BasePoint → Int) (c : Nat),
    let ps := pre ++ p :: q :: post
    ps.Pairwise (fun a b => a.code < b.code) → (p.code ≤ c ∨ pre = []) → (c ≤ q.code ∨ post = []) →
    ratVal (baseAt ps slope y c) = lineAt p.code (y p) q.code (y q) c) ∧
 (∀ (m : PlumbMeas) (s : State), s.live = true → s.f Fld.PROT_SEAL_SEALED = 1 → (s.eng .miller).run = .running →
    s.f Fld.PLB_CFG_EN = 1 →
    let tj := (Fld.PLB_TEMP_TJ, (m.tj % 1024).toNat)
    let c := s.f Fld.PWR_VSTAT_TARGET
    let i := m.site
    let bad := s.f Fld.SYS_TBSEL_ACTIVE = 0 ∨ s.f Fld.PWR_VSTAT_PENDING ≠ c ∨ s.dip = true ∨ m.dip = true ∨
      m.tjMoved = true ∨ m.unsteady = true
    (bad ∨ s.plb.log.baseline = none → Effect (.plumbMeasurement m) s s [tj]) ∧
    (¬ bad → ∀ ps, s.plb.log.baseline = some ps → 2 ≤ ps.length → ps.Pairwise (fun a b => a.code < b.code) →
      let at_ (y : BasePoint → Int) (k : Nat) : ℚ := ratVal (baseAt ps 0 y k)
      let alpha : ℚ := (Config.alphaNum i.val : ℚ) / ((Config.alphaDen : ℚ) + 1)
      let scale : ℚ := 1 + alpha * ((m.tj : ℚ) - at_ (fun x => x.tj) c)
      let tb := at_ (siteTime i.val)
      0 < scale → 0 < tb c → ∃ t x, exec (.plumbMeasurement m) s = .next t ∧
        t = { s with regs := t.regs, plb := t.plb, free := t.free } ∧ t.f Fld.PLB_TEMP_TJ = tj.2 ∧
        ratVal x = (if s.unitIdle i = true then m.replica else max m.replica m.real : Nat) / scale / tb c - 1 ∧
        t.plb.sites[i.val].samples = (x :: s.plb.sites[i.val].samples).take 16 ∧
        let mean := ratMean (t.plb.sites[i.val].samples)
        (-32768 ≤ 4096 * mean → 4096 * mean ≤ 32767 → Rounds (4096 * mean) (t.slowOf i.val)) ∧
        (32767 < 4096 * mean → t.slowOf i.val = 32767) ∧
        (∀ w : Nat, w < t.f (Fld.PLB_SITE_REQW i.val) → tb 20 < (1 + mean) * tb (20 + w)) ∧
        (t.f (Fld.PLB_SITE_REQW i.val) ≠ 31 →
          (1 + mean) * tb (20 + t.f (Fld.PLB_SITE_REQW i.val)) ≤ tb 20) ∧
        (∀ j : Fin 12, j ≠ i → t.plb.sites[j.val] = s.plb.sites[j.val] ∧
          t.f (Fld.PLB_SITE_SLOW j.val) = s.f (Fld.PLB_SITE_SLOW j.val)) ∧
        ∀ j : Fin 12, t.slowOf j.val ≤ t.slowOf (t.f Fld.PLB_STAT_WORST) ∧
          t.f Fld.PLB_STAT_SLOWMAX = t.f (Fld.PLB_SITE_SLOW (t.f Fld.PLB_STAT_WORST))))

/-- R433 to R435: the end of a round pays wear with codes, warns, and retires a Sluice site or counts a site as worn
after four rounds that qualify it. -/
def Obligations.PlumbRounds : Prop :=
  ∀ s : State, s.live = true → s.f Fld.PROT_SEAL_SEALED = 1 → (s.eng .miller).run = .running →
    (s.f Fld.PLB_CFG_EN = 0 ∨ s.plb.log.baseline = none → exec .plumbRoundEnd s = .next s) ∧
    (s.f Fld.PLB_CFG_EN = 1 → s.plb.log.baseline ≠ none →
      let room := min 30 (s.f Fld.PWR_GOV_CEIL - 20)
      let serves (i : Fin 12) := s.f (Fld.PLB_SITE_STATE i.val) = 0 ∨ s.f (Fld.PLB_SITE_STATE i.val) = 3
      let qual (i : Fin 12) := 492 ≤ s.slowOf i.val ∨ room < s.f (Fld.PLB_SITE_REQW i.val)
      let due (i : Fin 12) := s.f (Fld.PLB_SITE_STATE i.val) = 0 ∧ qual i ∧ 3 ≤ s.plb.sites[i.val].rounds ∧
        (∀ n, s.plb.pendSite = some n → n.val + 2 ≠ i.val)
      let sluice (i : Fin 12) := 2 ≤ i.val ∧ i.val ≤ 6
      let reserve := s.f Fld.PLB_SPARE_RESIDX ≠ 7 ∧ s.f Fld.PLB_SPARE_RESBAD = 0 ∧ s.plb.priming = none ∧
        s.f Fld.PLB_SPARE_RETIDX = 7 ∧ s.plb.pendSite = none
      ∃ t, exec .plumbRoundEnd s = .next t ∧ t = { s with regs := t.regs, plb := t.plb, cis := t.cis } ∧
        t.f Fld.PWR_GOV_WEAR ≤ room ∧ (∃ i, serves i ∧ t.f Fld.PWR_GOV_WEAR = min room (s.f (Fld.PLB_SITE_REQW i.val)) ∨
          (∀ i, ¬ serves i) ∧ t.f Fld.PWR_GOV_WEAR = 0) ∧
        (∀ i, serves i → min room (s.f (Fld.PLB_SITE_REQW i.val)) ≤ t.f Fld.PWR_GOV_WEAR) ∧
        (∀ i, serves i →
          (t.plb.sites[i.val].warned = true ↔ (s.f Fld.PLB_CFG_WARN : Int) ≤ s.slowOf i.val) ∧
          (qual i → t.plb.sites[i.val].rounds = s.plb.sites[i.val].rounds + 1) ∧
          (¬ qual i → t.plb.sites[i.val].rounds = 0) ∧
          ((s.f Fld.PLB_CFG_WARN : Int) ≤ s.slowOf i.val → s.plb.sites[i.val].warned = false →
            t.isPending 208 = true)) ∧
        (∀ i, ¬ sluice i → due i → t.f (Fld.PLB_SITE_STATE i.val) = 3) ∧
        (∀ i, ¬ due i → t.f (Fld.PLB_SITE_STATE i.val) = s.f (Fld.PLB_SITE_STATE i.val)) ∧
        (¬ reserve ∨ (∀ i, sluice i → ¬ due i) → t.plb.pendSite = s.plb.pendSite ∧ t.cis = s.cis ∧
          ∀ i, sluice i → due i → t.f (Fld.PLB_SITE_STATE i.val) = 3) ∧
        (∀ i, reserve → sluice i → due i → (∀ j, sluice j → due j → s.slowOf j.val < s.slowOf i.val ∨
            s.slowOf j.val = s.slowOf i.val ∧ i.val ≤ j.val) →
          t.plb.pendSite.map (fun n => n.val + 2) = some i.val ∧ t.f (Fld.PLB_SITE_STATE i.val) = 0 ∧
          (s.cisFree = true → t.f Fld.PLB_SPARE_PEND = 1 ∧ t.isPending 209 = true ∧ t.plb.log.retIdx + 2 = i.val ∧
            t.plb.log.resIdx = 7 ∧ (s.plb.due = [] → t.plb.wearSeq = s.plb.wearSeq + 1)) ∧
          (s.cisFree = false → t.plb.retireDue = true ∧ t.cis = s.cis ∧
            t.f Fld.PLB_SPARE_PEND = s.f Fld.PLB_SPARE_PEND) ∧
          ∀ j, sluice j → j ≠ i → due j → t.f (Fld.PLB_SITE_STATE j.val) = 3))

/-- R430, R431: baselining starts in SERVICE with every bridge still and no baseline there, and ends with a baseline or
without one. R436 to R438: priming the reserve in place of a halted engine, and the reserve's self-test. -/
def Obligations.BaselineAndPriming : Prop :=
 ((∀ (s : State) (v : Word), Passes s .msp0 Reg.PLB_BASECTL → s.super .msp0 = true →
    let key := v.toNat / 65536 = 0x4B17
    let runs := ∃ b : Fin 5, s.f (Fld.BRG_CTL_RUN b) = 1
    let res (n : Nat) := Effect (.baselineStart .msp0 v) s s [(Fld.PLB_STAT_BRES, n)]
    (¬ key ∨ s.f Fld.PLB_STAT_BUSY = 1 → exec (.baselineStart .msp0 v) s = .next s) ∧
    (key → s.f Fld.PLB_STAT_BUSY = 0 → s.md ≠ mSERVICE → res 2) ∧
    (key → s.f Fld.PLB_STAT_BUSY = 0 → s.md = mSERVICE → s.stopDem = false → (runs → res 3) ∧
      (¬ runs → s.plb.log.baseline ≠ none → res 4) ∧
      (¬ runs → s.plb.log.baseline = none → ∃ goals : List Nat,
        (∀ c, c ∈ goals ↔ c ∈ [0, 10, 20, 30, 40, 50] ∧ s.f Fld.PWR_GOV_FLOOR ≤ c ∧ c ≤ s.f Fld.PWR_GOV_CEIL) ∧
        Effect (.baselineStart .msp0 v) s { s with plb := { s.plb with baseGoals := goals } }
          [(Fld.PLB_STAT_BUSY, 1), (Fld.PLB_STAT_BRES, 0)]))) ∧
  (∀ (e : Engine) (v : Word) (s : State), Closed s e → s.canIssue e = true → s.super e = false ∨ e = .msp1 →
    Raises (.baselineStart e v) s e ⟨2, 3, some (BitVec.ofNat 32 Reg.PLB_BASECTL), 0⟩) ∧
  (∀ s : State, s.live = true →
    (s.f Fld.PLB_STAT_BUSY = 0 → ∀ r, WellFormed.baselineOk r = true → exec (.baselineDone r) s = .next s) ∧
    (s.f Fld.PLB_STAT_BUSY = 1 →
      Effect (.baselineDone .requestFailed) s s [(Fld.PLB_STAT_BUSY, 0), (Fld.PLB_STAT_BRES, 5)] ∧
      ∀ ps : List BasePoint, (∀ p ∈ ps, p.times.length = 12) → s.plb.baseGoals = [] →
        s.f Fld.PWR_VSTAT_TARGET = s.govTarget → ps.map BasePoint.code = s.baseCodes →
        ∃ t, exec (.baselineDone (.points ps)) s = .next t ∧ t = { s with regs := t.regs, plb := t.plb, cis := t.cis } ∧
          t.plb.log = { s.plb.log with baseline := some ps } ∧
          (s.cisFree = true → s.plb.due = [] → t.plb.wearSeq = s.plb.wearSeq + 1) ∧
          RegsAre s t [(Fld.PLB_STAT_BASE, 1), (Fld.PLB_STAT_BUSY, 0), (Fld.PLB_STAT_BRES, 1)])) ∧
  (∀ (s : State) (r : BaselineRes), WellFormed.baselineOk r = false →
    exec (.baselineDone r) s = .fault .illFormed)) ∧
 ((∀ (s : State) (v : Word), Passes s .msp0 Reg.PLB_PRIME → s.super .msp0 = true →
    let key := v.toNat / 65536 = 0x2E95
    let reserve := s.f Fld.PLB_SPARE_RESIDX ≠ 7 ∧ s.f Fld.PLB_SPARE_RESBAD = 0 ∧ s.plb.priming = none ∧
      s.f Fld.PLB_SPARE_RETIDX = 7
    let halted (n : Fin 5) := s.f (Fld.SLU_STAT_STATE n.val) = 3
    (¬ key → exec (.prime .msp0 v) s = .next s ∧ exec (.reserveSelfTest .msp0 v) s = .next s) ∧
    ((∀ n, ¬ halted n) → exec (.prime .msp0 v) s = .next s) ∧
    (∀ n, key → halted n → (∀ m, halted m → m = n) →
      (¬ reserve → exec (.prime .msp0 v) s = .next s) ∧
      (reserve → s.plb.pendSite = none →
        exec (.prime .msp0 v) s = .next { s with plb := { s.plb with priming := some n, retireDue := false } }) ∧
      (∀ m, reserve → s.plb.pendSite = some m → m ≠ n → Effect (.prime .msp0 v) s
        { s with plb := { s.plb with priming := some n, pendSite := none, retireDue := false } }
        [(Fld.PLB_SPARE_PEND, 0), (Fld.PLB_SITE_STATE (2 + m.val), 3)])) ∧
    (key → s.md = mSERVICE → s.f Fld.PLB_SPARE_RESIDX ≠ 7 → s.stopDem = false →
      exec (.reserveSelfTest .msp0 v) s = .next { s with plb := { s.plb with selfTest := true } }) ∧
    (s.md ≠ mSERVICE ∨ s.f Fld.PLB_SPARE_RESIDX = 7 → exec (.reserveSelfTest .msp0 v) s = .next s)) ∧
  (∀ (e : Engine) (v : Word) (s : State), Closed s e → s.canIssue e = true → s.super e = false ∨ e = .msp1 →
    Raises (.prime e v) s e ⟨2, 3, some (BitVec.ofNat 32 Reg.PLB_PRIME), 0⟩) ∧
  (∀ s : State, s.live = true →
    (s.plb.priming = none → exec .primingDone s = .next s) ∧
    (∀ n : Fin 5, s.plb.priming = some n → n ≠ 4 →
      (s.cisFree = false → exec .primingDone s = .next s) ∧
      (s.cisFree = true → ∃ t, exec .primingDone s = .next t ∧ t.mem = s.mem ∧ t.md = s.md ∧
        t.brg = s.brg ∧ t.slu = s.slu ∧ (∀ e : Engine, e ≠ .slu 4 → t.eng e = s.eng e) ∧
        t.plb.priming = none ∧ t.f (Fld.SLU_STAT_STATE 4) = 0 ∧ (t.eng (.slu 4)).run = .stopped ∧
        t.f Fld.PLB_SPARE_RESIDX = 7 ∧ t.f Fld.PLB_SPARE_RETIDX = n.val ∧ t.plb.log.retIdx = n.val ∧
        t.plb.log.resIdx = 7 ∧ t.f (Fld.PLB_SITE_STATE (2 + n.val)) = 2 ∧ t.f (Fld.PLB_SITE_STATE 6) = 0 ∧
        (s.plb.due = [] → t.plb.wearSeq = s.plb.wearSeq + 2) ∧ t.isPending 210 = true ∧ t.groupOf 4 = s.groupOf n.val ∧
        ∀ b : Fin 5, let o (x : State) := (x.reg Reg.PROT_OWNBRG).toNat / 16 ^ b.val % 16;
          o t = if o s = n.val + 1 then 5 else o s)) ∧
    (s.plb.selfTest = false → ∀ ok : Bool, exec (.reserveSelfTestDone ok) s = .next s) ∧
    (s.plb.selfTest = true → let u : State := { s with plb := { s.plb with selfTest := false } };
      Effect (.reserveSelfTestDone true) s u [(Fld.PLB_SPARE_TPASS, 1)] ∧
      Effect (.reserveSelfTestDone false) s
        (let bad : WearLog := { u.plb.log with resBad := true }
         { u with plb := { u.plb with log := bad, kept := if s.cisFree = true then bad else u.plb.kept } })
        [(Fld.PLB_SPARE_TFAIL, 1), (Fld.PLB_SPARE_RESBAD, 1)])))

/-- R439, R440, R444: the march test and row repair, and the hourly sample. -/
def Obligations.RowsAndHours : Prop :=
  (∀ (arr : Fin 19) (row n : Nat) (found : Option (List (Fin 128))) (s : State), s.live = true →
    s.f Fld.PROT_SEAL_SEALED = 1 → (s.eng .miller).run = .running →
    let fault := found ≠ none
    let spoiled := found.getD []
    let c := s.f (Fld.CAT_CNT_COUNT 25) + n
    let at_ (w : Fin 128) := arrayBase arr.val + 512 * row + 4 * w.val
    let spares := if arr.val < 4 then 64 else if arr.val < 7 then 32 else if arr.val < 9 then 4
      else if arr.val < 14 then 8 else 4
    let busy := ∃ k : Fin 5, (arr.val = 9 + k.val ∨ arr.val = 14 + k.val) ∧
      s.f (Fld.SLU_STAT_STATE k.val) ≠ 0 ∧ s.f (Fld.SLU_STAT_STATE k.val) ≠ 4
    let errs := s.plb.errsOf arr.val row + n
    row < 16 * spares → (busy → exec (.marchTestRow arr row n found) s = .next s) ∧
      (¬ busy → ∃ t, exec (.marchTestRow arr row n found) s = .next t ∧
        t = { s with regs := t.regs, plb := t.plb, ecc := t.ecc, ecc1 := t.ecc1 } ∧
        t.plb.errsOf arr.val row = errs ∧
        (spoiled = [] → t.ecc = s.ecc ∧ t.ecc1 = s.ecc1) ∧
        (arr.val ≠ 6 ∧ arr.val ≠ 8 ∨ s.f Fld.SYS_MODE_SPLIT = 1 → t.ecc1 = s.ecc1 ∧
          ∀ a, a ∈ t.ecc ↔ a ∈ s.ecc ∨ ∃ w ∈ spoiled, a = at_ w) ∧
        RegsAre s t ((Fld.PLB_ROWS_CORR arr.val, min 255 (s.f (Fld.PLB_ROWS_CORR arr.val) + n)) ::
          (Fld.CAT_CNT_COUNT 25, min 15 c) :: (if 15 < c then [(Fld.CAT_CNT_SAT 25, 1)] else []) ++
          (if fault then raised s 214 else [])) ∧
        (¬ fault → errs < 4 → t.plb.repairing = s.plb.repairing) ∧
        (fault ∨ 4 ≤ errs → (∀ e ∈ s.plb.repairing, e.1 ≠ (arr.val, row)) →
          s.plb.log.rows[arr.val] < spares →
          t.plb.repairing = s.plb.repairing ++ [((arr.val, row), if fault then 0 else 1)]))) ∧
  (∀ (arr : Fin 19) (row n : Nat) (found : Option (List (Fin 128))) (ok : Bool) (s : State),
    WellFormed.arrayRows arr.val ≤ row →
    exec (.marchTestRow arr row n found) s = .fault .illFormed ∧
    exec (.rowRepairDone arr row ok) s = .fault .illFormed) ∧
  (∀ (arr : Fin 19) (row : Nat) (ok : Bool) (s : State), s.live = true → row < WellFormed.arrayRows arr.val →
    ((∀ e ∈ s.plb.repairing, e.1 ≠ (arr.val, row)) → exec (.rowRepairDone arr row ok) s = .next s) ∧
    (∀ cause, ((arr.val, row), cause) ∈ s.plb.repairing → s.arrayIdle arr.val = true → ok = true →
      s.plb.log.rows[arr.val] < 127 → ∃ t, exec (.rowRepairDone arr row ok) s = .next t ∧
        t = { s with regs := t.regs, plb := t.plb, cis := t.cis } ∧
        t.f (Fld.PLB_ROWS_USED arr.val) = s.plb.log.rows[arr.val] + 1 ∧
        t.plb.log.rows[arr.val] = s.plb.log.rows[arr.val] + 1 ∧
        t.plb.log.rowMap = s.plb.log.rowMap ++ [(arr.val * 1024 + row, s.plb.log.rows[arr.val])] ∧
        (∀ e ∈ t.plb.repairing, e.1 ≠ (arr.val, row)) ∧ t.plb.errsOf arr.val row = 0 ∧
        t.isPending 211 = true ∧
        (s.cisFree = true → s.plb.due = [] → t.plb.wearSeq = s.plb.wearSeq + 1))) ∧
  (∀ s : State, s.live = true → (s.f Fld.PROT_SEAL_SEALED = 0 → Effect .hourTick s s
      [(Fld.HLTH_HOURS_HOURS, (s.f Fld.HLTH_HOURS_HOURS + 1) % 2 ^ 32)]) ∧
    (s.f Fld.PROT_SEAL_SEALED = 1 → (s.eng .miller).run = .running → ∃ t, exec .hourTick s = .next t ∧
      t = { s with regs := t.regs, plb := t.plb, cis := t.cis } ∧
      RegsAre s t [(Fld.HLTH_HOURS_HOURS, (s.f Fld.HLTH_HOURS_HOURS + 1) % 2 ^ 32)] ∧
      (s.cisFree = false → t.cis = s.cis ∧ t.plb.due.length = s.plb.due.length + 1) ∧
      (s.cisFree = true → s.plb.due = [] →
      t.plb.wearSeq = s.plb.wearSeq + 1 ∧ t.plb.wearPos = (s.plb.wearPos + 1) % 16128 ∧
      let a := 0xE04000 + 64 * s.plb.wearPos
      (t.cis.bytes.read a 4) % 256 = 1 ∧ t.cis.bytes.read (a + 4) 4 = s.plb.wearSeq.toNat ∧
      t.cis.bytes.read (a + 12) 4 = s.tnow.toNat ∧
      t.cis.bytes.read (a + 16) 4 = (s.f Fld.HLTH_HOURS_HOURS + 1) % 2 ^ 32 ∧
      (∀ i : Fin 12, t.cis.bytes.read (a + 20 + 2 * i.val) 2 = s.f (Fld.PLB_SITE_SLOW i.val)) ∧
      t.cis.bytes.read (a + 60) 4 = crc32c (t.cis.bytes.bytes a 60) ∧
      ∀ x, x < a ∨ a + 64 ≤ x → t.cis.bytes.byte x = s.cis.bytes.byte x)))

/-! ### Where commands complete -/

/-- R26 to R31, R73: a keyed mode request is recorded where the lane has turn marks, and carried out at once where it has
none. R60, R64: the governor's request. R76, R77: each wake source wakes. R85 to R87: each keyed slot command starts.
R94, R95: the boot into COMMISSION, and the end of the time of phase 0. R107, R119, R192, R244, R255, R273, R275, R276, R291, R305: commands of
the watchdog, the engines, the drive, the bridges and the Cog inputs. R355, R371, R373, R392: tokens and departures.
R411 to R418, R424, R438 to R440: packets, frames, priming and rows. Each runs to a next state with its own effect. -/
def Obligations.CommandsComplete : Prop :=
 (∀ s : State, Passes s .msp0 Reg.SYS_MODEREQ → s.super .msp0 = true → s.mode.request = none →
    let asked (t : State) (q : BitVec 4) : Prop := t.mode.request = some q ∧ t.f Fld.SYS_MODE_REQST = 1
    (4 ≤ s.f Fld.KNR_STAT_STATE →
      (∃ t, exec (.modeRequestTriplex .msp0 0xC1A5) s = .next t ∧ asked t 3) ∧
      (∃ t, exec (.modeRequestDuplex .msp0 0xC1A5) s = .next t ∧ asked t 4) ∧
      (∃ t, exec (.modeRequestReady .msp0 0xC1A5) s = .next t ∧ asked t 2) ∧
      (∃ t, exec (.modeRequestCommission .msp0 0xC1A5) s = .next t ∧ asked t 1) ∧
      (∃ t, exec (.modeRequestService .msp0 0xC1A5) s = .next t ∧ asked t 7) ∧
      (∃ t, exec (.modeRequestSafeHold .msp0 0xC1A5) s = .next t ∧ asked t 6) ∧
      (∃ t, exec (.modeRequestStandby .msp0 0xC1A5) s = .next t ∧ asked t 8) ∧
      (∃ t, exec (.modeRequestDormant .msp0 0xC1A5) s = .next t ∧ asked t 9) ∧
      (∀ x : BitVec 4, ∃ t, exec (.modeRequestOther .msp0 x 0xC1A5) s = .next t ∧ asked t x)) ∧
    (s.f Fld.KNR_STAT_STATE < 4 → s.whd.phase = .awake → s.f Fld.SYS_MODE_STOPPING = 0 →
      (s.md = mREADY → ∃ t, exec (.modeRequestCommission .msp0 0xC1A5) s = .next t ∧ t.md = mCOMMISSION) ∧
      (s.md = mREADY → s.f Fld.CIS_BOOTSTAT_TRIALRUN = 0 → s.cogZero = true → s.parked = true →
        ∃ t, exec (.modeRequestService .msp0 0xC1A5) s = .next t ∧ t.md = mSERVICE) ∧
      (s.md = mREADY → ∃ t, exec (.modeRequestSafeHold .msp0 0xC1A5) s = .next t ∧ t.md = mSAFEHOLD) ∧
      (s.md = mSERVICE → ∃ t, exec (.modeRequestReady .msp0 0xC1A5) s = .next t ∧ t.md = mREADY) ∧
      (s.md = mREADY → s.allInert = true → s.wakeEnabled = true → s.dip = false → s.mode.lpWait = false →
        s.f Fld.PWR_PMBCFG_PMB_BUSY = 0 →
        (∃ t, exec (.modeRequestStandby .msp0 0xC1A5) s = .next t ∧ t.whd.phase = .armed ∧ t.whd.target = 8) ∧
        (∃ t, exec (.modeRequestDormant .msp0 0xC1A5) s = .next t ∧ t.whd.phase = .armed ∧ t.whd.target = 9)) ∧
      (∀ x : BitVec 4, inTable s.md x = false → x ≠ 3 → x ≠ 4 →
        ∃ t, exec (.modeRequestOther .msp0 x 0xC1A5) s = .next t ∧ t.f Fld.SYS_MODE_REQST = 4 ∧ t.md = s.md))) ∧
 (∀ (env : BootEnv) (k : ResetKind) (m : BitVec 8) (s : State), s.rst.asserted = some k → s.rst.porHold = false →
    s.whd.phase = .awake → s.cis.journal = none → env.voutMode = some m → m.toNat / 32 = 0 → 0x10 ≤ m.toNat % 32 →
    m.toNat % 32 ≤ 0x17 → env.injectPass = true → s.cis.dir0.valid = true ∨ s.cis.dir1.valid = true →
    env.bootStrap = true → ∃ t, exec (.resetRelease env) s = .next t ∧ t.rst.asserted = none ∧ t.md = mCOMMISSION ∧
      t.f Fld.SYS_MODE_CAUSE = 0x11 ∧ t.f Fld.PROT_SEAL_BY_ROM = 1) ∧
 (∀ s : State, s.live = true →
    (s.rst.phase0 = true → ∃ t, exec .sealLate s = .next t ∧ t.f Fld.CIS_BOOTSTAT_HALT = 7 ∧
      (t.eng .msp0).run = .stopped) ∧
    (s.power.vreq = none → s.power.xfer = none → s.power.alertDue = false → s.f Fld.PWR_PMBCFG_PMB_BUSY = 0 →
      s.f Fld.PLB_STAT_BUSY = 0 → s.f Fld.PWR_GOV_EN = 1 → s.govTarget ≠ s.f Fld.PWR_VSTAT_PENDING →
      ∃ t, exec .governorRequest s = .next t ∧ t.power.vreq ≠ none ∧ t.f Fld.PWR_PMBCFG_PMB_BUSY = 1)) ∧
 (∀ (w : Nat) (s : State), 1000 ≤ w → ∃ t, exec (.rstN w) s = .next t ∧ t.md = mBOOT ∧
    t.rst.asserted = some (joinReset s.rst.asserted .rstN)) ∧
 (∀ s : State, s.inReset = false → s.whd.phase = .asleep →
    let woken (t : State) (src : Nat) : Prop := t.whd.phase = .waking ∧ t.f Fld.WHD_WAKESTAT_SRC = src
    (∀ ch : Fin 2, (if ch = 0 then s.f Fld.WHD_WAKECFG_K1 else s.f Fld.WHD_WAKECFG_K2) = 1 →
      ∃ t, exec (.knaorActivityWake ch) s = .next t ∧ woken t (1 + 2 * ch.val)) ∧
    (∀ ch : Fin 2, (if ch = 0 then s.f Fld.WHD_WAKECFG_K1 else s.f Fld.WHD_WAKECFG_K2) = 2 →
      ∃ t, exec (.knaorWakePattern ch) s = .next t ∧ woken t (2 + 2 * ch.val)) ∧
    (s.f Fld.WHD_WAKECFG_ENA = 1 → ∃ t, exec .enaWake s = .next t ∧ woken t 5) ∧
    (s.f Fld.WHD_WAKECFG_SAFE = 1 → ∃ t, exec .safeWireWake s = .next t ∧ woken t 6) ∧
    (s.f Fld.WHD_WAKECFG_TIMER = 1 → s.f Fld.WHD_WTIMER_PERIOD ≠ 0 → ∃ t, exec .wakeTimer s = .next t ∧ woken t 7)) ∧
 (∀ (n : Fin 4) (s : State), Passes s .msp0 Reg.CIS_CMD → s.super .msp0 = true → s.cis.running = none →
    s.dip = false → s.whd.phase = .awake → s.md = mCOMMISSION →
    let floor := s.cis.dir.floor.toNat
    let runs (t : State) (op : CisOp) : Prop := t.cis.running = some op ∧ t.f Fld.CIS_STAT_BUSY = 1
    let value := BitVec.ofNat 16 (s.f Fld.CIS_ARG_ARG)
    (s.cis.dir.stateOf n = sEMPTY → ∃ t, exec (.verify .msp0 n 0xA37E) s = .next t ∧ runs t (.verify n)) ∧
    (s.cis.dir.find sTRIAL = none → s.cis.dir.stateOf n = sSTAGED → floor ≤ s.cis.version n / 65536 →
      ∃ t, exec (.activate .msp0 n 0xA37E) s = .next t ∧ runs t (.activate n)) ∧
    (∀ m, s.cis.dir.find sTRIAL = none → s.cis.dir.find sPREVIOUS = some m → floor ≤ s.cis.version m / 65536 →
      ∃ t, exec (.rollback .msp0 n 0xA37E) s = .next t ∧ runs t .rollback) ∧
    (s.cis.dir.stateOf n ≠ sTRIAL → s.cis.dir.stateOf n ≠ sACTIVE →
      ∃ t, exec (.erase .msp0 n 0xA37E) s = .next t ∧ runs t (.erase n)) ∧
    (∀ m, s.cis.dir.find sTRIAL = none → s.cis.dir.find sACTIVE = some m → floor < value.toNat →
      value.toNat ≤ s.cis.version m / 65536 →
      ∃ t, exec (.raiseFloor .msp0 n 0xA37E) s = .next t ∧ runs t (.raiseFloor value)) ∧
    (s.cis.keyLock = false → ∃ t, exec (.fuseKey .msp0 n 0xA37E) s = .next t ∧ runs t .fuseKey)) ∧
 (∀ (e : Engine) (v : Word) (s : State), Passes s e Reg.DRV_OVCFG → s.f Fld.PROT_SEAL_SEALED = 0 →
    ∃ t, exec (.drvWrite e (BitVec.ofNat 32 Reg.DRV_OVCFG) v) s = .next t ∧ (Reg.DRV_OVCFG, v) ∈ t.drv.posted) ∧
 (∀ (v : Word) (s : State), Passes s .msp0 Reg.DRV_SPWTEST → s.super .msp0 = true → s.md = mSERVICE →
    v.toNat / 65536 = 0x7C3B →
    ∃ t, exec (.spillwayTest .msp0 v) s = .next t ∧ (Reg.DRV_SPWTEST, v) ∈ t.drv.posted) ∧
 (∀ (e : Engine) (n : Fin 5) (s : State), Pair s e (Reg.SLU_CTL n) → s.sealed = true →
    s.f (Fld.SLU_STAT_STATE n) = 0 → s.f (Fld.SLU_CTL_RUN n) = 0 →
    ∃ t, exec (.sluiceRunStart e n) s = .next t ∧ t.f (Fld.SLU_STAT_STATE n) = 1 ∧ (t.eng (.slu n)).run = .running) ∧
 (∀ (e : Engine) (b : Fin 5) (s : State),
    (Passes s e (Reg.BRG_PCMD b) →
      (∃ t, exec (.pcmdLowerShort e b) s = .next t ∧ t.f (Fld.BRG_PCMD_DEMAND b) = 1) ∧
      (∃ t, exec (.pcmdAllOff e b) s = .next t ∧ t.f (Fld.BRG_PCMD_DEMAND b) = 2) ∧
      (∃ t, exec (.pcmdNone e b) s = .next t ∧ t.f (Fld.BRG_PCMD_DEMAND b) = 0)) ∧
    (Passes s e (Reg.BRG_CTL b) → s.f Fld.PLB_STAT_BUSY = 0 → s.md = mSAFEHOLD → s.f Fld.SYS_TBSEL_ACTIVE = 2 →
      b ≠ 0 → s.f (Fld.BRG_CFG_TYPE b) = 3 → s.f (Fld.BRG_PCFG_LEGMASK b) = 3 → s.f (Fld.BRG_PCFG_SCLASS b) ≠ 1 →
      s.f (Fld.BRG_PWMSTAT_CFGERR b) = 0 → s.f (Fld.BRG_CATCHST_BUSY b) = 0 → s.f (Fld.BRG_CTL_RUN b) = 0 →
      (s.bridge b).perArmed = none → s.f (Fld.BRG_CFG_SYNC b) = 0 →
      ∃ t, exec (.bridgeRunStart e b) s = .next t ∧ t.f (Fld.BRG_CTL_RUN b) = 1) ∧
    (Passes s e (Reg.BRG_CATCHCTL b) → s.f (Fld.BRG_CFG_TYPE b) = 1 ∨ s.f (Fld.BRG_CFG_TYPE b) = 2 →
      s.f (Fld.BRG_CTL_RUN b) = 0 → (s.bridge b).latch.held = false → s.drv.ena = true → b ≠ 0 →
      ∃ t, exec (.catchStart e b) s = .next t ∧ t.f (Fld.BRG_CATCHST_BUSY b) = 1)) ∧
 (∀ (b : Fin 5) (k : Fin 3) (s : State), s.live = true → s.drv.ena = true → s.drv.vdrvOk = true →
    s.legUsed b k = true → (s.bridge b).locating = false → (s.bridge b).vdsDue = false →
    (s.bridge b).latch.held = false →
    ((s.leg b k).gate ≠ .high → ∃ t, exec (.gateStuck b k true) s = .next t ∧ (t.bridge b).latch.held = true ∧
      (t.bridge b).latch.cause = 5 ∧ (t.bridge b).latch.locH.getLsbD k.val = true) ∧
    ((s.leg b k).gate ≠ .low → ∃ t, exec (.gateStuck b k false) s = .next t ∧ (t.bridge b).latch.held = true ∧
      (t.bridge b).latch.cause = 5 ∧ (t.bridge b).latch.locL.getLsbD k.val = true) ∧
    ((s.leg b k).gate = .high → ∃ t, exec (.vdsTrip b k true) s = .next t ∧ (t.bridge b).latch.held = true ∧
      (t.bridge b).latch.cause = 2) ∧
    ((s.leg b k).gate = .low → ∃ t, exec (.vdsTrip b k false) s = .next t ∧ (t.bridge b).latch.held = true ∧
      (t.bridge b).latch.cause = 3)) ∧
 (∀ (c : Fin 6) (h : BitVec 3) (s : State), s.live = true → s.f (Fld.COG_CFG_MODE c) = 4 →
    s.f (Fld.COG_STAT_WIRE c) = 0 → h ≠ 0 → h ≠ 7 → h ≠ (s.cogOf c).hall →
    ∃ t, exec (.hallTransition c h) s = .next t ∧ (t.cogOf c).hall = h ∧ t.f (Fld.COG_STAT_HALL c) = h.toNat) ∧
 (∀ (s : State) (w : Fin 2 × Nat), s.live = true → s.knr.waking = [w] → ∃ t, exec .wakePatternEnd s = .next t ∧
    t.knr.waking = [] ∧ t.f Fld.KNR_STAT_WAKEBUSY = 0) ∧
 (∀ (i : Fin 2) (tok : StatusTok) (s : State), s.live = true → s.f Fld.PROT_SEAL_SEALED = 1 → s.whd.phase = .awake →
    s.leatExists i = true → tok.lane = s.peerAt i →
    ∃ t, exec (.statusToken i tok) s = .next t ∧ (t.peer tok.lane).status = some tok ∧ t.leat.ends[i.val].heard = true) ∧
 (∀ (e : Engine) (s : State), Passes s e Reg.LEAT_RESIGN → s.super e = true → e = .msp0 ∨ e = .miller →
    s.f Fld.PROT_SEAL_SEALED = 1 → s.live = true → s.whd.phase = .awake →
    (2 ≤ s.f Fld.SYS_MODE_ROLE → s.md = mTRIPLEX ∨ s.md = mDUPLEX ∨ s.md = mSAFEHOLD → s.mode.window = none →
      ∃ t, exec (.leatResignFault e 0x6E2A) s = .next t ∧ t.mode.window = some .resign ∧ t.f Fld.SYS_MODE_ROLE = 0) ∧
    (s.f Fld.SYS_MODE_ROLE = 3 → s.otherEligible = true → s.leat.leaving = none →
      ∃ t, exec (.leatResignYield e 0x6E2A) s = .next t ∧ t.leat.leaving.map (·.kind) = some .yield)) ∧
 (∀ (p : RacePkt) (s : State), s.live = true → s.whd.phase = .awake → s.f Fld.RACE_CTL_EN = 1 → s.dip = false →
    s.f Fld.RACE_STAT_UP = 1 →
    (packetValid p = true → s.race.bufs = [] → s.race.owed = 0 →
      (raceType p.words = 1 → raceFix p.words = false →
        let a := (p.words.getD 1 0).toNat
        let top := a + 4 * raceLen p.words
        a % 4 = 0 → 0x10000000 ≤ a → top ≤ 0x10240000 → s.f (Fld.PROT_RWIN_LIMIT_EN 0) = 1 →
        s.f (Fld.PROT_RWIN_BASE_BASE 0) ≤ 0x10000 → 0x10240 ≤ s.f (Fld.PROT_RWIN_LIMIT_LIMIT 0) →
        ∃ t, exec (.raceWrite p) s = .next t ∧ t.race.bufs = [{ words := p.words, done := raceLen p.words, fin := true }] ∧
          ∀ k, k < raceLen p.words → some (t.mem.word (a + 4 * k)) = p.words[2 + k]?) ∧
      (raceType p.words = 2 → s.f Fld.RACE_STAT_DBFULL = 0 → s.f Fld.PROT_SEAL_BY_ROM = 0 → s.race.rom = none →
        ∃ t, exec (.raceDoorbell p) s = .next t ∧ t.f Fld.RACE_STAT_DBFULL = 1 ∧ t.isPending 193 = true) ∧
      (raceType p.words = 3 ∨ raceType p.words = 4 → ∃ t, exec (.raceTraceReceived p) s = .next t ∧
        t.f Fld.RACE_CNT_RXREJ = min 255 (s.f Fld.RACE_CNT_RXREJ + 1))) ∧
    (packetValid p = true → raceType p.words = 5 →
      ∃ t, exec (.raceSync p) s = .next t ∧ t.race = { s.race with badRun := 0 }) ∧
    (∀ b : RaceBuf, s.race.bufs = [b] → b.fin = true → ∃ t, exec .raceBufferFreed s = .next t ∧
      t.race.bufs = [] ∧ t.f Fld.RACE_STAT_RXFREE = 8 ∧ Sent.credit 1 ∈ t.sent) ∧
    (∃ t, exec .rckLoss s = .next t ∧ t.f Fld.RACE_STAT_UP = 0) ∧
    (s.race.sending = none → ∃ t, exec .syncDue s = .next t ∧
      t.race.sending = some (.sync, racePacket 5 0 0 0 []))) ∧
 (∀ (n : Fin 2) (s : State), s.live = true → s.whd.phase = .awake → s.f (Fld.CAN_CTL_EN n) = 1 →
    s.f Fld.SYS_TBSEL_ACTIVE ≠ 0 → s.f (Fld.CAN_STAT_STATE n) ≠ 3 →
    (∀ tec rec : Nat, ∃ t, exec (.canBusError n tec rec) s = .next t ∧ t.f (Fld.CAN_STAT_TEC n) = min 255 tec ∧
      t.f (Fld.CAN_STAT_REC n) = min 255 rec) ∧
    (∀ f : CanFrame, (s.canUnit n).cur = some f → s.f (Fld.CAN_CTL_LISTEN n) = 0 → s.f (Fld.CAN_CTL_LOOP n) = 0 →
      f.w0.getLsbD 30 = false ∨ s.f (Fld.CAN_CTL_FDE n) = 1 →
      ∃ t, exec (.canTxDone n) s = .next t ∧ t.sent = s.sent ++ [.can n (canWire f)] ∧
        (t.canUnit n).tx = (s.canUnit n).tx.erase f)) ∧
 (∀ s : State, s.live = true →
    (∀ n : Fin 5, s.plb.priming = some n → n ≠ 4 → s.cisFree = true → ∃ t, exec .primingDone s = .next t ∧
      t.plb.priming = none ∧ t.plb.log.retIdx = n.val) ∧
    (∀ ok : Bool, s.plb.selfTest = true → ∃ t, exec (.reserveSelfTestDone ok) s = .next t ∧ t.plb.selfTest = false ∧
      t.f (if ok then Fld.PLB_SPARE_TPASS else Fld.PLB_SPARE_TFAIL) = 1) ∧
    (∀ (arr : Fin 19) (row n : Nat) (found : Option (List (Fin 128))), row < WellFormed.arrayRows arr.val →
      arr.val < 9 → s.f Fld.PROT_SEAL_SEALED = 1 → (s.eng .miller).run = .running →
      ∃ t, exec (.marchTestRow arr row n found) s = .next t ∧
        t.f (Fld.PLB_ROWS_CORR arr.val) = min 255 (s.f (Fld.PLB_ROWS_CORR arr.val) + n)) ∧
    (∀ (arr : Fin 19) (row cause : Nat), row < WellFormed.arrayRows arr.val → ((arr.val, row), cause) ∈ s.plb.repairing →
      s.arrayIdle arr.val = true → s.plb.log.rows[arr.val] < 127 →
      ∃ t, exec (.rowRepairDone arr row true) s = .next t ∧
        t.f (Fld.PLB_ROWS_USED arr.val) = s.plb.log.rows[arr.val] + 1))
end

