-- ==== Sys2Proof/Laws/Cells.lean ====
section
/-!
SUPPORT. Sparse cells and memories: what is read after a write, and the canonical form, which every
operation keeps.
-/

namespace Sys2Proof.Machine

variable {α : Type}

/-! ### Cells -/

/-- An erased address reads as an unlisted one; the others stay. -/
theorem Cells.get_erase (d : Nat → α) (m : List (Nat × α)) (a b : Nat) :
    Cells.get d (Cells.erase m a) b = if b = a then d a else Cells.get d m b := by
  induction m with
  | nil => by_cases h : b = a <;> simp [Cells.erase, Cells.get, h]
  | cons c r ih =>
    obtain ⟨x, w⟩ := c
    simp only [Cells.erase]
    by_cases h : a = x
    · rw [if_pos h, ih]
      by_cases hb : b = a
      · simp [hb]
      · simp [Cells.get, hb, show ¬ b = x from fun e => hb (e.trans h.symm)]
    · rw [if_neg h]
      simp only [Cells.get]
      by_cases hb : b = x
      · simp [hb, show ¬ x = a from fun e => h e.symm]
      · simp [hb, ih]

/-- Nothing is left at an erased address. -/
theorem Cells.erase_ne (m : List (Nat × α)) (a : Nat) : ∀ e ∈ Cells.erase m a, e.1 ≠ a := by
  induction m with
  | nil => simp [Cells.erase]
  | cons c r ih =>
    obtain ⟨x, w⟩ := c
    simp only [Cells.erase]
    by_cases h : a = x
    · rw [if_pos h]; exact ih
    · rw [if_neg h]
      intro e he
      rcases List.mem_cons.mp he with rfl | he
      · exact fun e => h e.symm
      · exact ih e he

/-- What is left after an erasure was there before. -/
theorem Cells.mem_of_mem_erase (m : List (Nat × α)) (a : Nat) : ∀ e ∈ Cells.erase m a, e ∈ m := by
  induction m with
  | nil => simp [Cells.erase]
  | cons c r ih =>
    obtain ⟨x, w⟩ := c
    simp only [Cells.erase]
    intro e he
    by_cases h : a = x
    · rw [if_pos h] at he
      exact List.mem_cons_of_mem _ (ih e he)
    · rw [if_neg h] at he
      rcases List.mem_cons.mp he with rfl | he
      · simp
      · exact List.mem_cons_of_mem _ (ih e he)

/-- What is put at an address that the cells do not list reads there; the others stay. -/
theorem Cells.get_insert (d : Nat → α) (m : List (Nat × α)) (a b : Nat) (v : α) (h : ∀ e ∈ m, e.1 ≠ a) :
    Cells.get d (Cells.insert a v m) b = if b = a then v else Cells.get d m b := by
  induction m with
  | nil => by_cases hb : b = a <;> simp [Cells.insert, Cells.get, hb]
  | cons c r ih =>
    obtain ⟨x, w⟩ := c
    simp only [Cells.insert]
    by_cases hx : a < x
    · simp only [if_pos hx, Cells.get]
    · rw [if_neg hx]
      simp only [Cells.get]
      have hne : x ≠ a := h (x, w) (by simp)
      by_cases hb : b = x
      · simp [hb, hne]
      · simp [hb, ih (fun e he => h e (List.mem_cons_of_mem _ he))]

/-- The value set is read at its address; every other address reads as before. -/
theorem Cells.get_set [DecidableEq α] (d : Nat → α) (m : List (Nat × α)) (a b : Nat) (v : α) :
    Cells.get d (Cells.set d m a v) b = if b = a then v else Cells.get d m b := by
  unfold Cells.set
  by_cases hv : v = d a
  · rw [if_pos hv, Cells.get_erase, hv]
  · rw [if_neg hv, Cells.get_insert _ _ _ _ _ (Cells.erase_ne m a), Cells.get_erase]
    by_cases hb : b = a <;> simp [hb]

/-- What an insertion lists is the new cell and the old ones. -/
theorem Cells.mem_insert (a : Nat) (v : α) (m : List (Nat × α)) (e : Nat × α) :
    e ∈ Cells.insert a v m ↔ e = (a, v) ∨ e ∈ m := by
  induction m with
  | nil => simp [Cells.insert]
  | cons c r ih =>
    obtain ⟨x, w⟩ := c
    simp only [Cells.insert]
    by_cases hx : a < x
    · simp [if_pos hx]
    · simp only [if_neg hx, List.mem_cons, ih]
      tauto

/-- Erasing keeps the canonical form. -/
theorem Cells.erase_wf (d : Nat → α) (m : List (Nat × α)) (a : Nat) (h : Cells.wf d m) :
    Cells.wf d (Cells.erase m a) := by
  refine ⟨?_, fun e he => h.2 e (Cells.mem_of_mem_erase m a e he)⟩
  obtain ⟨h, -⟩ := h
  induction m with
  | nil => simp [Cells.erase]
  | cons c r ih =>
    obtain ⟨x, w⟩ := c
    rw [List.pairwise_cons] at h
    simp only [Cells.erase]
    by_cases hx : a = x
    · rw [if_pos hx]; exact ih h.2
    · rw [if_neg hx, List.pairwise_cons]
      exact ⟨fun e he => h.1 e (Cells.mem_of_mem_erase r a e he), ih h.2⟩

/-- Putting a new address at its place keeps the addresses rising. -/
theorem Cells.insert_pairwise (a : Nat) (v : α) (m : List (Nat × α))
    (h : m.Pairwise (fun x y => x.1 < y.1)) (ha : ∀ e ∈ m, e.1 ≠ a) :
    (Cells.insert a v m).Pairwise (fun x y => x.1 < y.1) := by
  induction m with
  | nil => simp [Cells.insert]
  | cons c r ih =>
    obtain ⟨x, w⟩ := c
    have hr := List.pairwise_cons.mp h
    simp only [Cells.insert]
    by_cases hx : a < x
    · rw [if_pos hx, List.pairwise_cons]
      refine ⟨fun e he => ?_, h⟩
      rcases List.mem_cons.mp he with rfl | he
      · exact hx
      · exact lt_trans hx (hr.1 e he)
    · have hne : x ≠ a := ha (x, w) (by simp)
      rw [if_neg hx, List.pairwise_cons]
      refine ⟨fun e he => ?_, ih hr.2 (fun e he => ha e (List.mem_cons_of_mem _ he))⟩
      rcases (Cells.mem_insert a v r e).mp he with rfl | he
      · show x < a; omega
      · exact hr.1 e he

/-- Setting keeps the canonical form. -/
theorem Cells.set_wf [DecidableEq α] (d : Nat → α) (m : List (Nat × α)) (a : Nat) (v : α) (h : Cells.wf d m) :
    Cells.wf d (Cells.set d m a v) := by
  have he := Cells.erase_wf d m a h
  unfold Cells.set
  by_cases hv : v = d a
  · rw [if_pos hv]; exact he
  · rw [if_neg hv]
    refine ⟨Cells.insert_pairwise a v _ he.1 (Cells.erase_ne m a), fun e hm => ?_⟩
    rcases (Cells.mem_insert a v _ e).mp hm with rfl | hm
    · exact hv
    · exact he.2 e hm

/-- A part of cells in canonical form is in canonical form. -/
theorem Cells.filter_wf (d : Nat → α) (m : List (Nat × α)) (p : Nat × α → Bool) (h : Cells.wf d m) :
    Cells.wf d (m.filter p) :=
  ⟨h.1.filter p, fun e he => h.2 e (List.mem_filter.mp he).1⟩

/-- A part of the cells chosen by address reads as before where it is chosen, and as unlisted elsewhere. -/
theorem Cells.get_filter (d : Nat → α) (m : List (Nat × α)) (p : Nat → Bool) (a : Nat) :
    Cells.get d (m.filter (fun e => p e.1)) a = if p a then Cells.get d m a else d a := by
  induction m with
  | nil => simp [Cells.get]
  | cons c r ih =>
    obtain ⟨x, w⟩ := c
    simp only [List.filter_cons]
    by_cases hp : p x = true
    · rw [if_pos hp]
      by_cases h : a = x
      · subst h; simp [Cells.get, hp]
      · simp [Cells.get, h, ih]
    · rw [if_neg hp, ih]
      by_cases h : a = x
      · subst h; simp [hp]
      · simp [Cells.get, h]

/-- An address below all that cells list reads as unlisted. -/
theorem Cells.get_of_lt (d : Nat → α) (m : List (Nat × α)) (a : Nat) (h : ∀ e ∈ m, a < e.1) :
    Cells.get d m a = d a := by
  induction m with
  | nil => rfl
  | cons c r ih =>
    obtain ⟨x, w⟩ := c
    have hx : a < x := h (x, w) (by simp)
    simp [Cells.get, show ¬ a = x by omega, ih (fun e he => h e (List.mem_cons_of_mem _ he))]

/-- Cells in canonical form that read alike are equal data. -/
theorem Cells.ext (d : Nat → α) (m n : List (Nat × α)) (hm : Cells.wf d m) (hn : Cells.wf d n)
    (h : ∀ a, Cells.get d m a = Cells.get d n a) : m = n := by
  induction m generalizing n with
  | nil =>
    cases n with
    | nil => rfl
    | cons c r =>
      obtain ⟨x, w⟩ := c
      have := h x
      simp only [Cells.get, if_true] at this
      exact absurd this.symm (hn.2 (x, w) (by simp))
  | cons c r ih =>
    obtain ⟨x, w⟩ := c
    have hr := List.pairwise_cons.mp hm.1
    cases n with
    | nil =>
      have := h x
      simp only [Cells.get, if_true] at this
      exact absurd this (hm.2 (x, w) (by simp))
    | cons c' r' =>
      obtain ⟨y, v⟩ := c'
      have hr' := List.pairwise_cons.mp hn.1
      have hxy : x = y := by
        by_contra hne
        rcases lt_or_gt_of_ne hne with hl | hl
        · have := h x
          simp only [Cells.get, if_true, if_neg hne] at this
          rw [Cells.get_of_lt d r' x (fun e he => lt_trans hl (hr'.1 e he))] at this
          exact hm.2 (x, w) (by simp) this
        · have := h y
          simp only [Cells.get, if_true, if_neg (Ne.symm hne)] at this
          rw [Cells.get_of_lt d r y (fun e he => lt_trans hl (hr.1 e he))] at this
          exact hn.2 (y, v) (by simp) this.symm
      subst hxy
      have hw : w = v := by simpa [Cells.get] using h x
      subst hw
      congr 1
      refine ih r' ⟨hr.2, fun e he => hm.2 e (List.mem_cons_of_mem _ he)⟩
        ⟨hr'.2, fun e he => hn.2 e (List.mem_cons_of_mem _ he)⟩ (fun a => ?_)
      by_cases ha : a = x
      · subst ha
        rw [Cells.get_of_lt d r a hr.1, Cells.get_of_lt d r' a hr'.1]
      · simpa [Cells.get, ha] using h a

/-! ### Memories -/

/-- The byte written reads; every other byte stays. -/
theorem Memory.byte_setByte (m : Memory) (a b : Nat) (v : Byte) :
    (m.setByte a v).byte b = if b = a then v else m.byte b := Cells.get_set memDefault m a b v

/-- The bytes after a little-endian write: the number's inside, the old ones outside. -/
theorem Memory.byte_write (m : Memory) (a n v b : Nat) :
    (m.write a n v).byte b = if a ≤ b ∧ b < a + n then BitVec.ofNat 8 (v / 256 ^ (b - a)) else m.byte b := by
  induction n generalizing m a v with
  | zero => simp [Memory.write]
  | succ n ih =>
    rw [Memory.write, ih, Memory.byte_setByte]
    by_cases h : b = a
    · subst h; simp
    · by_cases h2 : a + 1 ≤ b ∧ b < a + 1 + n
      · rw [if_pos h2, if_pos (by omega), Nat.div_div_eq_div_mul, ← Nat.pow_succ']
        congr 3; omega
      · rw [if_neg h2, if_neg h, if_neg (by omega)]

/-- Bytes that a write does not reach read as before. -/
theorem Memory.byte_write_other (m : Memory) (a n v b : Nat) (h : b < a ∨ a + n ≤ b) :
    (m.write a n v).byte b = m.byte b := by rw [Memory.byte_write, if_neg (by omega)]

/-- Numbers read from bytes that are alike are alike. -/
theorem Memory.read_congr (m m' : Memory) (a n : Nat) (h : ∀ k < n, m.byte (a + k) = m'.byte (a + k)) :
    m.read a n = m'.read a n := by
  induction n generalizing a with
  | zero => rfl
  | succ n ih =>
    have h0 := h 0 (by omega)
    simp only [Nat.add_zero] at h0
    rw [Memory.read, Memory.read, h0, ih (a + 1) (fun k hk => by
      have := h (k + 1) (by omega)
      rwa [show a + (k + 1) = a + 1 + k by omega] at this)]

/-- A read after a write to the same place gives the number written. -/
theorem Memory.read_write_same (m : Memory) (a n v : Nat) : (m.write a n v).read a n = v % 256 ^ n := by
  induction n generalizing m a v with
  | zero => simp [Memory.read, Nat.mod_one]
  | succ n ih =>
    rw [Memory.read]
    have h0 : (m.write a (n + 1) v).byte a = BitVec.ofNat 8 v := by simp [Memory.byte_write]
    have h1 : (m.write a (n + 1) v).read (a + 1) n = (v / 256) % 256 ^ n := by
      rw [Memory.write]; exact ih _ _ _
    rw [h0, h1, BitVec.toNat_ofNat, show (2 : Nat) ^ 8 = 256 from rfl, Nat.pow_succ', Nat.mod_mul]

/-- A read beside a write gives what it gave before. -/
theorem Memory.read_write_other (m : Memory) (a n v b k : Nat) (h : b + k ≤ a ∨ a + n ≤ b) :
    (m.write a n v).read b k = m.read b k :=
  Memory.read_congr _ _ _ _ (fun _ _ => Memory.byte_write_other _ _ _ _ _ (by omega))

/-- The word written reads. -/
theorem Memory.word_write_same (m : Memory) (a : Nat) (w : Word) : (m.write a 4 w.toNat).word a = w := by
  unfold Memory.word
  rw [Memory.read_write_same, Nat.mod_eq_of_lt (by simpa using w.isLt)]
  simp

/-- The bytes after a list of bytes was written. -/
theorem Memory.byte_writeBytes (m : Memory) (a : Nat) (bs : List Byte) (b : Nat) :
    (m.writeBytes a bs).byte b = if a ≤ b ∧ b < a + bs.length then bs[b - a]?.getD 0 else m.byte b := by
  induction bs generalizing m a with
  | nil => simp [Memory.writeBytes, show ¬ (a ≤ b ∧ b < a) by omega]
  | cons x r ih =>
    rw [Memory.writeBytes, ih, Memory.byte_setByte]
    by_cases h : b = a
    · subst h; simp
    · by_cases h2 : a + 1 ≤ b ∧ b < a + 1 + r.length
      · rw [if_pos h2, if_pos (by simp only [List.length_cons]; omega),
          show b - a = (b - (a + 1)) + 1 by omega, List.getElem?_cons_succ]
      · rw [if_neg h2, if_neg h, if_neg (by simp only [List.length_cons]; omega)]

/-- Every memory operation keeps the canonical form. -/
theorem Memory.setByte_wf (m : Memory) (a : Nat) (v : Byte) (h : m.wf) : (m.setByte a v).wf :=
  Cells.set_wf memDefault m a v h

theorem Memory.write_wf (m : Memory) (a n v : Nat) (h : m.wf) : (m.write a n v).wf := by
  induction n generalizing m a v with
  | zero => exact h
  | succ n ih => exact ih _ _ _ (Memory.setByte_wf _ _ _ h)

theorem Memory.writeBytes_wf (m : Memory) (a : Nat) (bs : List Byte) (h : m.wf) : (m.writeBytes a bs).wf := by
  induction bs generalizing m a with
  | nil => exact h
  | cons x r ih => exact ih _ _ (Memory.setByte_wf _ _ _ h)

/-- The memories and the register words of the reset state are in canonical form. -/
theorem State.reset_wf : Memory.wf State.reset.mem ∧ Memory.wf State.reset.cis.bytes ∧
    Cells.wf resetWord State.reset.regs := by
  simp [State.reset, Memory.wf, Cells.wf]

end Sys2Proof.Machine
end

