-- ==== Sys2Proof/Laws/Words.lean ====
section
/-!
SUPPORT. Fields and bits of words: what a field that was put reads, and which bits a put leaves.
-/

namespace Sys2Proof.Word

/-- The bits of a mask. -/
theorem getLsbD_mask (lo w k : Nat) (hk : k < 32) :
    (mask lo w).getLsbD k = (decide (lo ≤ k) && decide (k < lo + w)) := by
  unfold mask
  rw [BitVec.getLsbD_ofNat, Nat.testBit_mul_two_pow, Nat.testBit_two_pow_sub_one]
  simp only [hk, decide_true, Bool.true_and]
  by_cases h : lo ≤ k
  · simp [h]; omega
  · simp [h]

/-- The bits after a put: those of the field are the value's, the others stay. -/
theorem getLsbD_put (x : Word) (lo w v k : Nat) (hk : k < 32) :
    (put x lo w v).getLsbD k =
      if lo ≤ k ∧ k < lo + w then v.testBit (k - lo) else x.getLsbD k := by
  unfold put
  rw [BitVec.getLsbD_or, BitVec.getLsbD_and, BitVec.getLsbD_not, getLsbD_mask _ _ _ hk,
    BitVec.getLsbD_ofNat, Nat.testBit_mul_two_pow, Nat.testBit_mod_two_pow]
  simp only [hk, decide_true, Bool.true_and]
  by_cases h : lo ≤ k
  · by_cases h2 : k < lo + w
    · have : k - lo < w := by omega
      simp [h, h2, this]
    · have : ¬ k - lo < w := by omega
      simp [h, h2, this]
  · simp [h]

/-- A bit read as a flag. -/
theorem bit_eq (x : Word) (i : Nat) : bit x i = x.getLsbD i := rfl

/-- The bits of a field's number. -/
theorem testBit_field (x : Word) (lo w k : Nat) :
    (field x lo w).testBit k = (decide (k < w) && x.getLsbD (lo + k)) := by
  unfold field
  rw [Nat.testBit_mod_two_pow, Nat.testBit_div_two_pow, Nat.add_comm]
  rfl

/-- A field is below its width's power. -/
theorem field_lt (x : Word) (lo w : Nat) : field x lo w < 2 ^ w := by
  unfold field
  exact Nat.mod_lt _ (Nat.two_pow_pos w)

/-- What was put in a field is read from it. -/
theorem field_put_same (x : Word) (lo w v : Nat) (h : lo + w ≤ 32) :
    field (put x lo w v) lo w = v % 2 ^ w := by
  apply Nat.eq_of_testBit_eq
  intro k
  rw [testBit_field, Nat.testBit_mod_two_pow]
  by_cases hk : k < w
  · rw [getLsbD_put _ _ _ _ _ (by omega)]
    have h1 : lo ≤ lo + k ∧ lo + k < lo + w := by omega
    simp [hk]
  · simp [hk]

/-- A put leaves the fields beside it. -/
theorem field_put_other (x : Word) (lo w v lo' w' : Nat) (h : lo' + w' ≤ 32)
    (hd : lo + w ≤ lo' ∨ lo' + w' ≤ lo) : field (put x lo w v) lo' w' = field x lo' w' := by
  apply Nat.eq_of_testBit_eq
  intro k
  rw [testBit_field, testBit_field]
  by_cases hk : k < w'
  · rw [getLsbD_put _ _ _ _ _ (by omega), if_neg (by omega)]
  · simp [hk]

end Sys2Proof.Word
end

