-- ==== Sys2Proof/Laws/Engine.lean ====
section
/-!
SUPPORT. What an engine's instruction does to the state: the flags it writes, and where it issues.
-/

namespace Sys2Proof.Machine

open Sys2Proof.Safety

/-- The bits of PSW after one flag was set. -/
theorem getLsbD_setFlag (p : Word) (i : Nat) (b : Bool) (k : Nat) (hk : k < 32) :
    (setFlag p i b).getLsbD k = if k = i then b else p.getLsbD k := by
  unfold setFlag
  rw [Word.getLsbD_put _ _ _ _ _ hk]
  by_cases h : k = i
  · subst h
    cases b <;> simp [Word.ofBool]
  · rw [if_neg (by omega), if_neg h]

/-- An engine that is not the pair in lockstep has no lag. -/
theorem State.keepUp_single (s : State) (e : Engine) (h : s.paired e = false) : s.keepUp e = s := by
  simp [State.keepUp, h]

theorem State.closeLag_single (s : State) (e : Engine) (h : s.paired e = false) : s.closeLag e = s := by
  simp [State.closeLag, h]

theorem State.push_single (t s : State) (e : Engine) (h : s.paired e = false) : t.push s e = t := by
  simp [State.push, h]

theorem State.ahead_single (s : State) (e : Engine) (h : s.paired e = false) : s.ahead e = s := by
  simp [State.ahead, h]

theorem State.capture_single (s : State) (e : Engine) (k : InputKind) (v : Word) (h : s.paired e = false) :
    s.capture e k v = s := by
  simp [State.capture, h]

/-- An instruction that is ready, legal and permitted has its effect. -/
theorem State.issue_ok (s : State) (e : Engine) (n major : Nat) (body : State → State) (h : Issues s e n) :
    s.issue e n major true body = (body s).push s e := by
  simp [State.issue, h.1, h.2.1, h.2.2.1, h.2.2.2.1, h.2.2.2.2]

/-- An instruction of an engine that does not issue changes nothing. -/
theorem State.issue_idle (s : State) (e : Engine) (n major : Nat) (ok : Bool) (body : State → State)
    (k : s.keepUp e = s) (h : s.canIssue e = false) : s.issue e n major ok body = s := by
  simp [State.issue, k, h]

/-- An instruction whose fields are not legal raises ILLEGAL with its major (R131, R152). -/
theorem State.issue_illegal (s : State) (e : Engine) (n major : Nat) (body : State → State) (h : Issues s e n) :
    s.issue e n major false body = (s.raiseExc e { code := 1, info := major }).push s e := by
  simp [State.issue, h.1, h.2.1, h.2.2.1, h.2.2.2.1]

/-- An instruction on its engine's registers that is ready. -/
theorem State.issueReg_ok (s : State) (e : Engine) (n major : Nat) (f : EngState → EngState) (h : Issues s e n) :
    s.issueReg e n major true f = (s.setEng e ((f (s.eng e)).next n)).push s e := by
  simp [State.issueReg, State.issue_ok _ _ _ _ _ h, State.updEng]

/-- What an instruction does it does from where core 1 has caught up (R215). -/
theorem State.issue_keepUp (s : State) (e : Engine) (n major : Nat) (ok : Bool) (body : State → State)
    (k : (s.keepUp e).keepUp e = s.keepUp e) (h : (s.keepUp e).canIssue e = true) :
    s.issue e n major ok body = (s.keepUp e).issue e n major ok body := by
  simp [State.issue, k, h]

/-- An engine that issues is running, in a lane that is powered and out of reset, with no event entry due. -/
theorem State.canIssue_cases (s : State) (e : Engine) (h : s.canIssue e = true) :
    s.live = true ∧ (s.eng e).run = .running ∧ (e = .msp1 → s.lockstep = false) ∧ s.held e = false ∧
      s.eventDue e = false := by
  unfold State.canIssue at h
  simp only [Bool.and_eq_true, Bool.not_eq_true', Bool.and_eq_false_iff, beq_iff_eq, beq_eq_false_iff_ne] at h
  obtain ⟨⟨⟨⟨h1, h2⟩, h3⟩, h5⟩, h4⟩ := h
  refine ⟨h1, h2, fun he => ?_, h5, h4⟩
  rcases h3 with h3 | h3
  · exact absurd he h3
  · exact h3

/-- An exception is entered where none is being handled (R153). -/
theorem State.takeExc_enter (s : State) (e : Engine) (c : Exc) (h : (s.eng e).psw.bit 10 = false) :
    s.takeExc e c = s.updEng e (fun x => x.enter (twoLevel e) c) := by
  simp [State.takeExc, h]

/-- An exception while one is being handled is a double fault (R156). -/
theorem State.takeExc_double (s : State) (e : Engine) (c : Exc) (h : (s.eng e).psw.bit 10 = true) :
    s.takeExc e c = s.doubleFault e c.code := by
  simp [State.takeExc, h]

/-- The g register that was written reads what was written; the others stay. -/
theorem EngState.getG_setG (x : EngState) (d k : BitVec 5) (w : Word) :
    (x.setG d w).getG k = if k = d then w else x.getG k := by
  unfold EngState.setG EngState.getG
  simp only [Vector.getElem_set]
  by_cases h : k = d
  · simp [h]
  · have : ¬ d.toNat = k.toNat := fun e => h (BitVec.eq_of_toNat_eq e.symm)
    simp [h, this]

@[simp] theorem EngState.setG_psw (x : EngState) (d : BitVec 5) (w : Word) : (x.setG d w).psw = x.psw := rfl
@[simp] theorem EngState.setG_pc (x : EngState) (d : BitVec 5) (w : Word) : (x.setG d w).pc = x.pc := rfl
@[simp] theorem EngState.getG_psw (x : EngState) (k : BitVec 5) (p : Word) :
    EngState.getG { x with psw := p } k = x.getG k := rfl
@[simp] theorem EngState.next_psw (x : EngState) (n : Nat) : (x.next n).psw = x.psw := rfl
@[simp] theorem EngState.next_getG (x : EngState) (n : Nat) (k : BitVec 5) : (x.next n).getG k = x.getG k := rfl
@[simp] theorem EngState.next_pc (x : EngState) (n : Nat) : (x.next n).pc = x.pc + BitVec.ofNat 32 (4 * n) := rfl
@[simp] theorem EngState.next_retired (x : EngState) (n : Nat) : (x.next n).retired = x.retired + 1 := rfl

end Sys2Proof.Machine
end

