-- ==== Sys2Proof/Laws/State.lean ====
section
/-!
SUPPORT. Which parts of the state the named updates leave as they are: one lemma for each part and
each update, so that no proof unfolds a record update.
-/

namespace Sys2Proof.Machine

variable (s : State)

/-! ### `setReg` -/

@[simp] theorem State.setReg_lane (a : Nat) (w : Word) : (s.setReg a w).lane = s.lane := rfl
@[simp] theorem State.setReg_variant (a : Nat) (w : Word) : (s.setReg a w).variant = s.variant := rfl
@[simp] theorem State.setReg_pending (a : Nat) (w : Word) : (s.setReg a w).pending = s.pending := rfl
@[simp] theorem State.setReg_free (a : Nat) (w : Word) : (s.setReg a w).free = s.free := rfl
@[simp] theorem State.setReg_tnow (a : Nat) (w : Word) : (s.setReg a w).tnow = s.tnow := rfl
@[simp] theorem State.setReg_age (a : Nat) (w : Word) : (s.setReg a w).age = s.age := rfl
@[simp] theorem State.setReg_now (a : Nat) (w : Word) : (s.setReg a w).now = s.now := rfl
@[simp] theorem State.setReg_shadow (a : Nat) (w : Word) : (s.setReg a w).shadow = s.shadow := rfl
@[simp] theorem State.setReg_mem (a : Nat) (w : Word) : (s.setReg a w).mem = s.mem := rfl
@[simp] theorem State.setReg_ecc (a : Nat) (w : Word) : (s.setReg a w).ecc = s.ecc := rfl
@[simp] theorem State.setReg_ecc1 (a : Nat) (w : Word) : (s.setReg a w).ecc1 = s.ecc1 := rfl
@[simp] theorem State.setReg_engs (a : Nat) (w : Word) : (s.setReg a w).engs = s.engs := rfl
@[simp] theorem State.setReg_pair (a : Nat) (w : Word) : (s.setReg a w).pair = s.pair := rfl
@[simp] theorem State.setReg_rst (a : Nat) (w : Word) : (s.setReg a w).rst = s.rst := rfl
@[simp] theorem State.setReg_mode (a : Nat) (w : Word) : (s.setReg a w).mode = s.mode := rfl
@[simp] theorem State.setReg_power (a : Nat) (w : Word) : (s.setReg a w).power = s.power := rfl
@[simp] theorem State.setReg_whd (a : Nat) (w : Word) : (s.setReg a w).whd = s.whd := rfl
@[simp] theorem State.setReg_cis (a : Nat) (w : Word) : (s.setReg a w).cis = s.cis := rfl
@[simp] theorem State.setReg_drv (a : Nat) (w : Word) : (s.setReg a w).drv = s.drv := rfl
@[simp] theorem State.setReg_brg (a : Nat) (w : Word) : (s.setReg a w).brg = s.brg := rfl
@[simp] theorem State.setReg_adc (a : Nat) (w : Word) : (s.setReg a w).adc = s.adc := rfl
@[simp] theorem State.setReg_slu (a : Nat) (w : Word) : (s.setReg a w).slu = s.slu := rfl
@[simp] theorem State.setReg_cog (a : Nat) (w : Word) : (s.setReg a w).cog = s.cog := rfl
@[simp] theorem State.setReg_knr (a : Nat) (w : Word) : (s.setReg a w).knr = s.knr := rfl
@[simp] theorem State.setReg_leat (a : Nat) (w : Word) : (s.setReg a w).leat = s.leat := rfl
@[simp] theorem State.setReg_safe (a : Nat) (w : Word) : (s.setReg a w).safe = s.safe := rfl
@[simp] theorem State.setReg_race (a : Nat) (w : Word) : (s.setReg a w).race = s.race := rfl
@[simp] theorem State.setReg_can (a : Nat) (w : Word) : (s.setReg a w).can = s.can := rfl
@[simp] theorem State.setReg_plb (a : Nat) (w : Word) : (s.setReg a w).plb = s.plb := rfl
@[simp] theorem State.setReg_tap (a : Nat) (w : Word) : (s.setReg a w).tap = s.tap := rfl
@[simp] theorem State.setReg_sent (a : Nat) (w : Word) : (s.setReg a w).sent = s.sent := rfl

/-! ### `setF` -/

@[simp] theorem State.setF_lane (x : Field) (v : Nat) : (s.setF x v).lane = s.lane := rfl
@[simp] theorem State.setF_variant (x : Field) (v : Nat) : (s.setF x v).variant = s.variant := rfl
@[simp] theorem State.setF_pending (x : Field) (v : Nat) : (s.setF x v).pending = s.pending := rfl
@[simp] theorem State.setF_free (x : Field) (v : Nat) : (s.setF x v).free = s.free := rfl
@[simp] theorem State.setF_tnow (x : Field) (v : Nat) : (s.setF x v).tnow = s.tnow := rfl
@[simp] theorem State.setF_age (x : Field) (v : Nat) : (s.setF x v).age = s.age := rfl
@[simp] theorem State.setF_now (x : Field) (v : Nat) : (s.setF x v).now = s.now := rfl
@[simp] theorem State.setF_shadow (x : Field) (v : Nat) : (s.setF x v).shadow = s.shadow := rfl
@[simp] theorem State.setF_mem (x : Field) (v : Nat) : (s.setF x v).mem = s.mem := rfl
@[simp] theorem State.setF_ecc (x : Field) (v : Nat) : (s.setF x v).ecc = s.ecc := rfl
@[simp] theorem State.setF_ecc1 (x : Field) (v : Nat) : (s.setF x v).ecc1 = s.ecc1 := rfl
@[simp] theorem State.setF_engs (x : Field) (v : Nat) : (s.setF x v).engs = s.engs := rfl
@[simp] theorem State.setF_pair (x : Field) (v : Nat) : (s.setF x v).pair = s.pair := rfl
@[simp] theorem State.setF_rst (x : Field) (v : Nat) : (s.setF x v).rst = s.rst := rfl
@[simp] theorem State.setF_mode (x : Field) (v : Nat) : (s.setF x v).mode = s.mode := rfl
@[simp] theorem State.setF_power (x : Field) (v : Nat) : (s.setF x v).power = s.power := rfl
@[simp] theorem State.setF_whd (x : Field) (v : Nat) : (s.setF x v).whd = s.whd := rfl
@[simp] theorem State.setF_cis (x : Field) (v : Nat) : (s.setF x v).cis = s.cis := rfl
@[simp] theorem State.setF_drv (x : Field) (v : Nat) : (s.setF x v).drv = s.drv := rfl
@[simp] theorem State.setF_brg (x : Field) (v : Nat) : (s.setF x v).brg = s.brg := rfl
@[simp] theorem State.setF_adc (x : Field) (v : Nat) : (s.setF x v).adc = s.adc := rfl
@[simp] theorem State.setF_slu (x : Field) (v : Nat) : (s.setF x v).slu = s.slu := rfl
@[simp] theorem State.setF_cog (x : Field) (v : Nat) : (s.setF x v).cog = s.cog := rfl
@[simp] theorem State.setF_knr (x : Field) (v : Nat) : (s.setF x v).knr = s.knr := rfl
@[simp] theorem State.setF_leat (x : Field) (v : Nat) : (s.setF x v).leat = s.leat := rfl
@[simp] theorem State.setF_safe (x : Field) (v : Nat) : (s.setF x v).safe = s.safe := rfl
@[simp] theorem State.setF_race (x : Field) (v : Nat) : (s.setF x v).race = s.race := rfl
@[simp] theorem State.setF_can (x : Field) (v : Nat) : (s.setF x v).can = s.can := rfl
@[simp] theorem State.setF_plb (x : Field) (v : Nat) : (s.setF x v).plb = s.plb := rfl
@[simp] theorem State.setF_tap (x : Field) (v : Nat) : (s.setF x v).tap = s.tap := rfl
@[simp] theorem State.setF_sent (x : Field) (v : Nat) : (s.setF x v).sent = s.sent := rfl

/-! ### `setB` -/

@[simp] theorem State.setB_lane (x : Field) (b : Bool) : (s.setB x b).lane = s.lane := rfl
@[simp] theorem State.setB_variant (x : Field) (b : Bool) : (s.setB x b).variant = s.variant := rfl
@[simp] theorem State.setB_pending (x : Field) (b : Bool) : (s.setB x b).pending = s.pending := rfl
@[simp] theorem State.setB_free (x : Field) (b : Bool) : (s.setB x b).free = s.free := rfl
@[simp] theorem State.setB_tnow (x : Field) (b : Bool) : (s.setB x b).tnow = s.tnow := rfl
@[simp] theorem State.setB_age (x : Field) (b : Bool) : (s.setB x b).age = s.age := rfl
@[simp] theorem State.setB_now (x : Field) (b : Bool) : (s.setB x b).now = s.now := rfl
@[simp] theorem State.setB_shadow (x : Field) (b : Bool) : (s.setB x b).shadow = s.shadow := rfl
@[simp] theorem State.setB_mem (x : Field) (b : Bool) : (s.setB x b).mem = s.mem := rfl
@[simp] theorem State.setB_ecc (x : Field) (b : Bool) : (s.setB x b).ecc = s.ecc := rfl
@[simp] theorem State.setB_ecc1 (x : Field) (b : Bool) : (s.setB x b).ecc1 = s.ecc1 := rfl
@[simp] theorem State.setB_engs (x : Field) (b : Bool) : (s.setB x b).engs = s.engs := rfl
@[simp] theorem State.setB_pair (x : Field) (b : Bool) : (s.setB x b).pair = s.pair := rfl
@[simp] theorem State.setB_rst (x : Field) (b : Bool) : (s.setB x b).rst = s.rst := rfl
@[simp] theorem State.setB_mode (x : Field) (b : Bool) : (s.setB x b).mode = s.mode := rfl
@[simp] theorem State.setB_power (x : Field) (b : Bool) : (s.setB x b).power = s.power := rfl
@[simp] theorem State.setB_whd (x : Field) (b : Bool) : (s.setB x b).whd = s.whd := rfl
@[simp] theorem State.setB_cis (x : Field) (b : Bool) : (s.setB x b).cis = s.cis := rfl
@[simp] theorem State.setB_drv (x : Field) (b : Bool) : (s.setB x b).drv = s.drv := rfl
@[simp] theorem State.setB_brg (x : Field) (b : Bool) : (s.setB x b).brg = s.brg := rfl
@[simp] theorem State.setB_adc (x : Field) (b : Bool) : (s.setB x b).adc = s.adc := rfl
@[simp] theorem State.setB_slu (x : Field) (b : Bool) : (s.setB x b).slu = s.slu := rfl
@[simp] theorem State.setB_cog (x : Field) (b : Bool) : (s.setB x b).cog = s.cog := rfl
@[simp] theorem State.setB_knr (x : Field) (b : Bool) : (s.setB x b).knr = s.knr := rfl
@[simp] theorem State.setB_leat (x : Field) (b : Bool) : (s.setB x b).leat = s.leat := rfl
@[simp] theorem State.setB_safe (x : Field) (b : Bool) : (s.setB x b).safe = s.safe := rfl
@[simp] theorem State.setB_race (x : Field) (b : Bool) : (s.setB x b).race = s.race := rfl
@[simp] theorem State.setB_can (x : Field) (b : Bool) : (s.setB x b).can = s.can := rfl
@[simp] theorem State.setB_plb (x : Field) (b : Bool) : (s.setB x b).plb = s.plb := rfl
@[simp] theorem State.setB_tap (x : Field) (b : Bool) : (s.setB x b).tap = s.tap := rfl
@[simp] theorem State.setB_sent (x : Field) (b : Bool) : (s.setB x b).sent = s.sent := rfl

/-! ### `satAdd` -/

@[simp] theorem State.satAdd_lane (x : Field) (n : Nat) : (s.satAdd x n).lane = s.lane := rfl
@[simp] theorem State.satAdd_variant (x : Field) (n : Nat) : (s.satAdd x n).variant = s.variant := rfl
@[simp] theorem State.satAdd_pending (x : Field) (n : Nat) : (s.satAdd x n).pending = s.pending := rfl
@[simp] theorem State.satAdd_free (x : Field) (n : Nat) : (s.satAdd x n).free = s.free := rfl
@[simp] theorem State.satAdd_tnow (x : Field) (n : Nat) : (s.satAdd x n).tnow = s.tnow := rfl
@[simp] theorem State.satAdd_age (x : Field) (n : Nat) : (s.satAdd x n).age = s.age := rfl
@[simp] theorem State.satAdd_now (x : Field) (n : Nat) : (s.satAdd x n).now = s.now := rfl
@[simp] theorem State.satAdd_shadow (x : Field) (n : Nat) : (s.satAdd x n).shadow = s.shadow := rfl
@[simp] theorem State.satAdd_mem (x : Field) (n : Nat) : (s.satAdd x n).mem = s.mem := rfl
@[simp] theorem State.satAdd_ecc (x : Field) (n : Nat) : (s.satAdd x n).ecc = s.ecc := rfl
@[simp] theorem State.satAdd_ecc1 (x : Field) (n : Nat) : (s.satAdd x n).ecc1 = s.ecc1 := rfl
@[simp] theorem State.satAdd_engs (x : Field) (n : Nat) : (s.satAdd x n).engs = s.engs := rfl
@[simp] theorem State.satAdd_pair (x : Field) (n : Nat) : (s.satAdd x n).pair = s.pair := rfl
@[simp] theorem State.satAdd_rst (x : Field) (n : Nat) : (s.satAdd x n).rst = s.rst := rfl
@[simp] theorem State.satAdd_mode (x : Field) (n : Nat) : (s.satAdd x n).mode = s.mode := rfl
@[simp] theorem State.satAdd_power (x : Field) (n : Nat) : (s.satAdd x n).power = s.power := rfl
@[simp] theorem State.satAdd_whd (x : Field) (n : Nat) : (s.satAdd x n).whd = s.whd := rfl
@[simp] theorem State.satAdd_cis (x : Field) (n : Nat) : (s.satAdd x n).cis = s.cis := rfl
@[simp] theorem State.satAdd_drv (x : Field) (n : Nat) : (s.satAdd x n).drv = s.drv := rfl
@[simp] theorem State.satAdd_brg (x : Field) (n : Nat) : (s.satAdd x n).brg = s.brg := rfl
@[simp] theorem State.satAdd_adc (x : Field) (n : Nat) : (s.satAdd x n).adc = s.adc := rfl
@[simp] theorem State.satAdd_slu (x : Field) (n : Nat) : (s.satAdd x n).slu = s.slu := rfl
@[simp] theorem State.satAdd_cog (x : Field) (n : Nat) : (s.satAdd x n).cog = s.cog := rfl
@[simp] theorem State.satAdd_knr (x : Field) (n : Nat) : (s.satAdd x n).knr = s.knr := rfl
@[simp] theorem State.satAdd_leat (x : Field) (n : Nat) : (s.satAdd x n).leat = s.leat := rfl
@[simp] theorem State.satAdd_safe (x : Field) (n : Nat) : (s.satAdd x n).safe = s.safe := rfl
@[simp] theorem State.satAdd_race (x : Field) (n : Nat) : (s.satAdd x n).race = s.race := rfl
@[simp] theorem State.satAdd_can (x : Field) (n : Nat) : (s.satAdd x n).can = s.can := rfl
@[simp] theorem State.satAdd_plb (x : Field) (n : Nat) : (s.satAdd x n).plb = s.plb := rfl
@[simp] theorem State.satAdd_tap (x : Field) (n : Nat) : (s.satAdd x n).tap = s.tap := rfl
@[simp] theorem State.satAdd_sent (x : Field) (n : Nat) : (s.satAdd x n).sent = s.sent := rfl

/-! ### `wrapInc` -/

@[simp] theorem State.wrapInc_lane (x : Field) : (s.wrapInc x).lane = s.lane := rfl
@[simp] theorem State.wrapInc_variant (x : Field) : (s.wrapInc x).variant = s.variant := rfl
@[simp] theorem State.wrapInc_pending (x : Field) : (s.wrapInc x).pending = s.pending := rfl
@[simp] theorem State.wrapInc_free (x : Field) : (s.wrapInc x).free = s.free := rfl
@[simp] theorem State.wrapInc_tnow (x : Field) : (s.wrapInc x).tnow = s.tnow := rfl
@[simp] theorem State.wrapInc_age (x : Field) : (s.wrapInc x).age = s.age := rfl
@[simp] theorem State.wrapInc_now (x : Field) : (s.wrapInc x).now = s.now := rfl
@[simp] theorem State.wrapInc_shadow (x : Field) : (s.wrapInc x).shadow = s.shadow := rfl
@[simp] theorem State.wrapInc_mem (x : Field) : (s.wrapInc x).mem = s.mem := rfl
@[simp] theorem State.wrapInc_ecc (x : Field) : (s.wrapInc x).ecc = s.ecc := rfl
@[simp] theorem State.wrapInc_ecc1 (x : Field) : (s.wrapInc x).ecc1 = s.ecc1 := rfl
@[simp] theorem State.wrapInc_engs (x : Field) : (s.wrapInc x).engs = s.engs := rfl
@[simp] theorem State.wrapInc_pair (x : Field) : (s.wrapInc x).pair = s.pair := rfl
@[simp] theorem State.wrapInc_rst (x : Field) : (s.wrapInc x).rst = s.rst := rfl
@[simp] theorem State.wrapInc_mode (x : Field) : (s.wrapInc x).mode = s.mode := rfl
@[simp] theorem State.wrapInc_power (x : Field) : (s.wrapInc x).power = s.power := rfl
@[simp] theorem State.wrapInc_whd (x : Field) : (s.wrapInc x).whd = s.whd := rfl
@[simp] theorem State.wrapInc_cis (x : Field) : (s.wrapInc x).cis = s.cis := rfl
@[simp] theorem State.wrapInc_drv (x : Field) : (s.wrapInc x).drv = s.drv := rfl
@[simp] theorem State.wrapInc_brg (x : Field) : (s.wrapInc x).brg = s.brg := rfl
@[simp] theorem State.wrapInc_adc (x : Field) : (s.wrapInc x).adc = s.adc := rfl
@[simp] theorem State.wrapInc_slu (x : Field) : (s.wrapInc x).slu = s.slu := rfl
@[simp] theorem State.wrapInc_cog (x : Field) : (s.wrapInc x).cog = s.cog := rfl
@[simp] theorem State.wrapInc_knr (x : Field) : (s.wrapInc x).knr = s.knr := rfl
@[simp] theorem State.wrapInc_leat (x : Field) : (s.wrapInc x).leat = s.leat := rfl
@[simp] theorem State.wrapInc_safe (x : Field) : (s.wrapInc x).safe = s.safe := rfl
@[simp] theorem State.wrapInc_race (x : Field) : (s.wrapInc x).race = s.race := rfl
@[simp] theorem State.wrapInc_can (x : Field) : (s.wrapInc x).can = s.can := rfl
@[simp] theorem State.wrapInc_plb (x : Field) : (s.wrapInc x).plb = s.plb := rfl
@[simp] theorem State.wrapInc_tap (x : Field) : (s.wrapInc x).tap = s.tap := rfl
@[simp] theorem State.wrapInc_sent (x : Field) : (s.wrapInc x).sent = s.sent := rfl

/-! ### `setEng` -/

@[simp] theorem State.setEng_lane (e : Engine) (x : EngState) : (s.setEng e x).lane = s.lane := rfl
@[simp] theorem State.setEng_variant (e : Engine) (x : EngState) : (s.setEng e x).variant = s.variant := rfl
@[simp] theorem State.setEng_pending (e : Engine) (x : EngState) : (s.setEng e x).pending = s.pending := rfl
@[simp] theorem State.setEng_free (e : Engine) (x : EngState) : (s.setEng e x).free = s.free := rfl
@[simp] theorem State.setEng_tnow (e : Engine) (x : EngState) : (s.setEng e x).tnow = s.tnow := rfl
@[simp] theorem State.setEng_age (e : Engine) (x : EngState) : (s.setEng e x).age = s.age := rfl
@[simp] theorem State.setEng_now (e : Engine) (x : EngState) : (s.setEng e x).now = s.now := rfl
@[simp] theorem State.setEng_regs (e : Engine) (x : EngState) : (s.setEng e x).regs = s.regs := rfl
@[simp] theorem State.setEng_shadow (e : Engine) (x : EngState) : (s.setEng e x).shadow = s.shadow := rfl
@[simp] theorem State.setEng_mem (e : Engine) (x : EngState) : (s.setEng e x).mem = s.mem := rfl
@[simp] theorem State.setEng_ecc (e : Engine) (x : EngState) : (s.setEng e x).ecc = s.ecc := rfl
@[simp] theorem State.setEng_ecc1 (e : Engine) (x : EngState) : (s.setEng e x).ecc1 = s.ecc1 := rfl
@[simp] theorem State.setEng_pair (e : Engine) (x : EngState) : (s.setEng e x).pair = s.pair := rfl
@[simp] theorem State.setEng_rst (e : Engine) (x : EngState) : (s.setEng e x).rst = s.rst := rfl
@[simp] theorem State.setEng_mode (e : Engine) (x : EngState) : (s.setEng e x).mode = s.mode := rfl
@[simp] theorem State.setEng_power (e : Engine) (x : EngState) : (s.setEng e x).power = s.power := rfl
@[simp] theorem State.setEng_whd (e : Engine) (x : EngState) : (s.setEng e x).whd = s.whd := rfl
@[simp] theorem State.setEng_cis (e : Engine) (x : EngState) : (s.setEng e x).cis = s.cis := rfl
@[simp] theorem State.setEng_drv (e : Engine) (x : EngState) : (s.setEng e x).drv = s.drv := rfl
@[simp] theorem State.setEng_brg (e : Engine) (x : EngState) : (s.setEng e x).brg = s.brg := rfl
@[simp] theorem State.setEng_adc (e : Engine) (x : EngState) : (s.setEng e x).adc = s.adc := rfl
@[simp] theorem State.setEng_slu (e : Engine) (x : EngState) : (s.setEng e x).slu = s.slu := rfl
@[simp] theorem State.setEng_cog (e : Engine) (x : EngState) : (s.setEng e x).cog = s.cog := rfl
@[simp] theorem State.setEng_knr (e : Engine) (x : EngState) : (s.setEng e x).knr = s.knr := rfl
@[simp] theorem State.setEng_leat (e : Engine) (x : EngState) : (s.setEng e x).leat = s.leat := rfl
@[simp] theorem State.setEng_safe (e : Engine) (x : EngState) : (s.setEng e x).safe = s.safe := rfl
@[simp] theorem State.setEng_race (e : Engine) (x : EngState) : (s.setEng e x).race = s.race := rfl
@[simp] theorem State.setEng_can (e : Engine) (x : EngState) : (s.setEng e x).can = s.can := rfl
@[simp] theorem State.setEng_plb (e : Engine) (x : EngState) : (s.setEng e x).plb = s.plb := rfl
@[simp] theorem State.setEng_tap (e : Engine) (x : EngState) : (s.setEng e x).tap = s.tap := rfl
@[simp] theorem State.setEng_sent (e : Engine) (x : EngState) : (s.setEng e x).sent = s.sent := rfl

/-! ### `updEng` -/

@[simp] theorem State.updEng_lane (e : Engine) (h : EngState → EngState) : (s.updEng e h).lane = s.lane := rfl
@[simp] theorem State.updEng_variant (e : Engine) (h : EngState → EngState) : (s.updEng e h).variant = s.variant := rfl
@[simp] theorem State.updEng_pending (e : Engine) (h : EngState → EngState) : (s.updEng e h).pending = s.pending := rfl
@[simp] theorem State.updEng_free (e : Engine) (h : EngState → EngState) : (s.updEng e h).free = s.free := rfl
@[simp] theorem State.updEng_tnow (e : Engine) (h : EngState → EngState) : (s.updEng e h).tnow = s.tnow := rfl
@[simp] theorem State.updEng_age (e : Engine) (h : EngState → EngState) : (s.updEng e h).age = s.age := rfl
@[simp] theorem State.updEng_now (e : Engine) (h : EngState → EngState) : (s.updEng e h).now = s.now := rfl
@[simp] theorem State.updEng_regs (e : Engine) (h : EngState → EngState) : (s.updEng e h).regs = s.regs := rfl
@[simp] theorem State.updEng_shadow (e : Engine) (h : EngState → EngState) : (s.updEng e h).shadow = s.shadow := rfl
@[simp] theorem State.updEng_mem (e : Engine) (h : EngState → EngState) : (s.updEng e h).mem = s.mem := rfl
@[simp] theorem State.updEng_ecc (e : Engine) (h : EngState → EngState) : (s.updEng e h).ecc = s.ecc := rfl
@[simp] theorem State.updEng_ecc1 (e : Engine) (h : EngState → EngState) : (s.updEng e h).ecc1 = s.ecc1 := rfl
@[simp] theorem State.updEng_pair (e : Engine) (h : EngState → EngState) : (s.updEng e h).pair = s.pair := rfl
@[simp] theorem State.updEng_rst (e : Engine) (h : EngState → EngState) : (s.updEng e h).rst = s.rst := rfl
@[simp] theorem State.updEng_mode (e : Engine) (h : EngState → EngState) : (s.updEng e h).mode = s.mode := rfl
@[simp] theorem State.updEng_power (e : Engine) (h : EngState → EngState) : (s.updEng e h).power = s.power := rfl
@[simp] theorem State.updEng_whd (e : Engine) (h : EngState → EngState) : (s.updEng e h).whd = s.whd := rfl
@[simp] theorem State.updEng_cis (e : Engine) (h : EngState → EngState) : (s.updEng e h).cis = s.cis := rfl
@[simp] theorem State.updEng_drv (e : Engine) (h : EngState → EngState) : (s.updEng e h).drv = s.drv := rfl
@[simp] theorem State.updEng_brg (e : Engine) (h : EngState → EngState) : (s.updEng e h).brg = s.brg := rfl
@[simp] theorem State.updEng_adc (e : Engine) (h : EngState → EngState) : (s.updEng e h).adc = s.adc := rfl
@[simp] theorem State.updEng_slu (e : Engine) (h : EngState → EngState) : (s.updEng e h).slu = s.slu := rfl
@[simp] theorem State.updEng_cog (e : Engine) (h : EngState → EngState) : (s.updEng e h).cog = s.cog := rfl
@[simp] theorem State.updEng_knr (e : Engine) (h : EngState → EngState) : (s.updEng e h).knr = s.knr := rfl
@[simp] theorem State.updEng_leat (e : Engine) (h : EngState → EngState) : (s.updEng e h).leat = s.leat := rfl
@[simp] theorem State.updEng_safe (e : Engine) (h : EngState → EngState) : (s.updEng e h).safe = s.safe := rfl
@[simp] theorem State.updEng_race (e : Engine) (h : EngState → EngState) : (s.updEng e h).race = s.race := rfl
@[simp] theorem State.updEng_can (e : Engine) (h : EngState → EngState) : (s.updEng e h).can = s.can := rfl
@[simp] theorem State.updEng_plb (e : Engine) (h : EngState → EngState) : (s.updEng e h).plb = s.plb := rfl
@[simp] theorem State.updEng_tap (e : Engine) (h : EngState → EngState) : (s.updEng e h).tap = s.tap := rfl
@[simp] theorem State.updEng_sent (e : Engine) (h : EngState → EngState) : (s.updEng e h).sent = s.sent := rfl

/-! ### `updBrg` -/

@[simp] theorem State.updBrg_lane (b : Fin 5) (h : Bridge → Bridge) : (s.updBrg b h).lane = s.lane := rfl
@[simp] theorem State.updBrg_variant (b : Fin 5) (h : Bridge → Bridge) : (s.updBrg b h).variant = s.variant := rfl
@[simp] theorem State.updBrg_pending (b : Fin 5) (h : Bridge → Bridge) : (s.updBrg b h).pending = s.pending := rfl
@[simp] theorem State.updBrg_free (b : Fin 5) (h : Bridge → Bridge) : (s.updBrg b h).free = s.free := rfl
@[simp] theorem State.updBrg_tnow (b : Fin 5) (h : Bridge → Bridge) : (s.updBrg b h).tnow = s.tnow := rfl
@[simp] theorem State.updBrg_age (b : Fin 5) (h : Bridge → Bridge) : (s.updBrg b h).age = s.age := rfl
@[simp] theorem State.updBrg_now (b : Fin 5) (h : Bridge → Bridge) : (s.updBrg b h).now = s.now := rfl
@[simp] theorem State.updBrg_regs (b : Fin 5) (h : Bridge → Bridge) : (s.updBrg b h).regs = s.regs := rfl
@[simp] theorem State.updBrg_shadow (b : Fin 5) (h : Bridge → Bridge) : (s.updBrg b h).shadow = s.shadow := rfl
@[simp] theorem State.updBrg_mem (b : Fin 5) (h : Bridge → Bridge) : (s.updBrg b h).mem = s.mem := rfl
@[simp] theorem State.updBrg_ecc (b : Fin 5) (h : Bridge → Bridge) : (s.updBrg b h).ecc = s.ecc := rfl
@[simp] theorem State.updBrg_ecc1 (b : Fin 5) (h : Bridge → Bridge) : (s.updBrg b h).ecc1 = s.ecc1 := rfl
@[simp] theorem State.updBrg_engs (b : Fin 5) (h : Bridge → Bridge) : (s.updBrg b h).engs = s.engs := rfl
@[simp] theorem State.updBrg_pair (b : Fin 5) (h : Bridge → Bridge) : (s.updBrg b h).pair = s.pair := rfl
@[simp] theorem State.updBrg_rst (b : Fin 5) (h : Bridge → Bridge) : (s.updBrg b h).rst = s.rst := rfl
@[simp] theorem State.updBrg_mode (b : Fin 5) (h : Bridge → Bridge) : (s.updBrg b h).mode = s.mode := rfl
@[simp] theorem State.updBrg_power (b : Fin 5) (h : Bridge → Bridge) : (s.updBrg b h).power = s.power := rfl
@[simp] theorem State.updBrg_whd (b : Fin 5) (h : Bridge → Bridge) : (s.updBrg b h).whd = s.whd := rfl
@[simp] theorem State.updBrg_cis (b : Fin 5) (h : Bridge → Bridge) : (s.updBrg b h).cis = s.cis := rfl
@[simp] theorem State.updBrg_drv (b : Fin 5) (h : Bridge → Bridge) : (s.updBrg b h).drv = s.drv := rfl
@[simp] theorem State.updBrg_adc (b : Fin 5) (h : Bridge → Bridge) : (s.updBrg b h).adc = s.adc := rfl
@[simp] theorem State.updBrg_slu (b : Fin 5) (h : Bridge → Bridge) : (s.updBrg b h).slu = s.slu := rfl
@[simp] theorem State.updBrg_cog (b : Fin 5) (h : Bridge → Bridge) : (s.updBrg b h).cog = s.cog := rfl
@[simp] theorem State.updBrg_knr (b : Fin 5) (h : Bridge → Bridge) : (s.updBrg b h).knr = s.knr := rfl
@[simp] theorem State.updBrg_leat (b : Fin 5) (h : Bridge → Bridge) : (s.updBrg b h).leat = s.leat := rfl
@[simp] theorem State.updBrg_safe (b : Fin 5) (h : Bridge → Bridge) : (s.updBrg b h).safe = s.safe := rfl
@[simp] theorem State.updBrg_race (b : Fin 5) (h : Bridge → Bridge) : (s.updBrg b h).race = s.race := rfl
@[simp] theorem State.updBrg_can (b : Fin 5) (h : Bridge → Bridge) : (s.updBrg b h).can = s.can := rfl
@[simp] theorem State.updBrg_plb (b : Fin 5) (h : Bridge → Bridge) : (s.updBrg b h).plb = s.plb := rfl
@[simp] theorem State.updBrg_tap (b : Fin 5) (h : Bridge → Bridge) : (s.updBrg b h).tap = s.tap := rfl
@[simp] theorem State.updBrg_sent (b : Fin 5) (h : Bridge → Bridge) : (s.updBrg b h).sent = s.sent := rfl

/-! ### `updLeg` -/

@[simp] theorem State.updLeg_lane (b : Fin 5) (k : Fin 3) (h : Leg → Leg) : (s.updLeg b k h).lane = s.lane := rfl
@[simp] theorem State.updLeg_variant (b : Fin 5) (k : Fin 3) (h : Leg → Leg) : (s.updLeg b k h).variant = s.variant := rfl
@[simp] theorem State.updLeg_pending (b : Fin 5) (k : Fin 3) (h : Leg → Leg) : (s.updLeg b k h).pending = s.pending := rfl
@[simp] theorem State.updLeg_free (b : Fin 5) (k : Fin 3) (h : Leg → Leg) : (s.updLeg b k h).free = s.free := rfl
@[simp] theorem State.updLeg_tnow (b : Fin 5) (k : Fin 3) (h : Leg → Leg) : (s.updLeg b k h).tnow = s.tnow := rfl
@[simp] theorem State.updLeg_age (b : Fin 5) (k : Fin 3) (h : Leg → Leg) : (s.updLeg b k h).age = s.age := rfl
@[simp] theorem State.updLeg_now (b : Fin 5) (k : Fin 3) (h : Leg → Leg) : (s.updLeg b k h).now = s.now := rfl
@[simp] theorem State.updLeg_regs (b : Fin 5) (k : Fin 3) (h : Leg → Leg) : (s.updLeg b k h).regs = s.regs := rfl
@[simp] theorem State.updLeg_shadow (b : Fin 5) (k : Fin 3) (h : Leg → Leg) : (s.updLeg b k h).shadow = s.shadow := rfl
@[simp] theorem State.updLeg_mem (b : Fin 5) (k : Fin 3) (h : Leg → Leg) : (s.updLeg b k h).mem = s.mem := rfl
@[simp] theorem State.updLeg_ecc (b : Fin 5) (k : Fin 3) (h : Leg → Leg) : (s.updLeg b k h).ecc = s.ecc := rfl
@[simp] theorem State.updLeg_ecc1 (b : Fin 5) (k : Fin 3) (h : Leg → Leg) : (s.updLeg b k h).ecc1 = s.ecc1 := rfl
@[simp] theorem State.updLeg_engs (b : Fin 5) (k : Fin 3) (h : Leg → Leg) : (s.updLeg b k h).engs = s.engs := rfl
@[simp] theorem State.updLeg_pair (b : Fin 5) (k : Fin 3) (h : Leg → Leg) : (s.updLeg b k h).pair = s.pair := rfl
@[simp] theorem State.updLeg_rst (b : Fin 5) (k : Fin 3) (h : Leg → Leg) : (s.updLeg b k h).rst = s.rst := rfl
@[simp] theorem State.updLeg_mode (b : Fin 5) (k : Fin 3) (h : Leg → Leg) : (s.updLeg b k h).mode = s.mode := rfl
@[simp] theorem State.updLeg_power (b : Fin 5) (k : Fin 3) (h : Leg → Leg) : (s.updLeg b k h).power = s.power := rfl
@[simp] theorem State.updLeg_whd (b : Fin 5) (k : Fin 3) (h : Leg → Leg) : (s.updLeg b k h).whd = s.whd := rfl
@[simp] theorem State.updLeg_cis (b : Fin 5) (k : Fin 3) (h : Leg → Leg) : (s.updLeg b k h).cis = s.cis := rfl
@[simp] theorem State.updLeg_drv (b : Fin 5) (k : Fin 3) (h : Leg → Leg) : (s.updLeg b k h).drv = s.drv := rfl
@[simp] theorem State.updLeg_adc (b : Fin 5) (k : Fin 3) (h : Leg → Leg) : (s.updLeg b k h).adc = s.adc := rfl
@[simp] theorem State.updLeg_slu (b : Fin 5) (k : Fin 3) (h : Leg → Leg) : (s.updLeg b k h).slu = s.slu := rfl
@[simp] theorem State.updLeg_cog (b : Fin 5) (k : Fin 3) (h : Leg → Leg) : (s.updLeg b k h).cog = s.cog := rfl
@[simp] theorem State.updLeg_knr (b : Fin 5) (k : Fin 3) (h : Leg → Leg) : (s.updLeg b k h).knr = s.knr := rfl
@[simp] theorem State.updLeg_leat (b : Fin 5) (k : Fin 3) (h : Leg → Leg) : (s.updLeg b k h).leat = s.leat := rfl
@[simp] theorem State.updLeg_safe (b : Fin 5) (k : Fin 3) (h : Leg → Leg) : (s.updLeg b k h).safe = s.safe := rfl
@[simp] theorem State.updLeg_race (b : Fin 5) (k : Fin 3) (h : Leg → Leg) : (s.updLeg b k h).race = s.race := rfl
@[simp] theorem State.updLeg_can (b : Fin 5) (k : Fin 3) (h : Leg → Leg) : (s.updLeg b k h).can = s.can := rfl
@[simp] theorem State.updLeg_plb (b : Fin 5) (k : Fin 3) (h : Leg → Leg) : (s.updLeg b k h).plb = s.plb := rfl
@[simp] theorem State.updLeg_tap (b : Fin 5) (k : Fin 3) (h : Leg → Leg) : (s.updLeg b k h).tap = s.tap := rfl
@[simp] theorem State.updLeg_sent (b : Fin 5) (k : Fin 3) (h : Leg → Leg) : (s.updLeg b k h).sent = s.sent := rfl

/-! ### `updSet` -/

@[simp] theorem State.updSet_lane (k : Fin 16) (h : AdcSet → AdcSet) : (s.updSet k h).lane = s.lane := rfl
@[simp] theorem State.updSet_variant (k : Fin 16) (h : AdcSet → AdcSet) : (s.updSet k h).variant = s.variant := rfl
@[simp] theorem State.updSet_pending (k : Fin 16) (h : AdcSet → AdcSet) : (s.updSet k h).pending = s.pending := rfl
@[simp] theorem State.updSet_free (k : Fin 16) (h : AdcSet → AdcSet) : (s.updSet k h).free = s.free := rfl
@[simp] theorem State.updSet_tnow (k : Fin 16) (h : AdcSet → AdcSet) : (s.updSet k h).tnow = s.tnow := rfl
@[simp] theorem State.updSet_age (k : Fin 16) (h : AdcSet → AdcSet) : (s.updSet k h).age = s.age := rfl
@[simp] theorem State.updSet_now (k : Fin 16) (h : AdcSet → AdcSet) : (s.updSet k h).now = s.now := rfl
@[simp] theorem State.updSet_regs (k : Fin 16) (h : AdcSet → AdcSet) : (s.updSet k h).regs = s.regs := rfl
@[simp] theorem State.updSet_shadow (k : Fin 16) (h : AdcSet → AdcSet) : (s.updSet k h).shadow = s.shadow := rfl
@[simp] theorem State.updSet_mem (k : Fin 16) (h : AdcSet → AdcSet) : (s.updSet k h).mem = s.mem := rfl
@[simp] theorem State.updSet_ecc (k : Fin 16) (h : AdcSet → AdcSet) : (s.updSet k h).ecc = s.ecc := rfl
@[simp] theorem State.updSet_ecc1 (k : Fin 16) (h : AdcSet → AdcSet) : (s.updSet k h).ecc1 = s.ecc1 := rfl
@[simp] theorem State.updSet_engs (k : Fin 16) (h : AdcSet → AdcSet) : (s.updSet k h).engs = s.engs := rfl
@[simp] theorem State.updSet_pair (k : Fin 16) (h : AdcSet → AdcSet) : (s.updSet k h).pair = s.pair := rfl
@[simp] theorem State.updSet_rst (k : Fin 16) (h : AdcSet → AdcSet) : (s.updSet k h).rst = s.rst := rfl
@[simp] theorem State.updSet_mode (k : Fin 16) (h : AdcSet → AdcSet) : (s.updSet k h).mode = s.mode := rfl
@[simp] theorem State.updSet_power (k : Fin 16) (h : AdcSet → AdcSet) : (s.updSet k h).power = s.power := rfl
@[simp] theorem State.updSet_whd (k : Fin 16) (h : AdcSet → AdcSet) : (s.updSet k h).whd = s.whd := rfl
@[simp] theorem State.updSet_cis (k : Fin 16) (h : AdcSet → AdcSet) : (s.updSet k h).cis = s.cis := rfl
@[simp] theorem State.updSet_drv (k : Fin 16) (h : AdcSet → AdcSet) : (s.updSet k h).drv = s.drv := rfl
@[simp] theorem State.updSet_brg (k : Fin 16) (h : AdcSet → AdcSet) : (s.updSet k h).brg = s.brg := rfl
@[simp] theorem State.updSet_slu (k : Fin 16) (h : AdcSet → AdcSet) : (s.updSet k h).slu = s.slu := rfl
@[simp] theorem State.updSet_cog (k : Fin 16) (h : AdcSet → AdcSet) : (s.updSet k h).cog = s.cog := rfl
@[simp] theorem State.updSet_knr (k : Fin 16) (h : AdcSet → AdcSet) : (s.updSet k h).knr = s.knr := rfl
@[simp] theorem State.updSet_leat (k : Fin 16) (h : AdcSet → AdcSet) : (s.updSet k h).leat = s.leat := rfl
@[simp] theorem State.updSet_safe (k : Fin 16) (h : AdcSet → AdcSet) : (s.updSet k h).safe = s.safe := rfl
@[simp] theorem State.updSet_race (k : Fin 16) (h : AdcSet → AdcSet) : (s.updSet k h).race = s.race := rfl
@[simp] theorem State.updSet_can (k : Fin 16) (h : AdcSet → AdcSet) : (s.updSet k h).can = s.can := rfl
@[simp] theorem State.updSet_plb (k : Fin 16) (h : AdcSet → AdcSet) : (s.updSet k h).plb = s.plb := rfl
@[simp] theorem State.updSet_tap (k : Fin 16) (h : AdcSet → AdcSet) : (s.updSet k h).tap = s.tap := rfl
@[simp] theorem State.updSet_sent (k : Fin 16) (h : AdcSet → AdcSet) : (s.updSet k h).sent = s.sent := rfl

/-! ### `updSlu` -/

@[simp] theorem State.updSlu_lane (n : Fin 5) (h : Sluice → Sluice) : (s.updSlu n h).lane = s.lane := rfl
@[simp] theorem State.updSlu_variant (n : Fin 5) (h : Sluice → Sluice) : (s.updSlu n h).variant = s.variant := rfl
@[simp] theorem State.updSlu_pending (n : Fin 5) (h : Sluice → Sluice) : (s.updSlu n h).pending = s.pending := rfl
@[simp] theorem State.updSlu_free (n : Fin 5) (h : Sluice → Sluice) : (s.updSlu n h).free = s.free := rfl
@[simp] theorem State.updSlu_tnow (n : Fin 5) (h : Sluice → Sluice) : (s.updSlu n h).tnow = s.tnow := rfl
@[simp] theorem State.updSlu_age (n : Fin 5) (h : Sluice → Sluice) : (s.updSlu n h).age = s.age := rfl
@[simp] theorem State.updSlu_now (n : Fin 5) (h : Sluice → Sluice) : (s.updSlu n h).now = s.now := rfl
@[simp] theorem State.updSlu_regs (n : Fin 5) (h : Sluice → Sluice) : (s.updSlu n h).regs = s.regs := rfl
@[simp] theorem State.updSlu_shadow (n : Fin 5) (h : Sluice → Sluice) : (s.updSlu n h).shadow = s.shadow := rfl
@[simp] theorem State.updSlu_mem (n : Fin 5) (h : Sluice → Sluice) : (s.updSlu n h).mem = s.mem := rfl
@[simp] theorem State.updSlu_ecc (n : Fin 5) (h : Sluice → Sluice) : (s.updSlu n h).ecc = s.ecc := rfl
@[simp] theorem State.updSlu_ecc1 (n : Fin 5) (h : Sluice → Sluice) : (s.updSlu n h).ecc1 = s.ecc1 := rfl
@[simp] theorem State.updSlu_engs (n : Fin 5) (h : Sluice → Sluice) : (s.updSlu n h).engs = s.engs := rfl
@[simp] theorem State.updSlu_pair (n : Fin 5) (h : Sluice → Sluice) : (s.updSlu n h).pair = s.pair := rfl
@[simp] theorem State.updSlu_rst (n : Fin 5) (h : Sluice → Sluice) : (s.updSlu n h).rst = s.rst := rfl
@[simp] theorem State.updSlu_mode (n : Fin 5) (h : Sluice → Sluice) : (s.updSlu n h).mode = s.mode := rfl
@[simp] theorem State.updSlu_power (n : Fin 5) (h : Sluice → Sluice) : (s.updSlu n h).power = s.power := rfl
@[simp] theorem State.updSlu_whd (n : Fin 5) (h : Sluice → Sluice) : (s.updSlu n h).whd = s.whd := rfl
@[simp] theorem State.updSlu_cis (n : Fin 5) (h : Sluice → Sluice) : (s.updSlu n h).cis = s.cis := rfl
@[simp] theorem State.updSlu_drv (n : Fin 5) (h : Sluice → Sluice) : (s.updSlu n h).drv = s.drv := rfl
@[simp] theorem State.updSlu_brg (n : Fin 5) (h : Sluice → Sluice) : (s.updSlu n h).brg = s.brg := rfl
@[simp] theorem State.updSlu_adc (n : Fin 5) (h : Sluice → Sluice) : (s.updSlu n h).adc = s.adc := rfl
@[simp] theorem State.updSlu_cog (n : Fin 5) (h : Sluice → Sluice) : (s.updSlu n h).cog = s.cog := rfl
@[simp] theorem State.updSlu_knr (n : Fin 5) (h : Sluice → Sluice) : (s.updSlu n h).knr = s.knr := rfl
@[simp] theorem State.updSlu_leat (n : Fin 5) (h : Sluice → Sluice) : (s.updSlu n h).leat = s.leat := rfl
@[simp] theorem State.updSlu_safe (n : Fin 5) (h : Sluice → Sluice) : (s.updSlu n h).safe = s.safe := rfl
@[simp] theorem State.updSlu_race (n : Fin 5) (h : Sluice → Sluice) : (s.updSlu n h).race = s.race := rfl
@[simp] theorem State.updSlu_can (n : Fin 5) (h : Sluice → Sluice) : (s.updSlu n h).can = s.can := rfl
@[simp] theorem State.updSlu_plb (n : Fin 5) (h : Sluice → Sluice) : (s.updSlu n h).plb = s.plb := rfl
@[simp] theorem State.updSlu_tap (n : Fin 5) (h : Sluice → Sluice) : (s.updSlu n h).tap = s.tap := rfl
@[simp] theorem State.updSlu_sent (n : Fin 5) (h : Sluice → Sluice) : (s.updSlu n h).sent = s.sent := rfl

/-! ### `updInput` -/

@[simp] theorem State.updInput_lane (n : Fin 5) (k : Fin 4) (h : TrigInput → TrigInput) : (s.updInput n k h).lane = s.lane := rfl
@[simp] theorem State.updInput_variant (n : Fin 5) (k : Fin 4) (h : TrigInput → TrigInput) : (s.updInput n k h).variant = s.variant := rfl
@[simp] theorem State.updInput_pending (n : Fin 5) (k : Fin 4) (h : TrigInput → TrigInput) : (s.updInput n k h).pending = s.pending := rfl
@[simp] theorem State.updInput_free (n : Fin 5) (k : Fin 4) (h : TrigInput → TrigInput) : (s.updInput n k h).free = s.free := rfl
@[simp] theorem State.updInput_tnow (n : Fin 5) (k : Fin 4) (h : TrigInput → TrigInput) : (s.updInput n k h).tnow = s.tnow := rfl
@[simp] theorem State.updInput_age (n : Fin 5) (k : Fin 4) (h : TrigInput → TrigInput) : (s.updInput n k h).age = s.age := rfl
@[simp] theorem State.updInput_now (n : Fin 5) (k : Fin 4) (h : TrigInput → TrigInput) : (s.updInput n k h).now = s.now := rfl
@[simp] theorem State.updInput_regs (n : Fin 5) (k : Fin 4) (h : TrigInput → TrigInput) : (s.updInput n k h).regs = s.regs := rfl
@[simp] theorem State.updInput_shadow (n : Fin 5) (k : Fin 4) (h : TrigInput → TrigInput) : (s.updInput n k h).shadow = s.shadow := rfl
@[simp] theorem State.updInput_mem (n : Fin 5) (k : Fin 4) (h : TrigInput → TrigInput) : (s.updInput n k h).mem = s.mem := rfl
@[simp] theorem State.updInput_ecc (n : Fin 5) (k : Fin 4) (h : TrigInput → TrigInput) : (s.updInput n k h).ecc = s.ecc := rfl
@[simp] theorem State.updInput_ecc1 (n : Fin 5) (k : Fin 4) (h : TrigInput → TrigInput) : (s.updInput n k h).ecc1 = s.ecc1 := rfl
@[simp] theorem State.updInput_engs (n : Fin 5) (k : Fin 4) (h : TrigInput → TrigInput) : (s.updInput n k h).engs = s.engs := rfl
@[simp] theorem State.updInput_pair (n : Fin 5) (k : Fin 4) (h : TrigInput → TrigInput) : (s.updInput n k h).pair = s.pair := rfl
@[simp] theorem State.updInput_rst (n : Fin 5) (k : Fin 4) (h : TrigInput → TrigInput) : (s.updInput n k h).rst = s.rst := rfl
@[simp] theorem State.updInput_mode (n : Fin 5) (k : Fin 4) (h : TrigInput → TrigInput) : (s.updInput n k h).mode = s.mode := rfl
@[simp] theorem State.updInput_power (n : Fin 5) (k : Fin 4) (h : TrigInput → TrigInput) : (s.updInput n k h).power = s.power := rfl
@[simp] theorem State.updInput_whd (n : Fin 5) (k : Fin 4) (h : TrigInput → TrigInput) : (s.updInput n k h).whd = s.whd := rfl
@[simp] theorem State.updInput_cis (n : Fin 5) (k : Fin 4) (h : TrigInput → TrigInput) : (s.updInput n k h).cis = s.cis := rfl
@[simp] theorem State.updInput_drv (n : Fin 5) (k : Fin 4) (h : TrigInput → TrigInput) : (s.updInput n k h).drv = s.drv := rfl
@[simp] theorem State.updInput_brg (n : Fin 5) (k : Fin 4) (h : TrigInput → TrigInput) : (s.updInput n k h).brg = s.brg := rfl
@[simp] theorem State.updInput_adc (n : Fin 5) (k : Fin 4) (h : TrigInput → TrigInput) : (s.updInput n k h).adc = s.adc := rfl
@[simp] theorem State.updInput_cog (n : Fin 5) (k : Fin 4) (h : TrigInput → TrigInput) : (s.updInput n k h).cog = s.cog := rfl
@[simp] theorem State.updInput_knr (n : Fin 5) (k : Fin 4) (h : TrigInput → TrigInput) : (s.updInput n k h).knr = s.knr := rfl
@[simp] theorem State.updInput_leat (n : Fin 5) (k : Fin 4) (h : TrigInput → TrigInput) : (s.updInput n k h).leat = s.leat := rfl
@[simp] theorem State.updInput_safe (n : Fin 5) (k : Fin 4) (h : TrigInput → TrigInput) : (s.updInput n k h).safe = s.safe := rfl
@[simp] theorem State.updInput_race (n : Fin 5) (k : Fin 4) (h : TrigInput → TrigInput) : (s.updInput n k h).race = s.race := rfl
@[simp] theorem State.updInput_can (n : Fin 5) (k : Fin 4) (h : TrigInput → TrigInput) : (s.updInput n k h).can = s.can := rfl
@[simp] theorem State.updInput_plb (n : Fin 5) (k : Fin 4) (h : TrigInput → TrigInput) : (s.updInput n k h).plb = s.plb := rfl
@[simp] theorem State.updInput_tap (n : Fin 5) (k : Fin 4) (h : TrigInput → TrigInput) : (s.updInput n k h).tap = s.tap := rfl
@[simp] theorem State.updInput_sent (n : Fin 5) (k : Fin 4) (h : TrigInput → TrigInput) : (s.updInput n k h).sent = s.sent := rfl

/-! ### `updCog` -/

@[simp] theorem State.updCog_lane (c : Fin 6) (h : Cog → Cog) : (s.updCog c h).lane = s.lane := rfl
@[simp] theorem State.updCog_variant (c : Fin 6) (h : Cog → Cog) : (s.updCog c h).variant = s.variant := rfl
@[simp] theorem State.updCog_pending (c : Fin 6) (h : Cog → Cog) : (s.updCog c h).pending = s.pending := rfl
@[simp] theorem State.updCog_free (c : Fin 6) (h : Cog → Cog) : (s.updCog c h).free = s.free := rfl
@[simp] theorem State.updCog_tnow (c : Fin 6) (h : Cog → Cog) : (s.updCog c h).tnow = s.tnow := rfl
@[simp] theorem State.updCog_age (c : Fin 6) (h : Cog → Cog) : (s.updCog c h).age = s.age := rfl
@[simp] theorem State.updCog_now (c : Fin 6) (h : Cog → Cog) : (s.updCog c h).now = s.now := rfl
@[simp] theorem State.updCog_regs (c : Fin 6) (h : Cog → Cog) : (s.updCog c h).regs = s.regs := rfl
@[simp] theorem State.updCog_shadow (c : Fin 6) (h : Cog → Cog) : (s.updCog c h).shadow = s.shadow := rfl
@[simp] theorem State.updCog_mem (c : Fin 6) (h : Cog → Cog) : (s.updCog c h).mem = s.mem := rfl
@[simp] theorem State.updCog_ecc (c : Fin 6) (h : Cog → Cog) : (s.updCog c h).ecc = s.ecc := rfl
@[simp] theorem State.updCog_ecc1 (c : Fin 6) (h : Cog → Cog) : (s.updCog c h).ecc1 = s.ecc1 := rfl
@[simp] theorem State.updCog_engs (c : Fin 6) (h : Cog → Cog) : (s.updCog c h).engs = s.engs := rfl
@[simp] theorem State.updCog_pair (c : Fin 6) (h : Cog → Cog) : (s.updCog c h).pair = s.pair := rfl
@[simp] theorem State.updCog_rst (c : Fin 6) (h : Cog → Cog) : (s.updCog c h).rst = s.rst := rfl
@[simp] theorem State.updCog_mode (c : Fin 6) (h : Cog → Cog) : (s.updCog c h).mode = s.mode := rfl
@[simp] theorem State.updCog_power (c : Fin 6) (h : Cog → Cog) : (s.updCog c h).power = s.power := rfl
@[simp] theorem State.updCog_whd (c : Fin 6) (h : Cog → Cog) : (s.updCog c h).whd = s.whd := rfl
@[simp] theorem State.updCog_cis (c : Fin 6) (h : Cog → Cog) : (s.updCog c h).cis = s.cis := rfl
@[simp] theorem State.updCog_drv (c : Fin 6) (h : Cog → Cog) : (s.updCog c h).drv = s.drv := rfl
@[simp] theorem State.updCog_brg (c : Fin 6) (h : Cog → Cog) : (s.updCog c h).brg = s.brg := rfl
@[simp] theorem State.updCog_adc (c : Fin 6) (h : Cog → Cog) : (s.updCog c h).adc = s.adc := rfl
@[simp] theorem State.updCog_slu (c : Fin 6) (h : Cog → Cog) : (s.updCog c h).slu = s.slu := rfl
@[simp] theorem State.updCog_knr (c : Fin 6) (h : Cog → Cog) : (s.updCog c h).knr = s.knr := rfl
@[simp] theorem State.updCog_leat (c : Fin 6) (h : Cog → Cog) : (s.updCog c h).leat = s.leat := rfl
@[simp] theorem State.updCog_safe (c : Fin 6) (h : Cog → Cog) : (s.updCog c h).safe = s.safe := rfl
@[simp] theorem State.updCog_race (c : Fin 6) (h : Cog → Cog) : (s.updCog c h).race = s.race := rfl
@[simp] theorem State.updCog_can (c : Fin 6) (h : Cog → Cog) : (s.updCog c h).can = s.can := rfl
@[simp] theorem State.updCog_plb (c : Fin 6) (h : Cog → Cog) : (s.updCog c h).plb = s.plb := rfl
@[simp] theorem State.updCog_tap (c : Fin 6) (h : Cog → Cog) : (s.updCog c h).tap = s.tap := rfl
@[simp] theorem State.updCog_sent (c : Fin 6) (h : Cog → Cog) : (s.updCog c h).sent = s.sent := rfl

/-! ### `updKnr` -/

@[simp] theorem State.updKnr_lane (h : Knaor → Knaor) : (s.updKnr h).lane = s.lane := rfl
@[simp] theorem State.updKnr_variant (h : Knaor → Knaor) : (s.updKnr h).variant = s.variant := rfl
@[simp] theorem State.updKnr_pending (h : Knaor → Knaor) : (s.updKnr h).pending = s.pending := rfl
@[simp] theorem State.updKnr_free (h : Knaor → Knaor) : (s.updKnr h).free = s.free := rfl
@[simp] theorem State.updKnr_tnow (h : Knaor → Knaor) : (s.updKnr h).tnow = s.tnow := rfl
@[simp] theorem State.updKnr_age (h : Knaor → Knaor) : (s.updKnr h).age = s.age := rfl
@[simp] theorem State.updKnr_now (h : Knaor → Knaor) : (s.updKnr h).now = s.now := rfl
@[simp] theorem State.updKnr_regs (h : Knaor → Knaor) : (s.updKnr h).regs = s.regs := rfl
@[simp] theorem State.updKnr_shadow (h : Knaor → Knaor) : (s.updKnr h).shadow = s.shadow := rfl
@[simp] theorem State.updKnr_mem (h : Knaor → Knaor) : (s.updKnr h).mem = s.mem := rfl
@[simp] theorem State.updKnr_ecc (h : Knaor → Knaor) : (s.updKnr h).ecc = s.ecc := rfl
@[simp] theorem State.updKnr_ecc1 (h : Knaor → Knaor) : (s.updKnr h).ecc1 = s.ecc1 := rfl
@[simp] theorem State.updKnr_engs (h : Knaor → Knaor) : (s.updKnr h).engs = s.engs := rfl
@[simp] theorem State.updKnr_pair (h : Knaor → Knaor) : (s.updKnr h).pair = s.pair := rfl
@[simp] theorem State.updKnr_rst (h : Knaor → Knaor) : (s.updKnr h).rst = s.rst := rfl
@[simp] theorem State.updKnr_mode (h : Knaor → Knaor) : (s.updKnr h).mode = s.mode := rfl
@[simp] theorem State.updKnr_power (h : Knaor → Knaor) : (s.updKnr h).power = s.power := rfl
@[simp] theorem State.updKnr_whd (h : Knaor → Knaor) : (s.updKnr h).whd = s.whd := rfl
@[simp] theorem State.updKnr_cis (h : Knaor → Knaor) : (s.updKnr h).cis = s.cis := rfl
@[simp] theorem State.updKnr_drv (h : Knaor → Knaor) : (s.updKnr h).drv = s.drv := rfl
@[simp] theorem State.updKnr_brg (h : Knaor → Knaor) : (s.updKnr h).brg = s.brg := rfl
@[simp] theorem State.updKnr_adc (h : Knaor → Knaor) : (s.updKnr h).adc = s.adc := rfl
@[simp] theorem State.updKnr_slu (h : Knaor → Knaor) : (s.updKnr h).slu = s.slu := rfl
@[simp] theorem State.updKnr_cog (h : Knaor → Knaor) : (s.updKnr h).cog = s.cog := rfl
@[simp] theorem State.updKnr_leat (h : Knaor → Knaor) : (s.updKnr h).leat = s.leat := rfl
@[simp] theorem State.updKnr_safe (h : Knaor → Knaor) : (s.updKnr h).safe = s.safe := rfl
@[simp] theorem State.updKnr_race (h : Knaor → Knaor) : (s.updKnr h).race = s.race := rfl
@[simp] theorem State.updKnr_can (h : Knaor → Knaor) : (s.updKnr h).can = s.can := rfl
@[simp] theorem State.updKnr_plb (h : Knaor → Knaor) : (s.updKnr h).plb = s.plb := rfl
@[simp] theorem State.updKnr_tap (h : Knaor → Knaor) : (s.updKnr h).tap = s.tap := rfl
@[simp] theorem State.updKnr_sent (h : Knaor → Knaor) : (s.updKnr h).sent = s.sent := rfl

/-! ### `updPeer` -/

@[simp] theorem State.updPeer_lane (l : Lane) (h : Peer → Peer) : (s.updPeer l h).lane = s.lane := rfl
@[simp] theorem State.updPeer_variant (l : Lane) (h : Peer → Peer) : (s.updPeer l h).variant = s.variant := rfl
@[simp] theorem State.updPeer_pending (l : Lane) (h : Peer → Peer) : (s.updPeer l h).pending = s.pending := rfl
@[simp] theorem State.updPeer_free (l : Lane) (h : Peer → Peer) : (s.updPeer l h).free = s.free := rfl
@[simp] theorem State.updPeer_tnow (l : Lane) (h : Peer → Peer) : (s.updPeer l h).tnow = s.tnow := rfl
@[simp] theorem State.updPeer_age (l : Lane) (h : Peer → Peer) : (s.updPeer l h).age = s.age := rfl
@[simp] theorem State.updPeer_now (l : Lane) (h : Peer → Peer) : (s.updPeer l h).now = s.now := rfl
@[simp] theorem State.updPeer_regs (l : Lane) (h : Peer → Peer) : (s.updPeer l h).regs = s.regs := rfl
@[simp] theorem State.updPeer_shadow (l : Lane) (h : Peer → Peer) : (s.updPeer l h).shadow = s.shadow := rfl
@[simp] theorem State.updPeer_mem (l : Lane) (h : Peer → Peer) : (s.updPeer l h).mem = s.mem := rfl
@[simp] theorem State.updPeer_ecc (l : Lane) (h : Peer → Peer) : (s.updPeer l h).ecc = s.ecc := rfl
@[simp] theorem State.updPeer_ecc1 (l : Lane) (h : Peer → Peer) : (s.updPeer l h).ecc1 = s.ecc1 := rfl
@[simp] theorem State.updPeer_engs (l : Lane) (h : Peer → Peer) : (s.updPeer l h).engs = s.engs := rfl
@[simp] theorem State.updPeer_pair (l : Lane) (h : Peer → Peer) : (s.updPeer l h).pair = s.pair := rfl
@[simp] theorem State.updPeer_rst (l : Lane) (h : Peer → Peer) : (s.updPeer l h).rst = s.rst := rfl
@[simp] theorem State.updPeer_mode (l : Lane) (h : Peer → Peer) : (s.updPeer l h).mode = s.mode := rfl
@[simp] theorem State.updPeer_power (l : Lane) (h : Peer → Peer) : (s.updPeer l h).power = s.power := rfl
@[simp] theorem State.updPeer_whd (l : Lane) (h : Peer → Peer) : (s.updPeer l h).whd = s.whd := rfl
@[simp] theorem State.updPeer_cis (l : Lane) (h : Peer → Peer) : (s.updPeer l h).cis = s.cis := rfl
@[simp] theorem State.updPeer_drv (l : Lane) (h : Peer → Peer) : (s.updPeer l h).drv = s.drv := rfl
@[simp] theorem State.updPeer_brg (l : Lane) (h : Peer → Peer) : (s.updPeer l h).brg = s.brg := rfl
@[simp] theorem State.updPeer_adc (l : Lane) (h : Peer → Peer) : (s.updPeer l h).adc = s.adc := rfl
@[simp] theorem State.updPeer_slu (l : Lane) (h : Peer → Peer) : (s.updPeer l h).slu = s.slu := rfl
@[simp] theorem State.updPeer_cog (l : Lane) (h : Peer → Peer) : (s.updPeer l h).cog = s.cog := rfl
@[simp] theorem State.updPeer_knr (l : Lane) (h : Peer → Peer) : (s.updPeer l h).knr = s.knr := rfl
@[simp] theorem State.updPeer_safe (l : Lane) (h : Peer → Peer) : (s.updPeer l h).safe = s.safe := rfl
@[simp] theorem State.updPeer_race (l : Lane) (h : Peer → Peer) : (s.updPeer l h).race = s.race := rfl
@[simp] theorem State.updPeer_can (l : Lane) (h : Peer → Peer) : (s.updPeer l h).can = s.can := rfl
@[simp] theorem State.updPeer_plb (l : Lane) (h : Peer → Peer) : (s.updPeer l h).plb = s.plb := rfl
@[simp] theorem State.updPeer_tap (l : Lane) (h : Peer → Peer) : (s.updPeer l h).tap = s.tap := rfl
@[simp] theorem State.updPeer_sent (l : Lane) (h : Peer → Peer) : (s.updPeer l h).sent = s.sent := rfl

/-! ### `updEnd` -/

@[simp] theorem State.updEnd_lane (i : Fin 2) (h : LeatEnd → LeatEnd) : (s.updEnd i h).lane = s.lane := rfl
@[simp] theorem State.updEnd_variant (i : Fin 2) (h : LeatEnd → LeatEnd) : (s.updEnd i h).variant = s.variant := rfl
@[simp] theorem State.updEnd_pending (i : Fin 2) (h : LeatEnd → LeatEnd) : (s.updEnd i h).pending = s.pending := rfl
@[simp] theorem State.updEnd_free (i : Fin 2) (h : LeatEnd → LeatEnd) : (s.updEnd i h).free = s.free := rfl
@[simp] theorem State.updEnd_tnow (i : Fin 2) (h : LeatEnd → LeatEnd) : (s.updEnd i h).tnow = s.tnow := rfl
@[simp] theorem State.updEnd_age (i : Fin 2) (h : LeatEnd → LeatEnd) : (s.updEnd i h).age = s.age := rfl
@[simp] theorem State.updEnd_now (i : Fin 2) (h : LeatEnd → LeatEnd) : (s.updEnd i h).now = s.now := rfl
@[simp] theorem State.updEnd_regs (i : Fin 2) (h : LeatEnd → LeatEnd) : (s.updEnd i h).regs = s.regs := rfl
@[simp] theorem State.updEnd_shadow (i : Fin 2) (h : LeatEnd → LeatEnd) : (s.updEnd i h).shadow = s.shadow := rfl
@[simp] theorem State.updEnd_mem (i : Fin 2) (h : LeatEnd → LeatEnd) : (s.updEnd i h).mem = s.mem := rfl
@[simp] theorem State.updEnd_ecc (i : Fin 2) (h : LeatEnd → LeatEnd) : (s.updEnd i h).ecc = s.ecc := rfl
@[simp] theorem State.updEnd_ecc1 (i : Fin 2) (h : LeatEnd → LeatEnd) : (s.updEnd i h).ecc1 = s.ecc1 := rfl
@[simp] theorem State.updEnd_engs (i : Fin 2) (h : LeatEnd → LeatEnd) : (s.updEnd i h).engs = s.engs := rfl
@[simp] theorem State.updEnd_pair (i : Fin 2) (h : LeatEnd → LeatEnd) : (s.updEnd i h).pair = s.pair := rfl
@[simp] theorem State.updEnd_rst (i : Fin 2) (h : LeatEnd → LeatEnd) : (s.updEnd i h).rst = s.rst := rfl
@[simp] theorem State.updEnd_mode (i : Fin 2) (h : LeatEnd → LeatEnd) : (s.updEnd i h).mode = s.mode := rfl
@[simp] theorem State.updEnd_power (i : Fin 2) (h : LeatEnd → LeatEnd) : (s.updEnd i h).power = s.power := rfl
@[simp] theorem State.updEnd_whd (i : Fin 2) (h : LeatEnd → LeatEnd) : (s.updEnd i h).whd = s.whd := rfl
@[simp] theorem State.updEnd_cis (i : Fin 2) (h : LeatEnd → LeatEnd) : (s.updEnd i h).cis = s.cis := rfl
@[simp] theorem State.updEnd_drv (i : Fin 2) (h : LeatEnd → LeatEnd) : (s.updEnd i h).drv = s.drv := rfl
@[simp] theorem State.updEnd_brg (i : Fin 2) (h : LeatEnd → LeatEnd) : (s.updEnd i h).brg = s.brg := rfl
@[simp] theorem State.updEnd_adc (i : Fin 2) (h : LeatEnd → LeatEnd) : (s.updEnd i h).adc = s.adc := rfl
@[simp] theorem State.updEnd_slu (i : Fin 2) (h : LeatEnd → LeatEnd) : (s.updEnd i h).slu = s.slu := rfl
@[simp] theorem State.updEnd_cog (i : Fin 2) (h : LeatEnd → LeatEnd) : (s.updEnd i h).cog = s.cog := rfl
@[simp] theorem State.updEnd_knr (i : Fin 2) (h : LeatEnd → LeatEnd) : (s.updEnd i h).knr = s.knr := rfl
@[simp] theorem State.updEnd_safe (i : Fin 2) (h : LeatEnd → LeatEnd) : (s.updEnd i h).safe = s.safe := rfl
@[simp] theorem State.updEnd_race (i : Fin 2) (h : LeatEnd → LeatEnd) : (s.updEnd i h).race = s.race := rfl
@[simp] theorem State.updEnd_can (i : Fin 2) (h : LeatEnd → LeatEnd) : (s.updEnd i h).can = s.can := rfl
@[simp] theorem State.updEnd_plb (i : Fin 2) (h : LeatEnd → LeatEnd) : (s.updEnd i h).plb = s.plb := rfl
@[simp] theorem State.updEnd_tap (i : Fin 2) (h : LeatEnd → LeatEnd) : (s.updEnd i h).tap = s.tap := rfl
@[simp] theorem State.updEnd_sent (i : Fin 2) (h : LeatEnd → LeatEnd) : (s.updEnd i h).sent = s.sent := rfl

/-! ### `updRace` -/

@[simp] theorem State.updRace_lane (h : Race → Race) : (s.updRace h).lane = s.lane := rfl
@[simp] theorem State.updRace_variant (h : Race → Race) : (s.updRace h).variant = s.variant := rfl
@[simp] theorem State.updRace_pending (h : Race → Race) : (s.updRace h).pending = s.pending := rfl
@[simp] theorem State.updRace_free (h : Race → Race) : (s.updRace h).free = s.free := rfl
@[simp] theorem State.updRace_tnow (h : Race → Race) : (s.updRace h).tnow = s.tnow := rfl
@[simp] theorem State.updRace_age (h : Race → Race) : (s.updRace h).age = s.age := rfl
@[simp] theorem State.updRace_now (h : Race → Race) : (s.updRace h).now = s.now := rfl
@[simp] theorem State.updRace_regs (h : Race → Race) : (s.updRace h).regs = s.regs := rfl
@[simp] theorem State.updRace_shadow (h : Race → Race) : (s.updRace h).shadow = s.shadow := rfl
@[simp] theorem State.updRace_mem (h : Race → Race) : (s.updRace h).mem = s.mem := rfl
@[simp] theorem State.updRace_ecc (h : Race → Race) : (s.updRace h).ecc = s.ecc := rfl
@[simp] theorem State.updRace_ecc1 (h : Race → Race) : (s.updRace h).ecc1 = s.ecc1 := rfl
@[simp] theorem State.updRace_engs (h : Race → Race) : (s.updRace h).engs = s.engs := rfl
@[simp] theorem State.updRace_pair (h : Race → Race) : (s.updRace h).pair = s.pair := rfl
@[simp] theorem State.updRace_rst (h : Race → Race) : (s.updRace h).rst = s.rst := rfl
@[simp] theorem State.updRace_mode (h : Race → Race) : (s.updRace h).mode = s.mode := rfl
@[simp] theorem State.updRace_power (h : Race → Race) : (s.updRace h).power = s.power := rfl
@[simp] theorem State.updRace_whd (h : Race → Race) : (s.updRace h).whd = s.whd := rfl
@[simp] theorem State.updRace_cis (h : Race → Race) : (s.updRace h).cis = s.cis := rfl
@[simp] theorem State.updRace_drv (h : Race → Race) : (s.updRace h).drv = s.drv := rfl
@[simp] theorem State.updRace_brg (h : Race → Race) : (s.updRace h).brg = s.brg := rfl
@[simp] theorem State.updRace_adc (h : Race → Race) : (s.updRace h).adc = s.adc := rfl
@[simp] theorem State.updRace_slu (h : Race → Race) : (s.updRace h).slu = s.slu := rfl
@[simp] theorem State.updRace_cog (h : Race → Race) : (s.updRace h).cog = s.cog := rfl
@[simp] theorem State.updRace_knr (h : Race → Race) : (s.updRace h).knr = s.knr := rfl
@[simp] theorem State.updRace_leat (h : Race → Race) : (s.updRace h).leat = s.leat := rfl
@[simp] theorem State.updRace_safe (h : Race → Race) : (s.updRace h).safe = s.safe := rfl
@[simp] theorem State.updRace_can (h : Race → Race) : (s.updRace h).can = s.can := rfl
@[simp] theorem State.updRace_plb (h : Race → Race) : (s.updRace h).plb = s.plb := rfl
@[simp] theorem State.updRace_tap (h : Race → Race) : (s.updRace h).tap = s.tap := rfl
@[simp] theorem State.updRace_sent (h : Race → Race) : (s.updRace h).sent = s.sent := rfl

/-! ### `updCan` -/

@[simp] theorem State.updCan_lane (n : Fin 2) (h : Can → Can) : (s.updCan n h).lane = s.lane := rfl
@[simp] theorem State.updCan_variant (n : Fin 2) (h : Can → Can) : (s.updCan n h).variant = s.variant := rfl
@[simp] theorem State.updCan_pending (n : Fin 2) (h : Can → Can) : (s.updCan n h).pending = s.pending := rfl
@[simp] theorem State.updCan_free (n : Fin 2) (h : Can → Can) : (s.updCan n h).free = s.free := rfl
@[simp] theorem State.updCan_tnow (n : Fin 2) (h : Can → Can) : (s.updCan n h).tnow = s.tnow := rfl
@[simp] theorem State.updCan_age (n : Fin 2) (h : Can → Can) : (s.updCan n h).age = s.age := rfl
@[simp] theorem State.updCan_now (n : Fin 2) (h : Can → Can) : (s.updCan n h).now = s.now := rfl
@[simp] theorem State.updCan_regs (n : Fin 2) (h : Can → Can) : (s.updCan n h).regs = s.regs := rfl
@[simp] theorem State.updCan_shadow (n : Fin 2) (h : Can → Can) : (s.updCan n h).shadow = s.shadow := rfl
@[simp] theorem State.updCan_mem (n : Fin 2) (h : Can → Can) : (s.updCan n h).mem = s.mem := rfl
@[simp] theorem State.updCan_ecc (n : Fin 2) (h : Can → Can) : (s.updCan n h).ecc = s.ecc := rfl
@[simp] theorem State.updCan_ecc1 (n : Fin 2) (h : Can → Can) : (s.updCan n h).ecc1 = s.ecc1 := rfl
@[simp] theorem State.updCan_engs (n : Fin 2) (h : Can → Can) : (s.updCan n h).engs = s.engs := rfl
@[simp] theorem State.updCan_pair (n : Fin 2) (h : Can → Can) : (s.updCan n h).pair = s.pair := rfl
@[simp] theorem State.updCan_rst (n : Fin 2) (h : Can → Can) : (s.updCan n h).rst = s.rst := rfl
@[simp] theorem State.updCan_mode (n : Fin 2) (h : Can → Can) : (s.updCan n h).mode = s.mode := rfl
@[simp] theorem State.updCan_power (n : Fin 2) (h : Can → Can) : (s.updCan n h).power = s.power := rfl
@[simp] theorem State.updCan_whd (n : Fin 2) (h : Can → Can) : (s.updCan n h).whd = s.whd := rfl
@[simp] theorem State.updCan_cis (n : Fin 2) (h : Can → Can) : (s.updCan n h).cis = s.cis := rfl
@[simp] theorem State.updCan_drv (n : Fin 2) (h : Can → Can) : (s.updCan n h).drv = s.drv := rfl
@[simp] theorem State.updCan_brg (n : Fin 2) (h : Can → Can) : (s.updCan n h).brg = s.brg := rfl
@[simp] theorem State.updCan_adc (n : Fin 2) (h : Can → Can) : (s.updCan n h).adc = s.adc := rfl
@[simp] theorem State.updCan_slu (n : Fin 2) (h : Can → Can) : (s.updCan n h).slu = s.slu := rfl
@[simp] theorem State.updCan_cog (n : Fin 2) (h : Can → Can) : (s.updCan n h).cog = s.cog := rfl
@[simp] theorem State.updCan_knr (n : Fin 2) (h : Can → Can) : (s.updCan n h).knr = s.knr := rfl
@[simp] theorem State.updCan_leat (n : Fin 2) (h : Can → Can) : (s.updCan n h).leat = s.leat := rfl
@[simp] theorem State.updCan_safe (n : Fin 2) (h : Can → Can) : (s.updCan n h).safe = s.safe := rfl
@[simp] theorem State.updCan_race (n : Fin 2) (h : Can → Can) : (s.updCan n h).race = s.race := rfl
@[simp] theorem State.updCan_plb (n : Fin 2) (h : Can → Can) : (s.updCan n h).plb = s.plb := rfl
@[simp] theorem State.updCan_tap (n : Fin 2) (h : Can → Can) : (s.updCan n h).tap = s.tap := rfl
@[simp] theorem State.updCan_sent (n : Fin 2) (h : Can → Can) : (s.updCan n h).sent = s.sent := rfl

/-! ### `updPlb` -/

@[simp] theorem State.updPlb_lane (h : Plumb → Plumb) : (s.updPlb h).lane = s.lane := rfl
@[simp] theorem State.updPlb_variant (h : Plumb → Plumb) : (s.updPlb h).variant = s.variant := rfl
@[simp] theorem State.updPlb_pending (h : Plumb → Plumb) : (s.updPlb h).pending = s.pending := rfl
@[simp] theorem State.updPlb_free (h : Plumb → Plumb) : (s.updPlb h).free = s.free := rfl
@[simp] theorem State.updPlb_tnow (h : Plumb → Plumb) : (s.updPlb h).tnow = s.tnow := rfl
@[simp] theorem State.updPlb_age (h : Plumb → Plumb) : (s.updPlb h).age = s.age := rfl
@[simp] theorem State.updPlb_now (h : Plumb → Plumb) : (s.updPlb h).now = s.now := rfl
@[simp] theorem State.updPlb_regs (h : Plumb → Plumb) : (s.updPlb h).regs = s.regs := rfl
@[simp] theorem State.updPlb_shadow (h : Plumb → Plumb) : (s.updPlb h).shadow = s.shadow := rfl
@[simp] theorem State.updPlb_mem (h : Plumb → Plumb) : (s.updPlb h).mem = s.mem := rfl
@[simp] theorem State.updPlb_ecc (h : Plumb → Plumb) : (s.updPlb h).ecc = s.ecc := rfl
@[simp] theorem State.updPlb_ecc1 (h : Plumb → Plumb) : (s.updPlb h).ecc1 = s.ecc1 := rfl
@[simp] theorem State.updPlb_engs (h : Plumb → Plumb) : (s.updPlb h).engs = s.engs := rfl
@[simp] theorem State.updPlb_pair (h : Plumb → Plumb) : (s.updPlb h).pair = s.pair := rfl
@[simp] theorem State.updPlb_rst (h : Plumb → Plumb) : (s.updPlb h).rst = s.rst := rfl
@[simp] theorem State.updPlb_mode (h : Plumb → Plumb) : (s.updPlb h).mode = s.mode := rfl
@[simp] theorem State.updPlb_power (h : Plumb → Plumb) : (s.updPlb h).power = s.power := rfl
@[simp] theorem State.updPlb_whd (h : Plumb → Plumb) : (s.updPlb h).whd = s.whd := rfl
@[simp] theorem State.updPlb_cis (h : Plumb → Plumb) : (s.updPlb h).cis = s.cis := rfl
@[simp] theorem State.updPlb_drv (h : Plumb → Plumb) : (s.updPlb h).drv = s.drv := rfl
@[simp] theorem State.updPlb_brg (h : Plumb → Plumb) : (s.updPlb h).brg = s.brg := rfl
@[simp] theorem State.updPlb_adc (h : Plumb → Plumb) : (s.updPlb h).adc = s.adc := rfl
@[simp] theorem State.updPlb_slu (h : Plumb → Plumb) : (s.updPlb h).slu = s.slu := rfl
@[simp] theorem State.updPlb_cog (h : Plumb → Plumb) : (s.updPlb h).cog = s.cog := rfl
@[simp] theorem State.updPlb_knr (h : Plumb → Plumb) : (s.updPlb h).knr = s.knr := rfl
@[simp] theorem State.updPlb_leat (h : Plumb → Plumb) : (s.updPlb h).leat = s.leat := rfl
@[simp] theorem State.updPlb_safe (h : Plumb → Plumb) : (s.updPlb h).safe = s.safe := rfl
@[simp] theorem State.updPlb_race (h : Plumb → Plumb) : (s.updPlb h).race = s.race := rfl
@[simp] theorem State.updPlb_can (h : Plumb → Plumb) : (s.updPlb h).can = s.can := rfl
@[simp] theorem State.updPlb_tap (h : Plumb → Plumb) : (s.updPlb h).tap = s.tap := rfl
@[simp] theorem State.updPlb_sent (h : Plumb → Plumb) : (s.updPlb h).sent = s.sent := rfl

/-! ### `updLog` -/

@[simp] theorem State.updLog_lane (h : WearLog → WearLog) : (s.updLog h).lane = s.lane := rfl
@[simp] theorem State.updLog_variant (h : WearLog → WearLog) : (s.updLog h).variant = s.variant := rfl
@[simp] theorem State.updLog_pending (h : WearLog → WearLog) : (s.updLog h).pending = s.pending := rfl
@[simp] theorem State.updLog_free (h : WearLog → WearLog) : (s.updLog h).free = s.free := rfl
@[simp] theorem State.updLog_tnow (h : WearLog → WearLog) : (s.updLog h).tnow = s.tnow := rfl
@[simp] theorem State.updLog_age (h : WearLog → WearLog) : (s.updLog h).age = s.age := rfl
@[simp] theorem State.updLog_now (h : WearLog → WearLog) : (s.updLog h).now = s.now := rfl
@[simp] theorem State.updLog_regs (h : WearLog → WearLog) : (s.updLog h).regs = s.regs := rfl
@[simp] theorem State.updLog_shadow (h : WearLog → WearLog) : (s.updLog h).shadow = s.shadow := rfl
@[simp] theorem State.updLog_mem (h : WearLog → WearLog) : (s.updLog h).mem = s.mem := rfl
@[simp] theorem State.updLog_ecc (h : WearLog → WearLog) : (s.updLog h).ecc = s.ecc := rfl
@[simp] theorem State.updLog_ecc1 (h : WearLog → WearLog) : (s.updLog h).ecc1 = s.ecc1 := rfl
@[simp] theorem State.updLog_engs (h : WearLog → WearLog) : (s.updLog h).engs = s.engs := rfl
@[simp] theorem State.updLog_pair (h : WearLog → WearLog) : (s.updLog h).pair = s.pair := rfl
@[simp] theorem State.updLog_rst (h : WearLog → WearLog) : (s.updLog h).rst = s.rst := rfl
@[simp] theorem State.updLog_mode (h : WearLog → WearLog) : (s.updLog h).mode = s.mode := rfl
@[simp] theorem State.updLog_power (h : WearLog → WearLog) : (s.updLog h).power = s.power := rfl
@[simp] theorem State.updLog_whd (h : WearLog → WearLog) : (s.updLog h).whd = s.whd := rfl
@[simp] theorem State.updLog_cis (h : WearLog → WearLog) : (s.updLog h).cis = s.cis := rfl
@[simp] theorem State.updLog_drv (h : WearLog → WearLog) : (s.updLog h).drv = s.drv := rfl
@[simp] theorem State.updLog_brg (h : WearLog → WearLog) : (s.updLog h).brg = s.brg := rfl
@[simp] theorem State.updLog_adc (h : WearLog → WearLog) : (s.updLog h).adc = s.adc := rfl
@[simp] theorem State.updLog_slu (h : WearLog → WearLog) : (s.updLog h).slu = s.slu := rfl
@[simp] theorem State.updLog_cog (h : WearLog → WearLog) : (s.updLog h).cog = s.cog := rfl
@[simp] theorem State.updLog_knr (h : WearLog → WearLog) : (s.updLog h).knr = s.knr := rfl
@[simp] theorem State.updLog_leat (h : WearLog → WearLog) : (s.updLog h).leat = s.leat := rfl
@[simp] theorem State.updLog_safe (h : WearLog → WearLog) : (s.updLog h).safe = s.safe := rfl
@[simp] theorem State.updLog_race (h : WearLog → WearLog) : (s.updLog h).race = s.race := rfl
@[simp] theorem State.updLog_can (h : WearLog → WearLog) : (s.updLog h).can = s.can := rfl
@[simp] theorem State.updLog_tap (h : WearLog → WearLog) : (s.updLog h).tap = s.tap := rfl
@[simp] theorem State.updLog_sent (h : WearLog → WearLog) : (s.updLog h).sent = s.sent := rfl

/-! ### `putMem` -/

@[simp] theorem State.putMem_lane (a n v : Nat) : (s.putMem a n v).lane = s.lane := rfl
@[simp] theorem State.putMem_variant (a n v : Nat) : (s.putMem a n v).variant = s.variant := rfl
@[simp] theorem State.putMem_pending (a n v : Nat) : (s.putMem a n v).pending = s.pending := rfl
@[simp] theorem State.putMem_free (a n v : Nat) : (s.putMem a n v).free = s.free := rfl
@[simp] theorem State.putMem_tnow (a n v : Nat) : (s.putMem a n v).tnow = s.tnow := rfl
@[simp] theorem State.putMem_age (a n v : Nat) : (s.putMem a n v).age = s.age := rfl
@[simp] theorem State.putMem_now (a n v : Nat) : (s.putMem a n v).now = s.now := rfl
@[simp] theorem State.putMem_regs (a n v : Nat) : (s.putMem a n v).regs = s.regs := rfl
@[simp] theorem State.putMem_shadow (a n v : Nat) : (s.putMem a n v).shadow = s.shadow := rfl
@[simp] theorem State.putMem_engs (a n v : Nat) : (s.putMem a n v).engs = s.engs := rfl
@[simp] theorem State.putMem_pair (a n v : Nat) : (s.putMem a n v).pair = s.pair := rfl
@[simp] theorem State.putMem_rst (a n v : Nat) : (s.putMem a n v).rst = s.rst := rfl
@[simp] theorem State.putMem_mode (a n v : Nat) : (s.putMem a n v).mode = s.mode := rfl
@[simp] theorem State.putMem_power (a n v : Nat) : (s.putMem a n v).power = s.power := rfl
@[simp] theorem State.putMem_whd (a n v : Nat) : (s.putMem a n v).whd = s.whd := rfl
@[simp] theorem State.putMem_cis (a n v : Nat) : (s.putMem a n v).cis = s.cis := rfl
@[simp] theorem State.putMem_drv (a n v : Nat) : (s.putMem a n v).drv = s.drv := rfl
@[simp] theorem State.putMem_brg (a n v : Nat) : (s.putMem a n v).brg = s.brg := rfl
@[simp] theorem State.putMem_adc (a n v : Nat) : (s.putMem a n v).adc = s.adc := rfl
@[simp] theorem State.putMem_slu (a n v : Nat) : (s.putMem a n v).slu = s.slu := rfl
@[simp] theorem State.putMem_cog (a n v : Nat) : (s.putMem a n v).cog = s.cog := rfl
@[simp] theorem State.putMem_knr (a n v : Nat) : (s.putMem a n v).knr = s.knr := rfl
@[simp] theorem State.putMem_leat (a n v : Nat) : (s.putMem a n v).leat = s.leat := rfl
@[simp] theorem State.putMem_safe (a n v : Nat) : (s.putMem a n v).safe = s.safe := rfl
@[simp] theorem State.putMem_race (a n v : Nat) : (s.putMem a n v).race = s.race := rfl
@[simp] theorem State.putMem_can (a n v : Nat) : (s.putMem a n v).can = s.can := rfl
@[simp] theorem State.putMem_plb (a n v : Nat) : (s.putMem a n v).plb = s.plb := rfl
@[simp] theorem State.putMem_tap (a n v : Nat) : (s.putMem a n v).tap = s.tap := rfl
@[simp] theorem State.putMem_sent (a n v : Nat) : (s.putMem a n v).sent = s.sent := rfl

/-! ### `hold` -/

@[simp] theorem State.hold_lane (a : HeldAct) : (s.hold a).lane = s.lane := rfl
@[simp] theorem State.hold_variant (a : HeldAct) : (s.hold a).variant = s.variant := rfl
@[simp] theorem State.hold_pending (a : HeldAct) : (s.hold a).pending = s.pending := rfl
@[simp] theorem State.hold_free (a : HeldAct) : (s.hold a).free = s.free := rfl
@[simp] theorem State.hold_tnow (a : HeldAct) : (s.hold a).tnow = s.tnow := rfl
@[simp] theorem State.hold_age (a : HeldAct) : (s.hold a).age = s.age := rfl
@[simp] theorem State.hold_now (a : HeldAct) : (s.hold a).now = s.now := rfl
@[simp] theorem State.hold_regs (a : HeldAct) : (s.hold a).regs = s.regs := rfl
@[simp] theorem State.hold_shadow (a : HeldAct) : (s.hold a).shadow = s.shadow := rfl
@[simp] theorem State.hold_mem (a : HeldAct) : (s.hold a).mem = s.mem := rfl
@[simp] theorem State.hold_ecc (a : HeldAct) : (s.hold a).ecc = s.ecc := rfl
@[simp] theorem State.hold_ecc1 (a : HeldAct) : (s.hold a).ecc1 = s.ecc1 := rfl
@[simp] theorem State.hold_engs (a : HeldAct) : (s.hold a).engs = s.engs := rfl
@[simp] theorem State.hold_rst (a : HeldAct) : (s.hold a).rst = s.rst := rfl
@[simp] theorem State.hold_mode (a : HeldAct) : (s.hold a).mode = s.mode := rfl
@[simp] theorem State.hold_power (a : HeldAct) : (s.hold a).power = s.power := rfl
@[simp] theorem State.hold_whd (a : HeldAct) : (s.hold a).whd = s.whd := rfl
@[simp] theorem State.hold_cis (a : HeldAct) : (s.hold a).cis = s.cis := rfl
@[simp] theorem State.hold_drv (a : HeldAct) : (s.hold a).drv = s.drv := rfl
@[simp] theorem State.hold_brg (a : HeldAct) : (s.hold a).brg = s.brg := rfl
@[simp] theorem State.hold_adc (a : HeldAct) : (s.hold a).adc = s.adc := rfl
@[simp] theorem State.hold_slu (a : HeldAct) : (s.hold a).slu = s.slu := rfl
@[simp] theorem State.hold_cog (a : HeldAct) : (s.hold a).cog = s.cog := rfl
@[simp] theorem State.hold_knr (a : HeldAct) : (s.hold a).knr = s.knr := rfl
@[simp] theorem State.hold_leat (a : HeldAct) : (s.hold a).leat = s.leat := rfl
@[simp] theorem State.hold_safe (a : HeldAct) : (s.hold a).safe = s.safe := rfl
@[simp] theorem State.hold_race (a : HeldAct) : (s.hold a).race = s.race := rfl
@[simp] theorem State.hold_can (a : HeldAct) : (s.hold a).can = s.can := rfl
@[simp] theorem State.hold_plb (a : HeldAct) : (s.hold a).plb = s.plb := rfl
@[simp] theorem State.hold_tap (a : HeldAct) : (s.hold a).tap = s.tap := rfl
@[simp] theorem State.hold_sent (a : HeldAct) : (s.hold a).sent = s.sent := rfl

/-! ### `send` -/

@[simp] theorem State.send_lane (x : Sent) : (s.send x).lane = s.lane := rfl
@[simp] theorem State.send_variant (x : Sent) : (s.send x).variant = s.variant := rfl
@[simp] theorem State.send_pending (x : Sent) : (s.send x).pending = s.pending := rfl
@[simp] theorem State.send_free (x : Sent) : (s.send x).free = s.free := rfl
@[simp] theorem State.send_tnow (x : Sent) : (s.send x).tnow = s.tnow := rfl
@[simp] theorem State.send_age (x : Sent) : (s.send x).age = s.age := rfl
@[simp] theorem State.send_now (x : Sent) : (s.send x).now = s.now := rfl
@[simp] theorem State.send_regs (x : Sent) : (s.send x).regs = s.regs := rfl
@[simp] theorem State.send_shadow (x : Sent) : (s.send x).shadow = s.shadow := rfl
@[simp] theorem State.send_mem (x : Sent) : (s.send x).mem = s.mem := rfl
@[simp] theorem State.send_ecc (x : Sent) : (s.send x).ecc = s.ecc := rfl
@[simp] theorem State.send_ecc1 (x : Sent) : (s.send x).ecc1 = s.ecc1 := rfl
@[simp] theorem State.send_engs (x : Sent) : (s.send x).engs = s.engs := rfl
@[simp] theorem State.send_pair (x : Sent) : (s.send x).pair = s.pair := rfl
@[simp] theorem State.send_rst (x : Sent) : (s.send x).rst = s.rst := rfl
@[simp] theorem State.send_mode (x : Sent) : (s.send x).mode = s.mode := rfl
@[simp] theorem State.send_power (x : Sent) : (s.send x).power = s.power := rfl
@[simp] theorem State.send_whd (x : Sent) : (s.send x).whd = s.whd := rfl
@[simp] theorem State.send_cis (x : Sent) : (s.send x).cis = s.cis := rfl
@[simp] theorem State.send_drv (x : Sent) : (s.send x).drv = s.drv := rfl
@[simp] theorem State.send_brg (x : Sent) : (s.send x).brg = s.brg := rfl
@[simp] theorem State.send_adc (x : Sent) : (s.send x).adc = s.adc := rfl
@[simp] theorem State.send_slu (x : Sent) : (s.send x).slu = s.slu := rfl
@[simp] theorem State.send_cog (x : Sent) : (s.send x).cog = s.cog := rfl
@[simp] theorem State.send_knr (x : Sent) : (s.send x).knr = s.knr := rfl
@[simp] theorem State.send_leat (x : Sent) : (s.send x).leat = s.leat := rfl
@[simp] theorem State.send_safe (x : Sent) : (s.send x).safe = s.safe := rfl
@[simp] theorem State.send_race (x : Sent) : (s.send x).race = s.race := rfl
@[simp] theorem State.send_can (x : Sent) : (s.send x).can = s.can := rfl
@[simp] theorem State.send_plb (x : Sent) : (s.send x).plb = s.plb := rfl
@[simp] theorem State.send_tap (x : Sent) : (s.send x).tap = s.tap := rfl

/-! ### `postDrv` -/

@[simp] theorem State.postDrv_lane (a : Nat) (v : Word) : (s.postDrv a v).lane = s.lane := rfl
@[simp] theorem State.postDrv_variant (a : Nat) (v : Word) : (s.postDrv a v).variant = s.variant := rfl
@[simp] theorem State.postDrv_pending (a : Nat) (v : Word) : (s.postDrv a v).pending = s.pending := rfl
@[simp] theorem State.postDrv_free (a : Nat) (v : Word) : (s.postDrv a v).free = s.free := rfl
@[simp] theorem State.postDrv_tnow (a : Nat) (v : Word) : (s.postDrv a v).tnow = s.tnow := rfl
@[simp] theorem State.postDrv_age (a : Nat) (v : Word) : (s.postDrv a v).age = s.age := rfl
@[simp] theorem State.postDrv_now (a : Nat) (v : Word) : (s.postDrv a v).now = s.now := rfl
@[simp] theorem State.postDrv_regs (a : Nat) (v : Word) : (s.postDrv a v).regs = s.regs := rfl
@[simp] theorem State.postDrv_shadow (a : Nat) (v : Word) : (s.postDrv a v).shadow = s.shadow := rfl
@[simp] theorem State.postDrv_mem (a : Nat) (v : Word) : (s.postDrv a v).mem = s.mem := rfl
@[simp] theorem State.postDrv_ecc (a : Nat) (v : Word) : (s.postDrv a v).ecc = s.ecc := rfl
@[simp] theorem State.postDrv_ecc1 (a : Nat) (v : Word) : (s.postDrv a v).ecc1 = s.ecc1 := rfl
@[simp] theorem State.postDrv_engs (a : Nat) (v : Word) : (s.postDrv a v).engs = s.engs := rfl
@[simp] theorem State.postDrv_pair (a : Nat) (v : Word) : (s.postDrv a v).pair = s.pair := rfl
@[simp] theorem State.postDrv_rst (a : Nat) (v : Word) : (s.postDrv a v).rst = s.rst := rfl
@[simp] theorem State.postDrv_mode (a : Nat) (v : Word) : (s.postDrv a v).mode = s.mode := rfl
@[simp] theorem State.postDrv_power (a : Nat) (v : Word) : (s.postDrv a v).power = s.power := rfl
@[simp] theorem State.postDrv_whd (a : Nat) (v : Word) : (s.postDrv a v).whd = s.whd := rfl
@[simp] theorem State.postDrv_cis (a : Nat) (v : Word) : (s.postDrv a v).cis = s.cis := rfl
@[simp] theorem State.postDrv_brg (a : Nat) (v : Word) : (s.postDrv a v).brg = s.brg := rfl
@[simp] theorem State.postDrv_adc (a : Nat) (v : Word) : (s.postDrv a v).adc = s.adc := rfl
@[simp] theorem State.postDrv_slu (a : Nat) (v : Word) : (s.postDrv a v).slu = s.slu := rfl
@[simp] theorem State.postDrv_cog (a : Nat) (v : Word) : (s.postDrv a v).cog = s.cog := rfl
@[simp] theorem State.postDrv_knr (a : Nat) (v : Word) : (s.postDrv a v).knr = s.knr := rfl
@[simp] theorem State.postDrv_leat (a : Nat) (v : Word) : (s.postDrv a v).leat = s.leat := rfl
@[simp] theorem State.postDrv_safe (a : Nat) (v : Word) : (s.postDrv a v).safe = s.safe := rfl
@[simp] theorem State.postDrv_race (a : Nat) (v : Word) : (s.postDrv a v).race = s.race := rfl
@[simp] theorem State.postDrv_can (a : Nat) (v : Word) : (s.postDrv a v).can = s.can := rfl
@[simp] theorem State.postDrv_plb (a : Nat) (v : Word) : (s.postDrv a v).plb = s.plb := rfl
@[simp] theorem State.postDrv_tap (a : Nat) (v : Word) : (s.postDrv a v).tap = s.tap := rfl
@[simp] theorem State.postDrv_sent (a : Nat) (v : Word) : (s.postDrv a v).sent = s.sent := rfl

/-! ### `postWhd` -/

@[simp] theorem State.postWhd_lane (a : Nat) (v : Word) : (s.postWhd a v).lane = s.lane := rfl
@[simp] theorem State.postWhd_variant (a : Nat) (v : Word) : (s.postWhd a v).variant = s.variant := rfl
@[simp] theorem State.postWhd_pending (a : Nat) (v : Word) : (s.postWhd a v).pending = s.pending := rfl
@[simp] theorem State.postWhd_free (a : Nat) (v : Word) : (s.postWhd a v).free = s.free := rfl
@[simp] theorem State.postWhd_tnow (a : Nat) (v : Word) : (s.postWhd a v).tnow = s.tnow := rfl
@[simp] theorem State.postWhd_age (a : Nat) (v : Word) : (s.postWhd a v).age = s.age := rfl
@[simp] theorem State.postWhd_now (a : Nat) (v : Word) : (s.postWhd a v).now = s.now := rfl
@[simp] theorem State.postWhd_regs (a : Nat) (v : Word) : (s.postWhd a v).regs = s.regs := rfl
@[simp] theorem State.postWhd_shadow (a : Nat) (v : Word) : (s.postWhd a v).shadow = s.shadow := rfl
@[simp] theorem State.postWhd_mem (a : Nat) (v : Word) : (s.postWhd a v).mem = s.mem := rfl
@[simp] theorem State.postWhd_ecc (a : Nat) (v : Word) : (s.postWhd a v).ecc = s.ecc := rfl
@[simp] theorem State.postWhd_ecc1 (a : Nat) (v : Word) : (s.postWhd a v).ecc1 = s.ecc1 := rfl
@[simp] theorem State.postWhd_engs (a : Nat) (v : Word) : (s.postWhd a v).engs = s.engs := rfl
@[simp] theorem State.postWhd_pair (a : Nat) (v : Word) : (s.postWhd a v).pair = s.pair := rfl
@[simp] theorem State.postWhd_rst (a : Nat) (v : Word) : (s.postWhd a v).rst = s.rst := rfl
@[simp] theorem State.postWhd_mode (a : Nat) (v : Word) : (s.postWhd a v).mode = s.mode := rfl
@[simp] theorem State.postWhd_power (a : Nat) (v : Word) : (s.postWhd a v).power = s.power := rfl
@[simp] theorem State.postWhd_cis (a : Nat) (v : Word) : (s.postWhd a v).cis = s.cis := rfl
@[simp] theorem State.postWhd_drv (a : Nat) (v : Word) : (s.postWhd a v).drv = s.drv := rfl
@[simp] theorem State.postWhd_brg (a : Nat) (v : Word) : (s.postWhd a v).brg = s.brg := rfl
@[simp] theorem State.postWhd_adc (a : Nat) (v : Word) : (s.postWhd a v).adc = s.adc := rfl
@[simp] theorem State.postWhd_slu (a : Nat) (v : Word) : (s.postWhd a v).slu = s.slu := rfl
@[simp] theorem State.postWhd_cog (a : Nat) (v : Word) : (s.postWhd a v).cog = s.cog := rfl
@[simp] theorem State.postWhd_knr (a : Nat) (v : Word) : (s.postWhd a v).knr = s.knr := rfl
@[simp] theorem State.postWhd_leat (a : Nat) (v : Word) : (s.postWhd a v).leat = s.leat := rfl
@[simp] theorem State.postWhd_safe (a : Nat) (v : Word) : (s.postWhd a v).safe = s.safe := rfl
@[simp] theorem State.postWhd_race (a : Nat) (v : Word) : (s.postWhd a v).race = s.race := rfl
@[simp] theorem State.postWhd_can (a : Nat) (v : Word) : (s.postWhd a v).can = s.can := rfl
@[simp] theorem State.postWhd_plb (a : Nat) (v : Word) : (s.postWhd a v).plb = s.plb := rfl
@[simp] theorem State.postWhd_tap (a : Nat) (v : Word) : (s.postWhd a v).tap = s.tap := rfl
@[simp] theorem State.postWhd_sent (a : Nat) (v : Word) : (s.postWhd a v).sent = s.sent := rfl

/-! ### `takeWord` -/

@[simp] theorem State.takeWord_lane : s.takeWord.2.lane = s.lane := rfl
@[simp] theorem State.takeWord_variant : s.takeWord.2.variant = s.variant := rfl
@[simp] theorem State.takeWord_pending : s.takeWord.2.pending = s.pending := rfl
@[simp] theorem State.takeWord_tnow : s.takeWord.2.tnow = s.tnow := rfl
@[simp] theorem State.takeWord_age : s.takeWord.2.age = s.age := rfl
@[simp] theorem State.takeWord_now : s.takeWord.2.now = s.now := rfl
@[simp] theorem State.takeWord_regs : s.takeWord.2.regs = s.regs := rfl
@[simp] theorem State.takeWord_shadow : s.takeWord.2.shadow = s.shadow := rfl
@[simp] theorem State.takeWord_mem : s.takeWord.2.mem = s.mem := rfl
@[simp] theorem State.takeWord_ecc : s.takeWord.2.ecc = s.ecc := rfl
@[simp] theorem State.takeWord_ecc1 : s.takeWord.2.ecc1 = s.ecc1 := rfl
@[simp] theorem State.takeWord_engs : s.takeWord.2.engs = s.engs := rfl
@[simp] theorem State.takeWord_pair : s.takeWord.2.pair = s.pair := rfl
@[simp] theorem State.takeWord_rst : s.takeWord.2.rst = s.rst := rfl
@[simp] theorem State.takeWord_mode : s.takeWord.2.mode = s.mode := rfl
@[simp] theorem State.takeWord_power : s.takeWord.2.power = s.power := rfl
@[simp] theorem State.takeWord_whd : s.takeWord.2.whd = s.whd := rfl
@[simp] theorem State.takeWord_cis : s.takeWord.2.cis = s.cis := rfl
@[simp] theorem State.takeWord_drv : s.takeWord.2.drv = s.drv := rfl
@[simp] theorem State.takeWord_brg : s.takeWord.2.brg = s.brg := rfl
@[simp] theorem State.takeWord_adc : s.takeWord.2.adc = s.adc := rfl
@[simp] theorem State.takeWord_slu : s.takeWord.2.slu = s.slu := rfl
@[simp] theorem State.takeWord_cog : s.takeWord.2.cog = s.cog := rfl
@[simp] theorem State.takeWord_knr : s.takeWord.2.knr = s.knr := rfl
@[simp] theorem State.takeWord_leat : s.takeWord.2.leat = s.leat := rfl
@[simp] theorem State.takeWord_safe : s.takeWord.2.safe = s.safe := rfl
@[simp] theorem State.takeWord_race : s.takeWord.2.race = s.race := rfl
@[simp] theorem State.takeWord_can : s.takeWord.2.can = s.can := rfl
@[simp] theorem State.takeWord_plb : s.takeWord.2.plb = s.plb := rfl
@[simp] theorem State.takeWord_tap : s.takeWord.2.tap = s.tap := rfl
@[simp] theorem State.takeWord_sent : s.takeWord.2.sent = s.sent := rfl

/-! ### `takeBit` -/

@[simp] theorem State.takeBit_lane : s.takeBit.2.lane = s.lane := rfl
@[simp] theorem State.takeBit_variant : s.takeBit.2.variant = s.variant := rfl
@[simp] theorem State.takeBit_pending : s.takeBit.2.pending = s.pending := rfl
@[simp] theorem State.takeBit_tnow : s.takeBit.2.tnow = s.tnow := rfl
@[simp] theorem State.takeBit_age : s.takeBit.2.age = s.age := rfl
@[simp] theorem State.takeBit_now : s.takeBit.2.now = s.now := rfl
@[simp] theorem State.takeBit_regs : s.takeBit.2.regs = s.regs := rfl
@[simp] theorem State.takeBit_shadow : s.takeBit.2.shadow = s.shadow := rfl
@[simp] theorem State.takeBit_mem : s.takeBit.2.mem = s.mem := rfl
@[simp] theorem State.takeBit_ecc : s.takeBit.2.ecc = s.ecc := rfl
@[simp] theorem State.takeBit_ecc1 : s.takeBit.2.ecc1 = s.ecc1 := rfl
@[simp] theorem State.takeBit_engs : s.takeBit.2.engs = s.engs := rfl
@[simp] theorem State.takeBit_pair : s.takeBit.2.pair = s.pair := rfl
@[simp] theorem State.takeBit_rst : s.takeBit.2.rst = s.rst := rfl
@[simp] theorem State.takeBit_mode : s.takeBit.2.mode = s.mode := rfl
@[simp] theorem State.takeBit_power : s.takeBit.2.power = s.power := rfl
@[simp] theorem State.takeBit_whd : s.takeBit.2.whd = s.whd := rfl
@[simp] theorem State.takeBit_cis : s.takeBit.2.cis = s.cis := rfl
@[simp] theorem State.takeBit_drv : s.takeBit.2.drv = s.drv := rfl
@[simp] theorem State.takeBit_brg : s.takeBit.2.brg = s.brg := rfl
@[simp] theorem State.takeBit_adc : s.takeBit.2.adc = s.adc := rfl
@[simp] theorem State.takeBit_slu : s.takeBit.2.slu = s.slu := rfl
@[simp] theorem State.takeBit_cog : s.takeBit.2.cog = s.cog := rfl
@[simp] theorem State.takeBit_knr : s.takeBit.2.knr = s.knr := rfl
@[simp] theorem State.takeBit_leat : s.takeBit.2.leat = s.leat := rfl
@[simp] theorem State.takeBit_safe : s.takeBit.2.safe = s.safe := rfl
@[simp] theorem State.takeBit_race : s.takeBit.2.race = s.race := rfl
@[simp] theorem State.takeBit_can : s.takeBit.2.can = s.can := rfl
@[simp] theorem State.takeBit_plb : s.takeBit.2.plb = s.plb := rfl
@[simp] theorem State.takeBit_tap : s.takeBit.2.tap = s.tap := rfl
@[simp] theorem State.takeBit_sent : s.takeBit.2.sent = s.sent := rfl

/-! ### Register words, memory, engines and bridges under the other updates -/

@[simp] theorem State.setReg_eng (a : Nat) (w : Word) (ix : Engine) : (s.setReg a w).eng ix = s.eng ix := rfl
@[simp] theorem State.setReg_bridge (a : Nat) (w : Word) (ix : Fin 5) : (s.setReg a w).bridge ix = s.bridge ix := rfl
@[simp] theorem State.setReg_leg (a : Nat) (w : Word) (ix : Fin 5) (j : Fin 3) : (s.setReg a w).leg ix j = s.leg ix j := rfl
@[simp] theorem State.setF_eng (x : Field) (v : Nat) (ix : Engine) : (s.setF x v).eng ix = s.eng ix := rfl
@[simp] theorem State.setF_bridge (x : Field) (v : Nat) (ix : Fin 5) : (s.setF x v).bridge ix = s.bridge ix := rfl
@[simp] theorem State.setF_leg (x : Field) (v : Nat) (ix : Fin 5) (j : Fin 3) : (s.setF x v).leg ix j = s.leg ix j := rfl
@[simp] theorem State.setB_eng (x : Field) (b : Bool) (ix : Engine) : (s.setB x b).eng ix = s.eng ix := rfl
@[simp] theorem State.setB_bridge (x : Field) (b : Bool) (ix : Fin 5) : (s.setB x b).bridge ix = s.bridge ix := rfl
@[simp] theorem State.setB_leg (x : Field) (b : Bool) (ix : Fin 5) (j : Fin 3) : (s.setB x b).leg ix j = s.leg ix j := rfl
@[simp] theorem State.satAdd_eng (x : Field) (n : Nat) (ix : Engine) : (s.satAdd x n).eng ix = s.eng ix := rfl
@[simp] theorem State.satAdd_bridge (x : Field) (n : Nat) (ix : Fin 5) : (s.satAdd x n).bridge ix = s.bridge ix := rfl
@[simp] theorem State.satAdd_leg (x : Field) (n : Nat) (ix : Fin 5) (j : Fin 3) : (s.satAdd x n).leg ix j = s.leg ix j := rfl
@[simp] theorem State.wrapInc_eng (x : Field) (ix : Engine) : (s.wrapInc x).eng ix = s.eng ix := rfl
@[simp] theorem State.wrapInc_bridge (x : Field) (ix : Fin 5) : (s.wrapInc x).bridge ix = s.bridge ix := rfl
@[simp] theorem State.wrapInc_leg (x : Field) (ix : Fin 5) (j : Fin 3) : (s.wrapInc x).leg ix j = s.leg ix j := rfl
@[simp] theorem State.setEng_reg (e : Engine) (x : EngState) (ix : Nat) : (s.setEng e x).reg ix = s.reg ix := rfl
@[simp] theorem State.setEng_f (e : Engine) (x : EngState) (y : Field) : (s.setEng e x).f y = s.f y := rfl
@[simp] theorem State.setEng_bridge (e : Engine) (x : EngState) (ix : Fin 5) : (s.setEng e x).bridge ix = s.bridge ix := rfl
@[simp] theorem State.setEng_leg (e : Engine) (x : EngState) (ix : Fin 5) (j : Fin 3) : (s.setEng e x).leg ix j = s.leg ix j := rfl
@[simp] theorem State.updEng_reg (e : Engine) (h : EngState → EngState) (ix : Nat) : (s.updEng e h).reg ix = s.reg ix := rfl
@[simp] theorem State.updEng_f (e : Engine) (h : EngState → EngState) (y : Field) : (s.updEng e h).f y = s.f y := rfl
@[simp] theorem State.updEng_bridge (e : Engine) (h : EngState → EngState) (ix : Fin 5) : (s.updEng e h).bridge ix = s.bridge ix := rfl
@[simp] theorem State.updEng_leg (e : Engine) (h : EngState → EngState) (ix : Fin 5) (j : Fin 3) : (s.updEng e h).leg ix j = s.leg ix j := rfl
@[simp] theorem State.updBrg_reg (b : Fin 5) (h : Bridge → Bridge) (ix : Nat) : (s.updBrg b h).reg ix = s.reg ix := rfl
@[simp] theorem State.updBrg_f (b : Fin 5) (h : Bridge → Bridge) (y : Field) : (s.updBrg b h).f y = s.f y := rfl
@[simp] theorem State.updBrg_eng (b : Fin 5) (h : Bridge → Bridge) (ix : Engine) : (s.updBrg b h).eng ix = s.eng ix := rfl
@[simp] theorem State.updLeg_reg (b : Fin 5) (k : Fin 3) (h : Leg → Leg) (ix : Nat) : (s.updLeg b k h).reg ix = s.reg ix := rfl
@[simp] theorem State.updLeg_f (b : Fin 5) (k : Fin 3) (h : Leg → Leg) (y : Field) : (s.updLeg b k h).f y = s.f y := rfl
@[simp] theorem State.updLeg_eng (b : Fin 5) (k : Fin 3) (h : Leg → Leg) (ix : Engine) : (s.updLeg b k h).eng ix = s.eng ix := rfl
@[simp] theorem State.updSet_reg (k : Fin 16) (h : AdcSet → AdcSet) (ix : Nat) : (s.updSet k h).reg ix = s.reg ix := rfl
@[simp] theorem State.updSet_f (k : Fin 16) (h : AdcSet → AdcSet) (y : Field) : (s.updSet k h).f y = s.f y := rfl
@[simp] theorem State.updSet_eng (k : Fin 16) (h : AdcSet → AdcSet) (ix : Engine) : (s.updSet k h).eng ix = s.eng ix := rfl
@[simp] theorem State.updSet_bridge (k : Fin 16) (h : AdcSet → AdcSet) (ix : Fin 5) : (s.updSet k h).bridge ix = s.bridge ix := rfl
@[simp] theorem State.updSet_leg (k : Fin 16) (h : AdcSet → AdcSet) (ix : Fin 5) (j : Fin 3) : (s.updSet k h).leg ix j = s.leg ix j := rfl
@[simp] theorem State.updSlu_reg (n : Fin 5) (h : Sluice → Sluice) (ix : Nat) : (s.updSlu n h).reg ix = s.reg ix := rfl
@[simp] theorem State.updSlu_f (n : Fin 5) (h : Sluice → Sluice) (y : Field) : (s.updSlu n h).f y = s.f y := rfl
@[simp] theorem State.updSlu_eng (n : Fin 5) (h : Sluice → Sluice) (ix : Engine) : (s.updSlu n h).eng ix = s.eng ix := rfl
@[simp] theorem State.updSlu_bridge (n : Fin 5) (h : Sluice → Sluice) (ix : Fin 5) : (s.updSlu n h).bridge ix = s.bridge ix := rfl
@[simp] theorem State.updSlu_leg (n : Fin 5) (h : Sluice → Sluice) (ix : Fin 5) (j : Fin 3) : (s.updSlu n h).leg ix j = s.leg ix j := rfl
@[simp] theorem State.updInput_reg (n : Fin 5) (k : Fin 4) (h : TrigInput → TrigInput) (ix : Nat) : (s.updInput n k h).reg ix = s.reg ix := rfl
@[simp] theorem State.updInput_f (n : Fin 5) (k : Fin 4) (h : TrigInput → TrigInput) (y : Field) : (s.updInput n k h).f y = s.f y := rfl
@[simp] theorem State.updInput_eng (n : Fin 5) (k : Fin 4) (h : TrigInput → TrigInput) (ix : Engine) : (s.updInput n k h).eng ix = s.eng ix := rfl
@[simp] theorem State.updInput_bridge (n : Fin 5) (k : Fin 4) (h : TrigInput → TrigInput) (ix : Fin 5) : (s.updInput n k h).bridge ix = s.bridge ix := rfl
@[simp] theorem State.updInput_leg (n : Fin 5) (k : Fin 4) (h : TrigInput → TrigInput) (ix : Fin 5) (j : Fin 3) : (s.updInput n k h).leg ix j = s.leg ix j := rfl
@[simp] theorem State.updCog_reg (c : Fin 6) (h : Cog → Cog) (ix : Nat) : (s.updCog c h).reg ix = s.reg ix := rfl
@[simp] theorem State.updCog_f (c : Fin 6) (h : Cog → Cog) (y : Field) : (s.updCog c h).f y = s.f y := rfl
@[simp] theorem State.updCog_eng (c : Fin 6) (h : Cog → Cog) (ix : Engine) : (s.updCog c h).eng ix = s.eng ix := rfl
@[simp] theorem State.updCog_bridge (c : Fin 6) (h : Cog → Cog) (ix : Fin 5) : (s.updCog c h).bridge ix = s.bridge ix := rfl
@[simp] theorem State.updCog_leg (c : Fin 6) (h : Cog → Cog) (ix : Fin 5) (j : Fin 3) : (s.updCog c h).leg ix j = s.leg ix j := rfl
@[simp] theorem State.updKnr_reg (h : Knaor → Knaor) (ix : Nat) : (s.updKnr h).reg ix = s.reg ix := rfl
@[simp] theorem State.updKnr_f (h : Knaor → Knaor) (y : Field) : (s.updKnr h).f y = s.f y := rfl
@[simp] theorem State.updKnr_eng (h : Knaor → Knaor) (ix : Engine) : (s.updKnr h).eng ix = s.eng ix := rfl
@[simp] theorem State.updKnr_bridge (h : Knaor → Knaor) (ix : Fin 5) : (s.updKnr h).bridge ix = s.bridge ix := rfl
@[simp] theorem State.updKnr_leg (h : Knaor → Knaor) (ix : Fin 5) (j : Fin 3) : (s.updKnr h).leg ix j = s.leg ix j := rfl
@[simp] theorem State.updPeer_reg (l : Lane) (h : Peer → Peer) (ix : Nat) : (s.updPeer l h).reg ix = s.reg ix := rfl
@[simp] theorem State.updPeer_f (l : Lane) (h : Peer → Peer) (y : Field) : (s.updPeer l h).f y = s.f y := rfl
@[simp] theorem State.updPeer_eng (l : Lane) (h : Peer → Peer) (ix : Engine) : (s.updPeer l h).eng ix = s.eng ix := rfl
@[simp] theorem State.updPeer_bridge (l : Lane) (h : Peer → Peer) (ix : Fin 5) : (s.updPeer l h).bridge ix = s.bridge ix := rfl
@[simp] theorem State.updPeer_leg (l : Lane) (h : Peer → Peer) (ix : Fin 5) (j : Fin 3) : (s.updPeer l h).leg ix j = s.leg ix j := rfl
@[simp] theorem State.updEnd_reg (i : Fin 2) (h : LeatEnd → LeatEnd) (ix : Nat) : (s.updEnd i h).reg ix = s.reg ix := rfl
@[simp] theorem State.updEnd_f (i : Fin 2) (h : LeatEnd → LeatEnd) (y : Field) : (s.updEnd i h).f y = s.f y := rfl
@[simp] theorem State.updEnd_eng (i : Fin 2) (h : LeatEnd → LeatEnd) (ix : Engine) : (s.updEnd i h).eng ix = s.eng ix := rfl
@[simp] theorem State.updEnd_bridge (i : Fin 2) (h : LeatEnd → LeatEnd) (ix : Fin 5) : (s.updEnd i h).bridge ix = s.bridge ix := rfl
@[simp] theorem State.updEnd_leg (i : Fin 2) (h : LeatEnd → LeatEnd) (ix : Fin 5) (j : Fin 3) : (s.updEnd i h).leg ix j = s.leg ix j := rfl
@[simp] theorem State.updRace_reg (h : Race → Race) (ix : Nat) : (s.updRace h).reg ix = s.reg ix := rfl
@[simp] theorem State.updRace_f (h : Race → Race) (y : Field) : (s.updRace h).f y = s.f y := rfl
@[simp] theorem State.updRace_eng (h : Race → Race) (ix : Engine) : (s.updRace h).eng ix = s.eng ix := rfl
@[simp] theorem State.updRace_bridge (h : Race → Race) (ix : Fin 5) : (s.updRace h).bridge ix = s.bridge ix := rfl
@[simp] theorem State.updRace_leg (h : Race → Race) (ix : Fin 5) (j : Fin 3) : (s.updRace h).leg ix j = s.leg ix j := rfl
@[simp] theorem State.updCan_reg (n : Fin 2) (h : Can → Can) (ix : Nat) : (s.updCan n h).reg ix = s.reg ix := rfl
@[simp] theorem State.updCan_f (n : Fin 2) (h : Can → Can) (y : Field) : (s.updCan n h).f y = s.f y := rfl
@[simp] theorem State.updCan_eng (n : Fin 2) (h : Can → Can) (ix : Engine) : (s.updCan n h).eng ix = s.eng ix := rfl
@[simp] theorem State.updCan_bridge (n : Fin 2) (h : Can → Can) (ix : Fin 5) : (s.updCan n h).bridge ix = s.bridge ix := rfl
@[simp] theorem State.updCan_leg (n : Fin 2) (h : Can → Can) (ix : Fin 5) (j : Fin 3) : (s.updCan n h).leg ix j = s.leg ix j := rfl
@[simp] theorem State.updPlb_reg (h : Plumb → Plumb) (ix : Nat) : (s.updPlb h).reg ix = s.reg ix := rfl
@[simp] theorem State.updPlb_f (h : Plumb → Plumb) (y : Field) : (s.updPlb h).f y = s.f y := rfl
@[simp] theorem State.updPlb_eng (h : Plumb → Plumb) (ix : Engine) : (s.updPlb h).eng ix = s.eng ix := rfl
@[simp] theorem State.updPlb_bridge (h : Plumb → Plumb) (ix : Fin 5) : (s.updPlb h).bridge ix = s.bridge ix := rfl
@[simp] theorem State.updPlb_leg (h : Plumb → Plumb) (ix : Fin 5) (j : Fin 3) : (s.updPlb h).leg ix j = s.leg ix j := rfl
@[simp] theorem State.updLog_reg (h : WearLog → WearLog) (ix : Nat) : (s.updLog h).reg ix = s.reg ix := rfl
@[simp] theorem State.updLog_f (h : WearLog → WearLog) (y : Field) : (s.updLog h).f y = s.f y := rfl
@[simp] theorem State.updLog_eng (h : WearLog → WearLog) (ix : Engine) : (s.updLog h).eng ix = s.eng ix := rfl
@[simp] theorem State.updLog_bridge (h : WearLog → WearLog) (ix : Fin 5) : (s.updLog h).bridge ix = s.bridge ix := rfl
@[simp] theorem State.updLog_leg (h : WearLog → WearLog) (ix : Fin 5) (j : Fin 3) : (s.updLog h).leg ix j = s.leg ix j := rfl
@[simp] theorem State.putMem_reg (a n v : Nat) (ix : Nat) : (s.putMem a n v).reg ix = s.reg ix := rfl
@[simp] theorem State.putMem_f (a n v : Nat) (y : Field) : (s.putMem a n v).f y = s.f y := rfl
@[simp] theorem State.putMem_eng (a n v : Nat) (ix : Engine) : (s.putMem a n v).eng ix = s.eng ix := rfl
@[simp] theorem State.putMem_bridge (a n v : Nat) (ix : Fin 5) : (s.putMem a n v).bridge ix = s.bridge ix := rfl
@[simp] theorem State.putMem_leg (a n v : Nat) (ix : Fin 5) (j : Fin 3) : (s.putMem a n v).leg ix j = s.leg ix j := rfl
@[simp] theorem State.hold_reg (a : HeldAct) (ix : Nat) : (s.hold a).reg ix = s.reg ix := rfl
@[simp] theorem State.hold_f (a : HeldAct) (y : Field) : (s.hold a).f y = s.f y := rfl
@[simp] theorem State.hold_eng (a : HeldAct) (ix : Engine) : (s.hold a).eng ix = s.eng ix := rfl
@[simp] theorem State.hold_bridge (a : HeldAct) (ix : Fin 5) : (s.hold a).bridge ix = s.bridge ix := rfl
@[simp] theorem State.hold_leg (a : HeldAct) (ix : Fin 5) (j : Fin 3) : (s.hold a).leg ix j = s.leg ix j := rfl
@[simp] theorem State.send_reg (x : Sent) (ix : Nat) : (s.send x).reg ix = s.reg ix := rfl
@[simp] theorem State.send_f (x : Sent) (y : Field) : (s.send x).f y = s.f y := rfl
@[simp] theorem State.send_eng (x : Sent) (ix : Engine) : (s.send x).eng ix = s.eng ix := rfl
@[simp] theorem State.send_bridge (x : Sent) (ix : Fin 5) : (s.send x).bridge ix = s.bridge ix := rfl
@[simp] theorem State.send_leg (x : Sent) (ix : Fin 5) (j : Fin 3) : (s.send x).leg ix j = s.leg ix j := rfl
@[simp] theorem State.postDrv_reg (a : Nat) (v : Word) (ix : Nat) : (s.postDrv a v).reg ix = s.reg ix := rfl
@[simp] theorem State.postDrv_f (a : Nat) (v : Word) (y : Field) : (s.postDrv a v).f y = s.f y := rfl
@[simp] theorem State.postDrv_eng (a : Nat) (v : Word) (ix : Engine) : (s.postDrv a v).eng ix = s.eng ix := rfl
@[simp] theorem State.postDrv_bridge (a : Nat) (v : Word) (ix : Fin 5) : (s.postDrv a v).bridge ix = s.bridge ix := rfl
@[simp] theorem State.postDrv_leg (a : Nat) (v : Word) (ix : Fin 5) (j : Fin 3) : (s.postDrv a v).leg ix j = s.leg ix j := rfl
@[simp] theorem State.postWhd_reg (a : Nat) (v : Word) (ix : Nat) : (s.postWhd a v).reg ix = s.reg ix := rfl
@[simp] theorem State.postWhd_f (a : Nat) (v : Word) (y : Field) : (s.postWhd a v).f y = s.f y := rfl
@[simp] theorem State.postWhd_eng (a : Nat) (v : Word) (ix : Engine) : (s.postWhd a v).eng ix = s.eng ix := rfl
@[simp] theorem State.postWhd_bridge (a : Nat) (v : Word) (ix : Fin 5) : (s.postWhd a v).bridge ix = s.bridge ix := rfl
@[simp] theorem State.postWhd_leg (a : Nat) (v : Word) (ix : Fin 5) (j : Fin 3) : (s.postWhd a v).leg ix j = s.leg ix j := rfl

end Sys2Proof.Machine
end

