-- ==== Sys2Proof/Laws/Registers.lean ====
section
/-!
SUPPORT. What the shared operations on registers, sources, engines and arrays of the state do, said once
each: what is read after a write, which registers an operation changes, and that all of them keep the
canonical form.
-/

namespace Sys2Proof.Machine

open Sys2Proof.Safety

/-! ### Register words and fields -/

/-- The word written reads; every other register stays. -/
theorem State.reg_setReg (s : State) (a b : Nat) (w : Word) :
    (s.setReg a w).reg b = if b = a then w else s.reg b := Cells.get_set resetWord s.regs a b w

/-- The register words after a field was set. -/
theorem State.reg_setF (s : State) (x : Field) (v b : Nat) :
    (s.setF x v).reg b = if b = x.addr then (s.reg x.addr).put x.lo x.w v else s.reg b :=
  State.reg_setReg _ _ _ _

/-- The number set in a field reads, cut to the field's width. -/
theorem State.f_setF_same (s : State) (x : Field) (v : Nat) (h : x.lo + x.w ≤ 32) :
    (s.setF x v).f x = v % 2 ^ x.w := by
  unfold State.f
  rw [State.reg_setF, if_pos rfl, Word.field_put_same _ _ _ _ h]

/-- A field of another register stays. -/
theorem State.f_setF_reg (s : State) (x y : Field) (v : Nat) (h : y.addr ≠ x.addr) :
    (s.setF x v).f y = s.f y := by
  unfold State.f
  rw [State.reg_setF, if_neg h]

/-- A field beside the one set stays. -/
theorem State.f_setF_beside (s : State) (x y : Field) (v : Nat) (hy : y.lo + y.w ≤ 32)
    (h : x.lo + x.w ≤ y.lo ∨ y.lo + y.w ≤ x.lo) : (s.setF x v).f y = s.f y := by
  unfold State.f
  rw [State.reg_setF]
  by_cases ha : y.addr = x.addr
  · rw [if_pos ha, Word.field_put_other _ _ _ _ _ _ hy h, ha]
  · rw [if_neg ha]

/-- A field is below its width's power. -/
theorem State.f_lt (s : State) (x : Field) : s.f x < 2 ^ x.w := Word.field_lt _ _ _

/-! ### Which registers an operation changes -/

/-- One field put in a list of register words. -/
theorem State.reg_setF_foldl (s : State) (x : Field) (v a : Nat) :
    (s.setF x v).reg a = if x.addr = a then (s.reg a).put x.lo x.w v else s.reg a := by
  rw [State.reg_setF]
  by_cases h : a = x.addr
  · subst h; simp
  · rw [if_neg h, if_neg (fun e => h e.symm)]

/-- Nothing changed. -/
theorem regsAre_refl (s : State) : RegsAre s s [] := fun _ => rfl

/-- A field set. -/
theorem regsAre_setF (s : State) (x : Field) (v : Nat) : RegsAre s (s.setF x v) [(x, v)] :=
  fun a => by simpa using State.reg_setF_foldl s x v a

/-- One change after the other. -/
theorem RegsAre_append {s t u : State} {fs gs : List (Field × Nat)} (h : RegsAre s t fs) (k : RegsAre t u gs) :
    RegsAre s u (fs ++ gs) := fun a => by rw [k a, h a, List.foldl_append]

/-- The register words alone count. -/
theorem RegsAre_congr {s t u : State} {fs : List (Field × Nat)} (h : RegsAre s t fs) (k : u.regs = t.regs) :
    RegsAre s u fs := fun a => by unfold State.reg; rw [k]; exact h a

/-- A saturating count. -/
theorem regsAre_satAdd (s : State) (x : Field) (n : Nat) :
    RegsAre s (s.satAdd x n) [(x, min (2 ^ x.w - 1) (s.f x + n))] := regsAre_setF _ _ _

/-- One occurrence of a source, in a lane that is powered and out of reset (R230). -/
theorem regsAre_raise (s : State) (n : Nat) (h : s.live = true) : RegsAre s (s.raise n) (raised s n) := by
  unfold State.raise raised
  simp only [h, Bool.not_true, Bool.false_eq_true, if_false]
  split <;> exact regsAre_setF _ _ _

/-- In reset or without power no source occurs. -/
theorem State.raise_dead (s : State) (n : Nat) (h : s.live = false) : s.raise n = s := by
  simp [State.raise, h]

/-- An occurrence changes the source's count and nothing else. -/
theorem State.raise_frame (s : State) (n : Nat) : s.raise n = { s with regs := (s.raise n).regs } := by
  unfold State.raise
  split
  · rfl
  · dsimp only; split <;> rfl

/-- A level, in a lane that is powered and out of reset (R231). -/
theorem regsAre_level (s : State) (n : Nat) (on : Bool) (h : s.live = true) :
    RegsAre s (s.level n on) (levelled n on) := by
  unfold State.level levelled
  simp only [h, Bool.not_true, Bool.false_eq_true, if_false]
  cases on
  · exact regsAre_setF _ _ _
  · exact RegsAre_append (regsAre_setF _ _ _) (regsAre_setF _ _ _)

/-- A level changes the source's count and present level, and nothing else. -/
theorem State.level_frame (s : State) (n : Nat) (on : Bool) :
    s.level n on = { s with regs := (s.level n on).regs } := by
  unfold State.level
  split
  · rfl
  · dsimp only; split <;> rfl

/-- A lane stays powered and out of reset through any change of register words. -/
@[simp] theorem State.live_setF (s : State) (x : Field) (v : Nat) : (s.setF x v).live = s.live := rfl
@[simp] theorem State.live_setReg (s : State) (a : Nat) (w : Word) : (s.setReg a w).live = s.live := rfl
@[simp] theorem State.live_satAdd (s : State) (x : Field) (n : Nat) : (s.satAdd x n).live = s.live := rfl
@[simp] theorem State.live_setEng (s : State) (e : Engine) (x : EngState) : (s.setEng e x).live = s.live := rfl
@[simp] theorem State.live_raise (s : State) (n : Nat) : (s.raise n).live = s.live := by
  rw [State.raise_frame]; rfl
@[simp] theorem State.live_level (s : State) (n : Nat) (on : Bool) : (s.level n on).live = s.live := by
  rw [State.level_frame]; rfl

/-- A source that occurred is pending. -/
theorem State.isPending_raise (s : State) (n : Nat) (h : s.live = true) : (s.raise n).isPending n = true := by
  unfold State.isPending State.fb
  have hlt := State.f_lt s (Fld.CAT_CNT_COUNT n)
  have hw : (2 : Nat) ^ (Fld.CAT_CNT_COUNT n).w = 16 := rfl
  by_cases hc : s.f (Fld.CAT_CNT_COUNT n) = 15
  · have hr : s.raise n = s.setF (Fld.CAT_CNT_SAT n) 1 := by
      unfold State.raise; rw [h]; exact if_pos hc
    rw [hr, State.f_setF_beside _ _ _ _ (by decide : 0 + 4 ≤ 32) (Or.inr (by decide : 0 + 4 ≤ 4)), hc]
    rfl
  · have hr : s.raise n = s.setF (Fld.CAT_CNT_COUNT n) (s.f (Fld.CAT_CNT_COUNT n) + 1) := by
      unfold State.raise; rw [h]; exact if_neg hc
    rw [hr, State.f_setF_same _ _ _ (by decide : 0 + 4 ≤ 32), hw, Nat.mod_eq_of_lt (by omega), bne_iff_ne]
    omega

/-! ### Engines and the parts of the arrays -/

/-- Engines have different places. -/
theorem engIdx_inj {e f : Engine} (h : engIdx e = engIdx f) : e = f := by
  have hv : (engIdx e).val = (engIdx f).val := congrArg Fin.val h
  cases e <;> cases f <;> simp only [engIdx] at hv <;>
    first | rfl | (exfalso; revert hv; decide) | (exfalso; (simp at hv <;> omega)) | (congr 1; apply Fin.ext; omega)

/-- The engine that was set reads as set; the others stay. -/
theorem State.eng_setEng (s : State) (e f : Engine) (x : EngState) :
    (s.setEng e x).eng f = if f = e then x else s.eng f := by
  unfold State.setEng State.eng
  simp only [Vector.getElem_set]
  by_cases h : f = e
  · simp [h]
  · have : ¬ (engIdx e).val = (engIdx f).val := fun k => h (engIdx_inj (Fin.ext k)).symm
    simp [h, this]

@[simp] theorem State.eng_setEng_same (s : State) (e : Engine) (x : EngState) : (s.setEng e x).eng e = x := by
  rw [State.eng_setEng, if_pos rfl]

/-- The bridge that was changed reads as changed; the others stay. -/
theorem State.bridge_updBrg (s : State) (b c : Fin 5) (h : Bridge → Bridge) :
    (s.updBrg b h).bridge c = if c = b then h (s.bridge b) else s.bridge c := by
  unfold State.updBrg State.bridge
  simp only [Vector.getElem_set]
  by_cases k : c = b
  · simp [k]
  · have : ¬ b.val = c.val := fun e => k (Fin.ext e.symm)
    simp [k, this]

/-- The leg that was changed reads as changed; the others stay. -/
theorem State.leg_updLeg (s : State) (b c : Fin 5) (k j : Fin 3) (h : Leg → Leg) :
    (s.updLeg b k h).leg c j = if c = b ∧ j = k then h (s.leg b k) else s.leg c j := by
  unfold State.updLeg State.leg
  rw [State.bridge_updBrg]
  by_cases hc : c = b
  · subst hc
    simp only [if_true, true_and, Vector.getElem_set]
    by_cases hj : j = k
    · simp [hj]
    · have : ¬ k.val = j.val := fun e => hj (Fin.ext e.symm)
      simp [hj, this]
  · simp [hc]

/-- The trigger unit that was changed reads as changed; the others stay. -/
theorem State.unit_updSlu (s : State) (n m : Fin 5) (h : Sluice → Sluice) :
    (s.updSlu n h).unit m = if m = n then h (s.unit n) else s.unit m := by
  unfold State.updSlu State.unit
  simp only [Vector.getElem_set]
  by_cases k : m = n
  · simp [k]
  · have : ¬ n.val = m.val := fun e => k (Fin.ext e.symm)
    simp [k, this]

/-- The Cog channel that was changed reads as changed; the others stay. -/
theorem State.cogOf_updCog (s : State) (c d : Fin 6) (h : Cog → Cog) :
    (s.updCog c h).cogOf d = if d = c then h (s.cogOf c) else s.cogOf d := by
  unfold State.updCog State.cogOf
  simp only [Vector.getElem_set]
  by_cases k : d = c
  · simp [k]
  · have : ¬ c.val = d.val := fun e => k (Fin.ext e.symm)
    simp [k, this]

/-- The CAN controller that was changed reads as changed; the other stays. -/
theorem State.canUnit_updCan (s : State) (n m : Fin 2) (h : Can → Can) :
    (s.updCan n h).canUnit m = if m = n then h (s.canUnit n) else s.canUnit m := by
  unfold State.updCan State.canUnit
  simp only [Vector.getElem_set]
  by_cases k : m = n
  · simp [k]
  · have : ¬ n.val = m.val := fun e => k (Fin.ext e.symm)
    simp [k, this]

/-! ### Register writes -/

/-- An engine that does not issue writes nothing (DESIGN CHOICE, log entry 7). -/
theorem State.access_idle (s : State) (e : Engine) (a : Nat) (h : State → WOut) (hc : s.closeLag e = s)
    (hi : s.canIssue e = false) : s.access e a h = s := by simp [State.access, hc, hi]

/-- A write that is let through does what the register's rule says. -/
theorem State.access_pass (s t : State) (e : Engine) (a : Nat) (h : State → WOut) (hp : Passes s e a)
    (hr : h s = .done t) : s.access e a h = t := by
  simp [State.access, State.writeEff, hp.1, hp.2.1, hp.2.2, hr]

/-- A write that the register's rule reserves to another level raises PRIV, whatever else keeps it from the
register (R154). -/
theorem State.access_priv (s : State) (e : Engine) (a : Nat) (h : State → WOut) (hc : s.closeLag e = s)
    (hi : s.canIssue e = true) (hr : h s = .priv) :
    s.access e a h = (s.raiseExc e { code := 2, info := 3, bad := some (BitVec.ofNat 32 a) }).push s e := by
  simp [State.access, State.writeEff, hc, hi, hr]

/-- A write that the ownership rule refuses changes nothing but source 10 and VIOL (R97). -/
theorem State.access_notOwner (s t : State) (e : Engine) (a : Nat) (h : State → WOut) (hc : s.closeLag e = s)
    (hi : s.canIssue e = true) (hr : h s = .done t) (hg : s.writeGate e a = .notOwner) :
    s.access e a h = s.refuseOwner := by
  simp [State.access, State.writeEff, hc, hi, hr, hg]

/-- A write that a region refuses raises what the gate says. -/
theorem State.access_exc (s t : State) (e : Engine) (a : Nat) (h : State → WOut) (c : Exc) (hc : s.closeLag e = s)
    (hi : s.canIssue e = true) (hr : h s = .done t) (hg : s.writeGate e a = .exc c) :
    s.access e a h = (s.raiseExc e c).push s e := by
  simp [State.access, State.writeEff, hc, hi, hr, hg]

/-! ### The canonical form -/

theorem Canonical_setReg (s : State) (a : Nat) (w : Word) (h : Canonical s) : Canonical (s.setReg a w) :=
  ⟨h.1, h.2.1, Cells.set_wf resetWord _ _ _ h.2.2⟩
theorem Canonical_setF (s : State) (x : Field) (v : Nat) (h : Canonical s) : Canonical (s.setF x v) :=
  Canonical_setReg _ _ _ h
theorem Canonical_raise (s : State) (n : Nat) (h : Canonical s) : Canonical (s.raise n) := by
  unfold State.raise
  split
  · exact h
  · dsimp only; split <;> exact Canonical_setF _ _ _ h
theorem Canonical_level (s : State) (n : Nat) (on : Bool) (h : Canonical s) : Canonical (s.level n on) := by
  unfold State.level
  split
  · exact h
  · dsimp only
    split
    · exact Canonical_setF _ _ _ (Canonical_setF _ _ _ h)
    · exact Canonical_setF _ _ _ h
theorem Canonical_putMem (s : State) (a n v : Nat) (h : Canonical s) : Canonical (s.putMem a n v) :=
  ⟨Memory.write_wf _ _ _ _ h.1, h.2.1, h.2.2⟩

/-- A chain of updates keeps what each of them keeps. -/
theorem State.each_keeps {α : Type} (P : State → Prop) (xs : List α) (h : State → α → State)
    (hk : ∀ s x, P s → P (h s x)) (s : State) (hs : P s) : P (s.each xs h) := by
  induction xs generalizing s with
  | nil => exact hs
  | cons x r ih => exact ih _ (hk s x hs)

/-! ### Memory as engines see it -/

/-- Where an access that reaches memory goes (R138). -/
theorem State.place_of_reaches (s : State) (e : Engine) (k : AccKind) (size : Nat) (a : Word) (la : Nat)
    (hk : k ≠ .ex) (hz : size ≤ 2) (h : Reaches s e k (bytesOf size) a la) : (s.ahead e).place e (k == .wr) size a = .mem la := by
  obtain ⟨hal, sh, own, sine, hl, hp, hs, hb⟩ := h
  generalize s.ahead e = u at *
  have h1 : alignBad (u.locate e a.toNat) a.toNat size = false := by simp [alignBad, hl, hal]
  have h2 : (if (k == AccKind.wr) = true then AccKind.wr else AccKind.rd) = k := by cases k <;> simp_all
  have h3 : ((u.locate e a.toNat).checked && !u.permits e k a.toNat) = false := by
    rcases hp with h | h <;> simp [hl, Loc.checked, h]
  have h4 : (k == AccKind.wr && sine) = false := by cases k <;> simp_all
  have h5 : ((!(k == AccKind.wr) || size != 2) && u.oneCopy e la) = false ∧
      ((!(k == AccKind.wr) || size != 2) && u.bad0 la) = false := by
    by_cases hn : k = .rd ∨ bytesOf size < 4
    · simp [(hb hn).1, (hb hn).2]
    · have : k = .wr := by cases k <;> simp_all
      have : size = 2 := by
        by_contra hc
        exact hn (.inr (by unfold bytesOf; split <;> [omega; (split <;> omega)]))
      simp_all
  rw [hl] at h1 h3
  simp only [State.place, hl, h1, h2, h3, h4, h5.1, h5.2, Bool.false_eq_true, if_false]

end Sys2Proof.Machine
end

