-- ==== Sys2Proof/Machine/Limits.lean ====
section
/-!
DEFINITION. The two limits of chapter 19 that are sums over the lanes and legs: the gate power of a drive die (R451)
and the hottest junction of the module (R452). No command depends on them: they bind the board.
-/

namespace Sys2Proof.Machine

/-- The gate load of one leg: the charge of a switch in nC and the switching frequency in Hz. -/
structure GateLoad where
  charge : Nat
  freq   : Nat
deriving DecidableEq, Repr

/-- The drive current in nA: 20 mA and twice Qg × f for every used leg, the spillway among them (R451). -/
def driveCurrent (legs : List GateLoad) : Nat := legs.foldl (fun n g => n + 2 * g.charge * g.freq) 20000000

/-- The gate loads keep VDRV (in mV) times that current at or below 1.3 W (R451). -/
def gatePowerOk (vdrv : Nat) (legs : List GateLoad) : Bool := decide (vdrv * driveCurrent legs ≤ 1300000000000)

/-- A hundred times the hottest junction's temperature (R452): the case in thousandths of a degree, the dissipation of
the module and of its hottest lane in mW. -/
def junctionTemp (tCase : Int) (total lane : Nat) : Int :=
  100 * tCase + 45 * total + 10 * (3 * lane - total)

end Sys2Proof.Machine
end

