-- ==== Sys2Proof/Machine/PmbusWire.lean ====
section
/-!
DEFINITION. The PMBus transfers as they go over the wires (R55, R463): the bytes of each, their PEC, and its SCL bit
periods. The PEC is the CRC-8 of the SMBus specification, which R55 names by its name only (PRESUMED, log entry 75).
-/

namespace Sys2Proof.Machine

/-- The four forms of transfer of R463. -/
inductive PmbForm where
  | writeByte | writeWord | readByte | readWord
deriving DecidableEq, Repr

/-- The form of a command code (R55). -/
def pmbForm (code : Nat) : PmbForm :=
  if code = 0x01 then .writeByte else if code = 0x20 then .readByte
  else if code = 0x21 then .writeWord else .readWord

/-- One byte through the CRC-8 with polynomial x^8 + x^2 + x + 1. -/
def crc8Step (acc : BitVec 8) (b : Nat) : BitVec 8 :=
  (List.range 8).foldl (fun (c : BitVec 8) _ => if c.msb then (c <<< 1) ^^^ 0x07 else c <<< 1) (acc ^^^ BitVec.ofNat 8 b)

/-- The PEC of some bytes. -/
def pec (bs : List Nat) : Nat := (bs.foldl crc8Step 0).toNat

/-- A transfer's bytes in its parts: a repeated start stands between two of them. Data go low byte first. -/
def pmbParts (form : PmbForm) (addr code data : Nat) : List (List Nat) :=
  let w := [2 * addr, code]
  let rd := 2 * addr + 1
  match form with
  | .writeByte => [w ++ [data % 256, pec (w ++ [data % 256])]]
  | .writeWord =>
    let d := [data % 256, data / 256 % 256]
    [w ++ d ++ [pec (w ++ d)]]
  | .readByte => [w, [rd, data % 256, pec (w ++ [rd, data % 256])]]
  | .readWord =>
    let d := [rd, data % 256, data / 256 % 256]
    [w, d ++ [pec (w ++ d)]]

/-- SCL bit periods from the start condition to the last acknowledge: one for each start, nine for each byte. -/
def pmbPeriods (parts : List (List Nat)) : Nat := parts.foldl (fun n p => n + 1 + 9 * p.length) 0

end Sys2Proof.Machine
end

