-- ==== Sys2Proof/Tests/Slice0.lean ====
section
/-!
SUPPORT. The model's own tests: values worked out in the spec, ill-formed commands, and for every statement
with hypotheses a state and operands that meet them.
-/

namespace Sys2Proof.Tests

-- One after another: each task keeps a stack of its own, and the tests are many.
set_option Elab.async false

open Sys2Proof.Machine Sys2Proof.Safety

/-! ### States -/

/-- Fields set. -/
def fields (s : State) (ws : List (Field × Nat)) : State := ws.foldl (fun t x => t.setF x.1 x.2) s

/-- A lane that is awake, before SEAL, its engines running. -/
def awake (ws : List (Field × Nat)) : State :=
  let s : State := { State.reset with rst := { State.reset.rst with asserted := none, porHold := false } }
  let run (t : State) (e : Engine) : State := t.updEng e (fun x => { x with run := .running, pc := 0x10000000 })
  fields ([Engine.msp0, .miller, .flume].foldl run s) ws

/-- The same with Sluice engine 2 running its program. -/
def sluice (ws : List (Field × Nat)) : State :=
  (awake ws).updEng (.slu 2) (fun x => { x with run := .running, pc := 0 })

/-- A sealed lane with one region that grants everything to everyone. -/
def shut (ws : List (Field × Nat)) : State :=
  fields (((awake []).setReg (Reg.PROT_REGION_LIMIT 0) 0xFFFFF000).setReg (Reg.PROT_REGION_ATTR 0) 0x8000070F)
    ((Fld.PROT_SEAL_SEALED, 1) :: ws)

/-- An engine's g registers 1 and 2 set. -/
def regs12 (s : State) (e : Engine) (a b : Word) : State := s.updEng e (fun x => (x.setG 1 a).setG 2 b)

/-- The drive die with its gates enabled. -/
def driveOn (s : State) : State := { s with drv := { s.drv with ena := true, vdrvOk := true } }

/-- The state after a command. -/
def after (c : Instr) (s : State) : State := match exec c s with | .next t => t | _ => s

/-! ### Values of the spec -/

/-- CRC-32C of the nine digits, the check value of the polynomial that R326 names. -/
theorem test_crc32c : crc32c [0x31, 0x32, 0x33, 0x34, 0x35, 0x36, 0x37, 0x38, 0x39] = 0xE3069283 := by
  decide +kernel
/-- The sine of an eighth and a quarter turn (R182). -/
theorem test_sine : sine 0x20000000 = 0x5A82799A ∧ sine 0x40000000 = 0x7FFFFFFF ∧ cosine 0 = 0x7FFFFFFF := by
  decide +kernel
/-- Halves go to even (R166). -/
theorem test_halfEven : halfEven 5 2 = 2 ∧ halfEven 7 2 = 4 ∧ halfEvenInt (-5) 2 = -2 := by decide
/-- The midpoint drops the first and the last of three values or more, and truncates (R344). -/
theorem test_midpoint : midpoint [3, -100, 8, 5] = 4 ∧ midpoint [-3, 0] = -1 ∧ midpoint [7] = 7 := by decide +kernel

/-! ### Commands -/

/-- ADD of 2 and 3 (R132). -/
theorem test_add : ((after (.add ⟨.msp0, 3, 1, 2⟩) (regs12 (awake []) .msp0 2 3)).eng .msp0).getG 3 = 5 := by
  decide +kernel
/-- g0 reads what was written (R126), and the immediate is sign-extended (R134). -/
theorem test_addi : ((after (.addi ⟨.msp0, 1, 0, 0x1FFFF⟩) (awake [])).eng .msp0).getG 1 = 0xFFFFFFFF := by
  decide +kernel
/-- A division by zero sets V and gives 0x7FFFFFFF (R133). -/
theorem test_div : let t := after (.div ⟨.msp0, 3, 1, 2⟩) (regs12 (awake []) .msp0 7 0)
    (t.eng .msp0).getG 3 = 0x7FFFFFFF ∧ (t.eng .msp0).psw.getLsbD 3 = true := by decide +kernel
/-- A word stored and loaded back (R137, R138): g2 goes to 0x10000104 and comes back in g4. -/
theorem test_store_load :
    let s := after (.stw ⟨.miller, 2, 1, 4⟩ false) (regs12 (awake []) .miller 0x10000100 0xCAFE1234)
    s.memWord 0x10000104 = 0xCAFE1234 ∧ s.memByte 0x10000104 = 0x34 ∧
      ((after (.ldw ⟨.miller, 4, 1, 4⟩ false) s).eng .miller).getG 4 = 0xCAFE1234 := by decide +kernel
/-- A store of the pair reaches memory once core 1 has retired it too (R219), and core 0 reads it before (R219). -/
theorem test_pair_store :
    let s := after (.stw ⟨.msp0, 2, 1, 4⟩ false) (regs12 (awake []) .msp0 0x10000100 0xCAFE1234)
    s.memWord 0x10000104 = 0 ∧ (s.closeLag .msp0).memWord 0x10000104 = 0xCAFE1234 ∧
      ((after (.ldw ⟨.msp0, 4, 1, 4⟩ false) s).eng .msp0).getG 4 = 0xCAFE1234 := by decide +kernel
/-- TRAP 5 enters the handler with its code and number, and saves the pc after it (R145, R153). -/
theorem test_trap : let x := (after (.trap ⟨.msp0, 0, 0, 5⟩) (awake [])).eng .msp0
    x.cause = 0x50B ∧ x.epc = 0x10000004 ∧ x.epsw = 0x200 ∧ x.pc = 0 ∧ x.psw = 0x600 := by decide +kernel
/-- CAT_DONE takes the count reported from an edge source (R232). -/
theorem test_catDone : (after (.catDone .msp0 0x205) (awake [(Fld.CAT_CNT_COUNT 5, 7)])).f (Fld.CAT_CNT_COUNT 5) = 5 := by
  decide +kernel
/-- The turn mark counts LEAT_TURNNO. -/
theorem test_turnMark : (after .turnMark (awake [(Fld.KNR_STAT_STATE, 4)])).reg Reg.LEAT_TURNNO = 1 := by
  decide +kernel
/-- A tick of the RC timebase is sixteen units (DESIGN CHOICE, log entry 8). -/
theorem test_tick : step (awake []) = .next { awake [] with tnow := 16, age := 16 } := by rfl

/-! ### Ill-formed commands -/

theorem test_illFormed_row : Instr.wellFormed (.marchTestRow 7 64 0 none) = false ∧
    Instr.wellFormed (.marchTestRow 7 63 0 (some [127])) = true ∧ Instr.wellFormed (.rowRepairDone 0 1024 true) = false := by
  decide +kernel
theorem test_illFormed_sector : Instr.wellFormed (.sectorRemapDone 4096) = false ∧
    Instr.wellFormed (.sectorRemapDone 0) = true := by decide +kernel
theorem test_illFormed_address : Instr.wellFormed (.whdWrite .msp0 0x40060000 0) = false ∧
    Instr.wellFormed (.whdWrite .msp0 0x40050042 0) = false ∧ Instr.wellFormed (.drvWrite .msp0 0x40280001 0) = false := by
  decide +kernel
theorem test_illFormed_packet : Instr.wellFormed (.raceWrite ⟨racePacket 2 0 0 0 [], true, true⟩) = false ∧
    Instr.wellFormed (.raceWrite ⟨racePacket 1 0 0 0 [5], true, true⟩) = true ∧
    Instr.wellFormed (.raceDoorbell ⟨racePacket 1 0 0 0 [5], true, true⟩) = false ∧
    Instr.wellFormed (.raceSync ⟨racePacket 2 0 0 0 [], true, true⟩) = false ∧
    Instr.wellFormed (.raceTraceReceived ⟨racePacket 5 0 0 0 [], true, true⟩) = false := by decide +kernel
theorem test_illFormed_frame : Instr.wellFormed (.canFrameReceived 0 ⟨0, 0, List.replicate 65 0⟩) = false ∧
    Instr.wellFormed (.canFrameReceived 0 ⟨0, 0, List.replicate 64 0⟩) = true := by decide +kernel
theorem test_illFormed_baseline : Instr.wellFormed (.baselineDone (.points [⟨0, 0, []⟩])) = false := by decide +kernel
theorem test_illFormed_faults : exec (.rowRepairDone 0 1024 true) (awake []) = .fault .illFormed := by rfl

/-! ### Witnesses: states and operands that meet the hypotheses of the statements -/

theorem witness_StepRunsFront : ({ awake [] with pending := [.turnMark, .hourTick] } : State).pending =
    .turnMark :: [.hourTick] := rfl

theorem witness_IdleStepTicks : State.reset.pending = [] ∧ State.reset.rst.asserted ≠ none ∧
    (awake []).pending = [] ∧ (awake []).rst.asserted = none ∧ (awake []).whd.phase = .awake ∧
    (awake []).f Fld.SYS_TBSEL_ACTIVE = 0 ∧ (awake [(Fld.SYS_TBSEL_ACTIVE, 2)]).f Fld.SYS_TBSEL_ACTIVE ≠ 0 := by
  decide +kernel

theorem witness_EveryCommandRuns : Instr.wellFormed .turnMark = true ∧
    Instr.wellFormed (.sectorRemapDone 4095) = true ∧ Instr.wellFormed (.sectorRemapDone 4096) = false := by
  decide +kernel

theorem witness_LaneAndQueueKept : exec .stopProgramComplete State.reset = .next State.reset := by rfl

theorem witness_CanonicalKept : Canonical State.reset ∧ step State.reset = .next State.reset :=
  ⟨State.reset_wf, by rfl⟩

/-- A key well that is locked, and a step. -/
theorem witness_KeyLockKept :
    let s : State := { State.reset with cis := { State.reset.cis with keyLock := true, keyHash := 5 } }
    KeyInv s ∧ s.cis.keyLock = true ∧ step s = .next s := by
  refine ⟨fun _ => by decide, rfl, by rfl⟩

theorem witness_IntegerInstructions : Issues (awake []) .msp0 1 ∧ Issues (sluice []) (.slu 2) 1 ∧
    ((regs12 (awake []) .msp0 0x80000000 0xFFFFFFFF).eng .msp0).getG 1 = 0x80000000 ∧
    ((regs12 (awake []) .msp0 0x80000000 0xFFFFFFFF).eng .msp0).getG 2 = 0xFFFFFFFF ∧
    Issues (regs12 (awake []) .msp0 0x80000000 0xFFFFFFFF) .msp0 1 ∧
    Issues (regs12 (awake []) .flume 5 32) .flume 1 := by
  unfold Issues; decide +kernel

theorem witness_ImmediateInstructions : Issues (awake []) .miller 1 ∧ Issues (awake []) .miller 2 ∧
    Issues (sluice []) (.slu 2) 2 ∧ (⟨.miller, 3, 0, 31, 0⟩ : FmtSh).hi = 0 ∧
    (⟨.miller, 15, 0, 0, 7⟩ : FmtLI).low = 0 ∧ (⟨.miller, 15, 0, 0, 7⟩ : FmtLI).gd.toNat < 16 := by
  unfold Issues; decide +kernel

theorem witness_IllegalForms : Issues (awake []) .flume 1 ∧ Issues (awake []) .msp0 2 ∧
    (⟨.msp0, 1, 2, 31⟩ : FmtA).gb ≠ 0 ∧ (⟨.msp0, 1, 2, 31⟩ : FmtA).gd ≠ 0 ∧
    16 ≤ (⟨.msp0, 16, 0, 0⟩ : FmtA).gd.toNat ∧ 16 ≤ (⟨.msp0, 0, 0, 16⟩ : FmtA).gb.toNat ∧
    (⟨.msp0, 1, 0, 0, 1⟩ : FmtSh).hi ≠ 0 ∧ (⟨.msp0, 0, 0, 1, 7⟩ : FmtLI).low ≠ 0 := by
  unfold Issues; decide +kernel

theorem witness_LoadsStoresAndAtomics :
    let s := regs12 (awake []) .msp0 0x1023FFFC 0
    Issues s .msp0 1 ∧ Reaches s .msp0 .rd 4 0x1023FFFC 0x1023FFFC ∧ Reaches s .msp0 .wr 4 0x1023FFFC 0x1023FFFC ∧
    Reaches s .msp0 .rd 2 0x1023FFFE 0x1023FFFE ∧ Reaches s .msp0 .wr 1 0x1023FFFF 0x1023FFFF ∧
    Reaches s .msp0 .wr 4 0x100 0x20100100 ∧
    s.locate .msp0 0x1023FFFC = .mem 0x1023FFFC true false false ∧ s.permits .msp0 .rd 0x1023FFFC = true ∧
    s.locate .msp0 0x100 = .mem 0x20100100 false true false := by
  refine ⟨by unfold Issues; decide +kernel, ⟨by decide, true, false, false, by decide +kernel⟩,
    ⟨by decide, true, false, false, by decide +kernel⟩, ⟨by decide, true, false, false, by decide +kernel⟩,
    ⟨by decide, true, false, false, by decide +kernel⟩, ⟨by decide, false, true, false, by decide +kernel⟩, ?_⟩
  decide +kernel

theorem witness_Exceptions :
    let s := awake [(Fld.CAT_CNT_COUNT 5, 1)]
    let h := (s.setReg (Reg.CAT_TGT_EN 0 0) 0x20).updEng .msp0 (fun x => { x with psw := 0x300 })
    let r := (shut []).setReg (Reg.PROT_REGION_ATTR 1) 0
    Issues s .msp0 1 ∧ s.locate .msp0 0x10000001 ≠ .regs ∧ s.locate .msp0 0x40000010 = .regs ∧
    s.locate .msp0 0x30000000 = .none ∧ s.permits .msp0 .rd 0x30000000 = true ∧
    r.locate .msp0 0x10000100 = .mem 0x10000100 true false false ∧
    ((fields r [(Fld.PROT_REGION_LIMIT_LIMIT 0, 0x10000)]).permits .msp0 .rd 0x10001000 = false) ∧
    Issues (fields r [(Fld.PROT_REGION_LIMIT_LIMIT 0, 0x10000)]) .msp0 1 ∧
    (s.eng .msp0).psw.getLsbD 10 = false ∧
    h.live = true ∧ (h.eng .msp0).run = .running ∧ (h.eng .msp0).psw.getLsbD 8 = true ∧ h.eventPending .msp0 = true := by
  unfold Issues; decide +kernel

theorem witness_BranchesAndJumps : Issues (awake []) .msp0 1 ∧ (⟨.msp0, 0, 1, 0⟩ : FmtA).gb = 0 ∧
    ((regs12 (awake []) .msp0 0xFFFFFFFC 2).eng .msp0).getG 1 = 0xFFFFFFFC ∧
    Issues (regs12 (awake []) .msp0 0xFFFFFFFC 2) .msp0 1 := by
  unfold Issues; decide +kernel

theorem witness_FloatInstructions : Issues (sluice []) (.slu 2) 1 ∧ Engine.slu 2 ≠ .flume ∧
    (⟨.slu 2, 15, 15, 0⟩ : FmtA).gd.toNat < 16 ∧ (⟨.slu 2, 0, 15, 15⟩ : FmtA).gd = 0 := by
  unfold Issues; decide +kernel

theorem witness_SystemAndControlWords :
    let task := (awake []).updEng .msp0 (fun x => { x with psw := 0 })
    let wait := ((awake [(Fld.CAT_CNT_COUNT 5, 1)]).setReg (Reg.CAT_TGT_EN 1 0) 0x20).updEng .miller
      (fun x => { x with run := .waiting })
    Issues (awake []) .msp0 1 ∧ ((awake []).eng .msp0).psw.getLsbD 9 = true ∧ Issues task .msp0 1 ∧
    (task.eng .msp0).psw.getLsbD 9 = false ∧ Issues (sluice []) (.slu 2) 1 ∧ wait.live = true ∧
    (wait.eng .miller).run = .waiting ∧ wait.eventPending .miller = true := by
  unfold Issues; decide +kernel

/-- One third, and another finite word. -/
theorem witness_RoundingIsNearest : fval (roundRat 0 false (2 ^ 149) 3).1 = .fin false 11184811 124 ∧
    fval 0x7F7FFFFF = .fin false 16777215 253 := by decide +kernel

theorem witness_ControlArithmetic : Issues (sluice []) (.slu 2) 1 ∧ hasCtl (.slu 2) = true ∧
    Issues (awake []) .msp0 1 ∧ hasCtl .msp0 = true ∧
    (let x := ((sluice []).updEng (.slu 2) (fun x => (x.setL 3 0x3F800000).setL 4 0x3F000001)).eng (.slu 2)
     0 < (operand true (x.getL 3)).1 ∧ 0 < (operand true (x.getL 4)).1 ∧
       (operand true (x.getL 3)).1 < 4 * (operand true (x.getL 4)).1) := by
  unfold Issues; decide +kernel

theorem witness_TransformsSineAndSvm : Issues (sluice []) (.slu 2) 1 ∧
    (12 : BitVec 4).toNat % 4 = 0 ∧ (14 : BitVec 4).toNat % 2 = 0 := by
  unfold Issues; decide +kernel

/-- A gain table with rising points, and an argument at a point and between two. -/
theorem witness_ControlMovesAndBinary32 :
    let a := 0x20010000 + 2 * 0x20000
    let s := (List.range 33).foldl (fun (t : State) k => (t.putMem (a + 8 * k) 4 (100 * k)).putMem (a + 8 * k + 4) 4 k)
      (sluice [(Fld.SYS_MODE_MODE, mSERVICE)])
    let wd (i : Nat) : Int := (s.memWord (lutBase (.slu 2) + 4 * i)).toInt
    Issues s (.slu 2) 1 ∧ (∀ k < 32, wd (2 * k) < wd (2 * k + 2)) ∧ wd 0 < 100 ∧ wd 2 ≤ 100 ∧ 100 < wd 4 ∧
    lReach (.slu 2) (0x20000000 + 2 * 0x20000) = true ∧ s.md = mSERVICE ∧
    s.locate (.slu 2) 0x40000010 = .regs := by
  unfold Issues; decide +kernel

theorem witness_OscillationAndRelay : Issues (sluice []) (.slu 2) 1 ∧ (sluice []).md ≠ mSERVICE ∧
    Issues (sluice [(Fld.SYS_MODE_MODE, mSERVICE)]) (.slu 2) 1 ∧
    (sluice [(Fld.SYS_MODE_MODE, mSERVICE)]).md = mSERVICE ∧ (0x1F : BitVec 12).toNat / 16 = 1 := by
  unfold Issues; decide +kernel

theorem witness_SluiceRunAndConfiguration :
    let s := awake []
    let run := sluice [(Fld.SLU_CTL_RUN 2, 1), (Fld.SLU_STAT_STATE 2, 3)]
    let kept := shut [(Fld.PROT_OWNBRG_B1, 3), (Fld.SYS_MODE_MODE, mTRIPLEX), (Fld.SLU_STAT_STATE 2, 2)]
    let task := s.updEng .msp0 (fun x => { x with psw := 0 })
    Pair s .msp0 (Reg.SLU_CTL 2) ∧ s.f (Fld.SLU_STAT_STATE 2) = 0 ∧ s.f (Fld.SLU_CTL_RUN 2) = 0 ∧
    Pair run .msp0 (Reg.SLU_CTL 2) ∧ run.f (Fld.SLU_CTL_RUN 2) = 1 ∧ run.f (Fld.SLU_STAT_STATE 2) = 3 ∧
    Pair kept .msp0 (Reg.SLU_CTL 2) ∧ kept.ownsAny (.slu 2) = true ∧ kept.inRun = true ∧
    task.canIssue .msp0 = true ∧ task.super .msp0 = false ∧
    Passes s .miller (Reg.SLU_TRIG 2 3) ∧ Passes (sluice []) (.slu 2) (Reg.SLU_TRIG 2 3) := by
  unfold Pair Passes; decide +kernel

theorem witness_TriggersAndOverruns :
    let s := awake [(Fld.SLU_STAT_STATE 2, 1), (Fld.PWR_GOV_EN, 1), (Fld.PWR_GOV_CEIL, 50)]
    let t := s.updInput 2 3 (fun x => { x with due := 1 })
    let busy := (s.updInput 2 3 (fun x => { x with due := 1, pend := true })).updSlu 2 (fun x => { x with overCnt := 7 })
    let full := s.updInput 2 3 (fun x => { x with filling := true, ready := true })
    Passes s .msp0 (Reg.SLU_SWTRG 2) ∧ s.f (Fld.SLU_STAT_STATE 2) = 1 ∧ t.live = true ∧ 0 < (t.input 2 3).due ∧
    (t.input 2 3).pend = false ∧ 0 < (busy.input 2 3).due ∧ (busy.input 2 3).pend = true ∧
    ((busy.unit 2).overCnt + 1) % 8 = 0 ∧ (full.input 2 3).ready = true ∧ (full.input 2 3).filling = true ∧
    busy.f Fld.PLB_STAT_BUSY = 0 ∧ busy.f Fld.PWR_GOV_EN = 1 ∧ busy.f Fld.PWR_STAT_PMBUS_TIMEOUT = 0 ∧
    max (busy.f Fld.PWR_GOV_FLOOR) (20 + busy.f Fld.PWR_GOV_WEAR + busy.f Fld.PWR_GOV_OVR) < busy.f Fld.PWR_GOV_CEIL ∧
    20 + busy.f Fld.PWR_GOV_WEAR + busy.f Fld.PWR_GOV_OVR + 5 ≤ busy.f Fld.PWR_GOV_CEIL := by
  unfold Passes; decide +kernel

theorem witness_EvaluationsAndEmit :
    let s := sluice [(Fld.SLU_STAT_STATE 2, 1), (Fld.SLU_STAT_EVAL 2, 1)]
    let two := (s.updInput 2 1 (fun x => { x with pend := true })).updInput 2 3 (fun x => { x with pend := true })
    let wait := two.updEng (.slu 2) (fun x => { x with run := .waitTrig, wtrg := ⟨4, 0xA⟩ })
    let owner := fields (shut [(Fld.PROT_OWNBRG_B1, 3)]) []
    let runs := owner.updEng (.slu 2) (fun x => { x with run := .running, pc := 0 })
    Issues two (.slu 2) 1 ∧ (two.input 2 1).pend = true ∧ (two.input 2 0).pend = false ∧
    (0xA : BitVec 12).getLsbD 1 = true ∧ (two.input 2 2).pend = false ∧ (0x4 : BitVec 12).getLsbD 2 = true ∧
    wait.live = true ∧ (wait.eng (.slu 2)).run = .waitTrig ∧ (wait.eng (.slu 2)).wtrg.mask.getLsbD 1 = true ∧
    Passes s (.slu 2) (Reg.SLU_TAIL 2 15) ∧ Passes s .msp0 (Reg.SLU_TAIL 2 15) ∧
    (∀ j, j ∈ (s.unit 2).tailBuf → j.1 < 16) ∧ Passes s (.slu 2) (Reg.SLU_FLAG 2) ∧
    Issues runs (.slu 2) 1 ∧ runs.ownerOk (.slu 2) (0x40200000 + 0x1000 * 1) = true ∧
    runs.ownerOk (.slu 2) (0x40200000 + 0x1000 * 4) = false ∧ (0x39 : BitVec 12).toNat / 8 % 8 ≠ 0 ∧
    s.live = true ∧ s.f (Fld.SLU_STAT_EVAL 2) = 1 ∧ (s.unit 2).longSeen = false ∧ s.inRun = false ∧
    s.md ≠ mSERVICE := by
  unfold Issues Passes; decide +kernel

theorem witness_Comparator :
    let s := awake [(Fld.SYS_MODE_MODE, mTRIPLEX)]
    let held := { fields s [(Fld.MSP_MMSTAT_VALID, 1)] with mode := { s.mode with window := some .resign } }
    let serv := fields (shut [(Fld.SYS_MODE_MODE, mSERVICE)]) [(Fld.SAFE_CFG_USE, 0)]
    let test := fields serv [(Fld.MSP_STAT_INJ_BUSY, 1)]
    s.live = true ∧ s.f Fld.SYS_MODE_SPLIT = 0 ∧ s.f Fld.MSP_STAT_INJ_BUSY = 0 ∧ s.f Fld.MSP_MMSTAT_VALID = 0 ∧
    s.mode.window = none ∧ (s.eng .msp0).run = .running ∧ Passes held .miller Reg.MSP_MMACK ∧
    (0x3D9E0000 : Word).toNat / 65536 = 0x3D9E ∧ held.f Fld.MSP_MMSTAT_VALID = 1 ∧
    Passes serv .msp0 Reg.MSP_INJCTL ∧ serv.super .msp0 = true ∧ (0x1A6B0000 : Word).toNat / 65536 = 0x1A6B ∧
    serv.md = mSERVICE ∧ serv.stopDem = false ∧ test.live = true ∧ test.f Fld.MSP_STAT_INJ_BUSY = 1 ∧
    test.mode.window = none := by
  unfold Passes; decide +kernel

theorem witness_CompletionAndWatch :
    let s := awake [(Fld.CAT_CNT_COUNT 5, 15), (Fld.CAT_CNT_NOW 3, 1), (Fld.WHD_WATCH_SIG 7, 1),
      (Fld.WHD_WATCH_EDGE 7, 3), (Fld.WHD_WATCH_SIG 15, 0x11), (Fld.WHD_WATCH_EDGE 15, 2)]
    Passes s .msp0 Reg.CAT_DONE ∧ isSource 26 = false ∧ isSource 214 = true ∧ isLevel 214 = false ∧
    isSource 3 = true ∧ isLevel 3 = true ∧ s.f (Fld.CAT_CNT_NOW 3) = 1 ∧ s.f (Fld.CAT_CNT_NOW 8) = 0 ∧
    s.rst.porHold = false ∧ s.live = true ∧ s.whd.phase = .awake ∧ s.f (Fld.WHD_WATCH_SIG 15) = 0x11 ∧
    s.f (Fld.WHD_WATCH_EDGE 15) = 2 := by
  unfold Passes; decide +kernel

theorem witness_RegisterAndPostedWrites :
    let s := awake [(Fld.SYS_MODE_MODE, mSERVICE)]
    let r := (shut [(Fld.DRV_SPWCFG_EN, 1)]).updEng .msp0 (fun x => { x with psw := 0x200 })
    let none_ := r.setReg (Reg.PROT_REGION_ATTR 0) 0
    let task := s.updEng .msp0 (fun x => { x with psw := 0 })
    let posted (a : Nat) : State := driveOn { r with drv := { r.drv with posted := [(a, 1)], vdrvOk := true } }
    Passes s .msp0 0x403FFFFC ∧ Passes s .msp0 0x40380000 ∧ (kindAt 0x40380004).isSome = true ∧
    s.canIssue .msp0 = true ∧ (0x40380002 : Word).toNat % 4 ≠ 0 ∧ none_.canIssue .flume = true ∧
    none_.permits .flume .wr (Reg.LEAT_SHARE 4) = false ∧ r.permits .miller .wr (Reg.BRG_CFG 4) = true ∧
    r.ownerOk .miller (Reg.BRG_CFG 4) = false ∧ Passes s .msp0 (Reg.SLU_SP 4 15) ∧ Passes s .miller Reg.SYS_UPD ∧
    (s.shadow.map (·.1)).Nodup ∧ Passes s .msp0 0x4005FFFC ∧ Passes s .msp0 Reg.WHD_WTIMER ∧
    s.rst.porHold = false ∧ Passes s .msp0 Reg.DRV_OVCFG ∧ Passes r .msp0 Reg.DRV_SPWCFG ∧
    r.f Fld.PROT_SEAL_SEALED = 1 ∧ s.f Fld.PROT_SEAL_SEALED = 0 ∧ Passes s .msp0 Reg.DRV_SPWTEST ∧
    s.super .msp0 = true ∧ task.super .msp0 = false ∧ task.canIssue .msp0 = true ∧
    (posted Reg.DRV_SPWTEST).f Fld.DRV_SPWCFG_EN = 1 ∧ (posted Reg.DRV_SPWTEST).f Fld.DRV_STAT_OV1 = 0 ∧
    (posted Reg.DRV_OVCFG).drv.posted = (Reg.DRV_OVCFG, 1) :: [] := by
  unfold Passes; decide +kernel

theorem witness_ResetsWatchdogAndTimebase :
    let s := awake [(Fld.SYS_TBSEL_ACTIVE, 1), (Fld.KNR_STAT_STATE, 4)]
    let dog (m : Nat) : State := { fields s [(Fld.SYS_MODE_MODE, m)] with rst := { s.rst with wdgOn := true } }
    let task := s.updEng .msp0 (fun x => { x with psw := 0 })
    State.reset.rst.porHold = true ∧ Passes s .msp0 Reg.SYS_RSTCTL ∧ s.super .msp0 = true ∧
    (0x50F70000 : Word).toNat / 65536 = 0x50F7 ∧ s.f Fld.SYS_MODE_STOPPING = 0 ∧ s.md = mBOOT ∧
    task.super .msp0 = false ∧ task.canIssue .msp0 = true ∧ Passes s .msp0 Reg.SYS_WDG ∧
    (0x80000003 : Word).getLsbD 31 = true ∧ (0x80000003 : Word).toNat % 65536 < 4 ∧
    Passes s .miller Reg.SYS_WDGKICK ∧ (dog mSIMPLEX).live = true ∧ (dog mSIMPLEX).pairClean = true ∧
    (dog mSIMPLEX).mode.deferred = false ∧ (dog mTRIPLEX).md ≠ mSIMPLEX ∧ (dog mTRIPLEX).rst.wdgOn = true ∧
    s.rst.wdgOn = false ∧ Passes s .msp0 Reg.SYS_TBSEL ∧ s.ksync = true ∧ s.f Fld.SYS_TBSEL_ACTIVE = 1 ∧
    s.romOwns = false ∧ s.mode.window = none ∧ s.inRun = false ∧ s.f Fld.SYS_MODE_ROLE = 0 := by
  unfold Passes; decide +kernel

theorem witness_BootAndSeal :
    let s : State := { State.reset with rst := { State.reset.rst with porHold := false } }
    let locked := { s with cis := { s.cis with keyLock := true } }
    let ph0 := { awake [] with rst := { (awake []).rst with phase0 := true } }
    s.rst.asserted = some .por ∧ s.rst.porHold = false ∧ s.whd.phase = .awake ∧ s.cis.journal = none ∧
    (0x14 : BitVec 8).toNat / 32 = 0 ∧ 0x10 ≤ (0x14 : BitVec 8).toNat % 32 ∧ s.cis.dir0.valid = true ∧
    locked.cis.keyLock = true ∧ locked.cis.dir.find sTRIAL = none ∧ locked.cis.dir.find sACTIVE = none ∧
    locked.cis.dir.find sPREVIOUS = none ∧ ph0.live = true ∧ ph0.rst.phase0 = true ∧ Issues ph0 .msp0 1 ∧
    (ph0.eng .msp0).psw.getLsbD 9 = true ∧ ph0.f Fld.PROT_SEAL_SEALED = 0 ∧ Issues (shut []) .msp0 1 ∧
    (shut []).f Fld.PROT_SEAL_SEALED = 1 := by
  unfold Issues; decide +kernel

theorem witness_CisternCommandsAndData :
    let s := awake [(Fld.SYS_MODE_MODE, mCOMMISSION), (Fld.CIS_ADDR_ADDR, 0x2FFFFF)]
    let busy := { s with cis := { s.cis with running := some .rollback } }
    let data := { s with cis := { s.cis with dataBusy := true } }
    let remap := { s with cis := { s.cis with remapping := some 0xEFF } }
    Passes s .msp0 Reg.CIS_CMD ∧ s.super .msp0 = true ∧ s.cis.running = none ∧ s.dip = false ∧
    (fields s [(Fld.PWR_BOW_VIO_BOW, 1)]).dip = true ∧ s.whd.phase = .awake ∧ s.md = mCOMMISSION ∧
    Passes busy .msp0 Reg.CIS_CMD ∧ busy.cis.running ≠ none ∧ Passes s .msp0 Reg.CIS_DATA ∧
    4 * s.f Fld.CIS_ADDR_ADDR < 0xC00000 ∧ (s.cis.dir.slots[4 * s.f Fld.CIS_ADDR_ADDR / 0x300000]?.map (·.state)) =
      some sEMPTY ∧ s.permits .msp0 .rd Reg.CIS_DATA = true ∧ data.cis.dataBusy = true ∧ data.cis.remapping = none ∧
    data.race.bufs = [] ∧ s.f Fld.PLB_SPARE_MRAMUSED < 164 ∧ remap.live = true ∧
    remap.cis.remapping = some 0xEFF := by
  unfold Passes; decide +kernel

theorem witness_CisternEffects :
    let s := awake [(Fld.SYS_MODE_MODE, mCOMMISSION), (Fld.CIS_BOOTSTAT_TRIALRUN, 1)]
    let run (op : CisOp) : State := { s with cis := { s.cis with running := some op } }
    (run (.verify 3)).cis.running = some (.verify 3) ∧ (run .fuseKey).live = true ∧ (run .fuseKey).race.rom = none ∧
    (run .fuseKey).race.bufs = [] ∧ (run .fuseKey).race.romWait = false ∧ Passes s .msp0 Reg.CIS_CONFIRM ∧
    s.super .msp0 = true ∧ (0x5C0F0000 : Word).toNat / 65536 = 0x5C0F ∧ s.cis.running = none ∧ s.dip = false ∧
    s.whd.phase = .awake ∧ s.f Fld.CIS_BOOTSTAT_TRIALRUN = 1 := by
  unfold Passes; decide +kernel

theorem witness_ModesAndRequests :
    let s (m : Nat) := awake [(Fld.SYS_MODE_MODE, m)]
    let task := (s mREADY).updEng .msp0 (fun x => { x with psw := 0 })
    let stop : State := { fields (s mTRIPLEX) [(Fld.SYS_MODE_STOPPING, 1)] with
      mode := { State.reset.mode with stopDone := true } }
    Passes (s mREADY) .msp0 Reg.SYS_MODEREQ ∧ (s mREADY).super .msp0 = true ∧ (s mREADY).f Fld.KNR_STAT_STATE < 4 ∧
    4 ≤ (fields (s mREADY) [(Fld.KNR_STAT_STATE, 4)]).f Fld.KNR_STAT_STATE ∧ (s mREADY).mode.request = none ∧
    (s mREADY).f Fld.SYS_MODE_STOPPING = 0 ∧ inTable mREADY 5 = false ∧ (s mREADY).md = mREADY ∧
    (s mREADY).allInert = true ∧ (s mREADY).wakeEnabled = false ∧ (s mSAFEHOLD).md = mSAFEHOLD ∧
    (s mSERVICE).md = mSERVICE ∧ (s mTRIPLEX).inRun = true ∧ task.canIssue .msp0 = true ∧ task.super .msp0 = false ∧
    stop.live = true ∧ stop.inRun = true ∧ stop.f Fld.SYS_MODE_STOPPING = 1 ∧ stop.mode.stopDone = true ∧
    stop.mode.deferred = false := by
  unfold Passes; decide +kernel

theorem witness_SuppliesAndPmbus :
    let s := awake []
    let req (k : XferKind) (n : Nat) : State :=
      { s with power := { s.power with vreq := some 10, xfer := some { kind := k, fails := n } } }
    let low := fields s [(Fld.PWR_BOW_VIO_BOW, 1)]
    let both := fields low [(Fld.PWR_BOW_VCORE_BOW, 1)]
    s.live = true ∧ s.power.vreq = none ∧ s.power.xfer = none ∧ s.power.alertDue = false ∧
    s.f Fld.PWR_PMBCFG_PMB_BUSY = 0 ∧ Passes s .miller Reg.PWR_VREQ ∧ s.super .miller = true ∧
    (50 : Word).toNat % 64 ≤ 50 ∧ 50 < (51 : Word).toNat % 64 ∧ s.f Fld.PWR_GOV_EN = 0 ∧
    (fields s [(Fld.PWR_GOV_EN, 1), (Fld.PWR_VSTAT_PENDING, 12)]).f Fld.PWR_VSTAT_PENDING <
      min (s.f Fld.PWR_GOV_CEIL) (max (s.f Fld.PWR_GOV_FLOOR) (20 + s.f Fld.PWR_GOV_WEAR + s.f Fld.PWR_GOV_OVR)) ∧
    (s.updEng .msp0 (fun x => { x with psw := 0 })).super .msp0 = false ∧ s.f Fld.PLB_STAT_BUSY = 0 ∧
    (req .readVout 1).power.vreq = some 10 ∧ (req .readVout 2).power.xfer = some { kind := .readVout, fails := 2 } ∧
    (req .readVout 0).power.cmdDue = false ∧ (req .readVout 0).mode.request = none ∧
    voutNear 384 10 23 = true ∧ voutNear 400 10 23 = false ∧
    (0x8001 : BitVec 16) &&& 0xF87D ≠ 0 ∧ ¬ (0x0002 : BitVec 16) &&& 0xF87D ≠ 0 ∧
    s.inRun = false ∧ s.f Fld.PWR_BOW_VANA_UV = 0 ∧ s.power.warnArmed = true ∧ both.f Fld.PWR_BOW_VIO_BOW = 1 ∧
    both.f Fld.PWR_BOW_VCORE_BOW = 1 ∧ low.race.bufs = [] ∧ low.f Fld.RACE_STAT_UP = 0 := by
  unfold Passes; decide +kernel

theorem witness_LowPowerAndWake :
    let at_ (p : LpPhase) (n : Nat) : State :=
      { awake [(Fld.WHD_WAKECFG_K1, 1), (Fld.WHD_WAKECFG_K2, 2), (Fld.WHD_WAKECFG_ENA, 1),
          (Fld.WHD_WAKECFG_TIMER, 1), (Fld.WHD_WTIMER_PERIOD, 5)] with
        whd := { State.reset.whd with phase := p, target := 8, tries := n } }
    (at_ .armed 0).live = true ∧ (at_ .armed 0).whd.phase = .armed ∧ (at_ .armed 0).cis.running = none ∧
    (at_ .clamped 0).inReset = false ∧ (at_ .clamped 0).whd.phase = .clamped ∧ (at_ .clamped 0).whd.target = 8 ∧
    (at_ .asleep 0).inReset = false ∧ (at_ .asleep 0).whd.phase = .asleep ∧
    (at_ .asleep 0).f Fld.WHD_WAKECFG_K1 = 1 ∧ (at_ .asleep 0).f Fld.WHD_WAKECFG_K2 = 2 ∧
    (at_ .asleep 0).f Fld.WHD_WTIMER_PERIOD ≠ 0 ∧ (at_ .armed 0).f Fld.WHD_WAKECFG_ENA = 1 ∧
    (at_ .waking 7).whd.tries < 8 ∧ 8 ≤ (at_ .waking 8).whd.tries ∧ (at_ .waking 8).whd.phase = .waking ∧
    (at_ .retryWait 7).whd.phase = .retryWait := by decide +kernel

/-- A motor bridge with three legs, running. -/
def motor : State :=
  driveOn (awake [(Fld.BRG_PCFG_SCLASS 1, 1), (Fld.BRG_PCFG_LEGMASK 1, 7), (Fld.BRG_CFG_TYPE 1, 1),
    (Fld.BRG_CTL_RUN 1, 1), (Fld.SYS_TBSEL_ACTIVE, 2), (Fld.SYS_MODE_MODE, mSAFEHOLD)])

theorem witness_DriveFaults :
    let high := motor.updLeg 1 2 (fun x => { x with gate := .high })
    let seek := motor.updBrg 1 (fun x => { x with locating := true, latch := { held := true, cause := 4 } })
    let short := motor.updBrg 1 (fun x => { x with latch := { held := true, locH := 1, pcfg := motor.reg (Reg.BRG_PCFG 1) } })
    motor.live = true ∧ motor.drv.ena = true ∧ motor.drv.vdrvOk = true ∧ motor.legUsed 1 2 = true ∧
    (motor.bridge 1).locating = false ∧ (motor.bridge 1).latch.held = false ∧ (high.leg 1 2).gate = .high ∧
    motor.motor 1 = true ∧ motor.motor 0 = false ∧ (seek.bridge 1).locating = true ∧
    (seek.bridge 1).latch.held = true ∧ (seek.bridge 1).latch.locH = 0 ∧ seek.legUsed 1 0 = false ∧
    short.bstate 1 = .upperShort ∧ short.legUsed 1 2 = true ∧ (short.bridge 1).latch.locH.getLsbD 2 = false ∧
    (short.bridge 1).latch.locH.getLsbD 0 = true := by decide +kernel

theorem witness_GatesAndDemands :
    let cmd := motor.updLeg 1 2 (fun x => { x with cmd := .high })
    let low := fields (motor.updLeg 1 2 (fun x => { x with gate := .high })) [(Fld.BRG_LEG_STAT_UVRUN 1 2, 2)]
    let pulse := motor.updLeg 1 2 (fun x => { x with refresh := true })
    (cmd.leg 1 2).gate = .inert ∧ (cmd.leg 1 2).cmd ≠ .inert ∧ low.live = true ∧ low.legUsed 1 2 = true ∧
    (low.leg 1 2).gate = .high ∧ low.bstate 1 = .driving ∧ (low.bridge 1).locating = false ∧
    2 ≤ low.f (Fld.BRG_LEG_STAT_UVRUN 1 2) ∧ (low.leg 1 2).uvSeen = false ∧ (pulse.leg 1 2).refresh = true ∧
    pulse.bstate 1 = .driving ∧ motor.rst.porHold = false ∧ motor.legMask 0 = 0 ∧
    (fields motor [(Fld.BRG_PCFG_LEGMASK 0, 7)]).legMask 0 ≠ 0 ∧ Passes motor .msp0 (Reg.BRG_PCMD 1) ∧
    motor.ov2Acts 1 = false := by unfold Passes; decide +kernel

theorem witness_EnaAndMotorSupply :
    let off := { motor with drv := { motor.drv with ena := false } }
    let run := fields motor [(Fld.SYS_MODE_MODE, mTRIPLEX)]
    let spill := fields motor [(Fld.DRV_SPWCFG_EN, 1)]
    motor.live = true ∧ motor.drv.ena = true ∧ motor.inRun = false ∧ run.inRun = true ∧ off.drv.ena = false ∧
    motor.drv.vdrvOk = true ∧ run.md = mTRIPLEX ∧ run.mode.window = none ∧ motor.rst.porHold = false ∧
    motor.f Fld.DRV_STAT_OV1 = 0 ∧ spill.f Fld.DRV_SPWCFG_EN = 1 ∧ spill.f Fld.DRV_STAT_SPILL_FAULT = 0 ∧
    spill.f Fld.DRV_STAT_SPW_ON = 0 ∧ (fields motor [(Fld.DRV_STAT_OV2, 1)]).f Fld.DRV_STAT_OV2 = 1 ∧
    (fields spill [(Fld.DRV_STAT_SPW_ON, 1), (Fld.DRV_STAT_OV1, 1)]).f Fld.DRV_STAT_OV1 = 1 ∧
    (fields spill [(Fld.DRV_STAT_TBUSY, 1)]).f Fld.DRV_STAT_TBUSY = 1 ∧
    (fields motor [(Fld.DRV_STAT_SPILL_FAULT, 1)]).f Fld.DRV_STAT_SPILL_FAULT = 1 := by decide +kernel

theorem witness_BridgeRun :
    let s := fields motor [(Fld.BRG_CTL_RUN 1, 0)]
    let sync := fields s [(Fld.BRG_CFG_SYNC 1, 1), (Fld.KNR_CFG0_TL, 1000), (Fld.BRG_PER_PER 1, 0x5000)]
    Passes s .msp0 (Reg.BRG_CTL 1) ∧ s.f Fld.PLB_STAT_BUSY = 0 ∧ s.f (Fld.BRG_CTL_RUN 1) = 0 ∧
    (s.bridge 1).perArmed = none ∧ s.md = mSAFEHOLD ∧ s.f Fld.SYS_TBSEL_ACTIVE = 2 ∧
    s.f (Fld.BRG_CFG_TYPE 1) = 1 ∧ s.f (Fld.BRG_PCFG_LEGMASK 1) = 7 ∧ s.f (Fld.BRG_PCFG_SCLASS 1) = 1 ∧
    s.f (Fld.BRG_PWMSTAT_CFGERR 1) = 0 ∧ s.f (Fld.BRG_CATCHST_BUSY 1) = 0 ∧ s.ov2Acts 1 = false ∧
    Passes sync .msp0 (Reg.BRG_CTL 1) ∧ sync.f Fld.KNR_CFG0_TL * 1024 % max 10240 (sync.f (Fld.BRG_PER_PER 1)) = 0 ∧
    (fields sync [(Fld.KNR_CFG0_TL, 1001)]).f Fld.KNR_CFG0_TL * 1024 % max 10240 (sync.f (Fld.BRG_PER_PER 1)) ≠ 0 := by
  unfold Passes; decide +kernel

theorem witness_PeriodsAndDuties :
    let legs : Vector Leg 3 := Vector.replicate 3 { eOff := 3000, eOn := 7000 }
    let count := motor.updBrg 1 (fun x => { x with counting := true, legs := legs })
    let low := count.updLeg 1 2 (fun x => { x with offMade := true })
    motor.live = true ∧ motor.f (Fld.BRG_CTL_RUN 1) = 1 ∧ (motor.bridge 1).startMark = false ∧
    (motor.bridge 1).perArmed = none ∧ motor.singleShunt 1 = false ∧ (count.bridge 1).counting = true ∧
    (count.leg 1 2).eOff < (count.leg 1 2).eOn ∧ (count.leg 1 2).eOff < max 10240 (count.f (Fld.BRG_PER_PER 1)) ∧
    (low.leg 1 2).offMade = true ∧ (low.leg 1 2).onMade = false ∧
    (low.leg 1 2).eOn < max 10240 (low.f (Fld.BRG_PER_PER 1)) ∧ Passes motor .msp0 (Reg.BRG_DUTY 1 2) ∧
    Passes count .msp0 (Reg.BRG_DUTY 1 2) := by unfold Passes; decide +kernel

theorem witness_Sampling :
    let s := motor.updBrg 1 (fun x => { x with counting := true })
    let pwm := fields s [(Fld.ADC_SET_CFG_KIND 3, 1), (Fld.ADC_SET_CFG_BRG 3, 1)]
    let mark := (fields s [(Fld.ADC_SET_CFG_KIND 3, 3)]).updSet 3 (fun x => { x with due := true })
    let shunt := (fields s [(Fld.ADC_SET_CFG_KIND 3, 2)]).updSet 3
      (fun x => { x with conv := true, note1 := some (0, false), note2 := some (2, true) })
    let same := shunt.updSet 3 (fun x => { x with note2 := some (0, true) })
    s.live = true ∧ pwm.f (Fld.ADC_SET_CFG_KIND 3) = 1 ∧ pwm.f (Fld.ADC_SET_CFG_BRG 3) = (1 : Fin 5).val ∧
    (pwm.bridge 1).counting = true ∧ pwm.f (Fld.ADC_SET_CFG_POS 3) < max 10240 (pwm.f (Fld.BRG_PER_PER 1)) ∧
    mark.f (Fld.ADC_SET_CFG_KIND 3) = 3 ∧ (mark.set 3).due = true ∧ s.f (Fld.ADC_SET_CFG_KIND 3) = 0 ∧
    (shunt.set 3).conv = true ∧ (shunt.set 3).note1 = some (0, false) ∧ (shunt.set 3).note2 = some (2, true) ∧
    (same.set 3).note1.map (·.1) = (same.set 3).note2.map (·.1) ∧
    ((fields (s.updSet 3 (fun x => { x with conv := true })) []).set 3).conv = true := by decide +kernel

theorem witness_CatchAndSupervision :
    let s := fields motor [(Fld.BRG_CTL_RUN 1, 0)]
    let busy := fields s [(Fld.BRG_CATCHST_BUSY 1, 1)]
    let ke := fields (s.setReg (Reg.BRG_KENOM 1) 1000) [(Fld.BRG_KECFG_EN 1, 1)]
    let late := { ke.updBrg 1 (fun x => { x with keFirst := some 0 }) with tnow := 0x3B9ACA00 }
    let curve := (List.range 16).foldl (fun t j => fields t [(Fld.BRG_CRVPT_X 1 j, 100 * j + 10), (Fld.BRG_CRVPT_Y 1 j, j)])
      (fields s [(Fld.BRG_CRVCFG_EN 1, 1), (Fld.BRG_CRVCFG_SW 1, 1), (Fld.BRG_CRVON_XON 1, 10)])
    let px (j : Nat) := curve.f (Fld.BRG_CRVPT_X 1 j)
    s.live = true ∧ Passes s .msp0 (Reg.BRG_CATCHCTL 1) ∧ s.f (Fld.BRG_CFG_TYPE 1) = 1 ∧
    (s.bridge 1).latch.held = false ∧ s.drv.ena = true ∧ busy.f (Fld.BRG_CATCHST_BUSY 1) = 1 ∧
    Passes ke .msp0 (Reg.BRG_KEEST 1) ∧ ke.f (Fld.BRG_KECFG_EN 1) = 1 ∧
    20 * (max 1050 1000 - min 1050 1000) ≤ (ke.f (Fld.BRG_KECFG_TOL 1) + 1) * 1000 ∧
    ¬ 20 * (max 5000 1000 - min 5000 1000) ≤ (ke.f (Fld.BRG_KECFG_TOL 1) + 1) * 1000 ∧
    ke.f (Fld.BRG_SUPSTAT_KE_ABNORMAL 1) = 0 ∧
    10240000 * (min 99 (late.f (Fld.BRG_KECFG_TIME 1)) + 1) ≤ (late.tnow - 0).toNat ∧
    (late.bridge 1).keFirst = some 0 ∧ Passes curve .msp0 (Reg.BRG_CRVIN 1) ∧
    curve.f (Fld.BRG_CRVCFG_EN 1) = 1 ∧ curve.f (Fld.BRG_CRVCFG_SW 1) = 1 ∧
    curve.f (Fld.BRG_CRVON_XON 1) < 110 ∧ ¬ curve.f (Fld.BRG_CRVON_XON 1) < 10 ∧
    (∀ j, j < 15 → px j < px (j + 1)) ∧ px 1 ≤ 110 ∧ 110 < px 2 := by unfold Passes; decide +kernel

theorem witness_CogCounts :
    let s := (fields (awake []) [(Fld.COG_CFG_MODE 5, 1), (Fld.COG_CPR_CPR 5, 4096)]).setReg (Reg.COG_LIMHI 5) 10
    let z := fields s [(Fld.COG_CFG_ZEN 5, 1), (Fld.COG_CTL_REFARM 5, 1)]
    s.live = true ∧ s.f (Fld.COG_CFG_MODE 5) = 1 ∧ s.f (Fld.COG_CPR_CPR 5) ≠ 0 ∧
    (s.reg (Reg.COG_LIMLO 5)).toInt ≤ (s.reg (Reg.COG_LIMHI 5)).toInt ∧ s.f (Fld.COG_STAT_WIRE 5) = 0 ∧
    s.f (Fld.COG_CFG_ZEN 5) = 0 ∧ (∀ k : Fin 2, s.f (Fld.COG_CMP_CTL_ARM 5 k) = 0) ∧ (s.cogOf 5).a = false ∧
    z.f (Fld.COG_CFG_ZEN 5) = 1 ∧ z.f (Fld.COG_CFG_ZGATE 5) = 0 ∧ (z.cogOf 5).z = false ∧
    z.f (Fld.COG_CTL_REFARM 5) = 1 ∧ Passes s .msp0 (Reg.COG_CMP_CTL 5 1) ∧
    (s.reg (Reg.COG_CMP_VAL 5 1)).toInt ≤ (s.reg (Reg.COG_POS 5)).toInt ∧ (3 : Word).toNat / 2 % 4 = 1 := by
  unfold Passes; decide +kernel

theorem witness_CogSpeedAndFaults :
    let s := (fields (awake []) [(Fld.COG_CFG_MODE 5, 4), (Fld.COG_CPR_CPR 5, 4096)]).setReg (Reg.COG_LIMHI 5) 10
    let low := s.setReg (Reg.COG_LIMLO 5) 0xFFFFFFF0
    let quad := fields s [(Fld.COG_CFG_MODE 5, 1)]
    let moving := fields (s.updCog 5 (fun x => { x with ivals := [100, 200] })) [(Fld.COG_STAT_STILL 5, 0),
      (Fld.COG_STAT_UNSETTLED 5, 0)]
    let fine := fields s [(Fld.COG_CPR_CPR 5, 4097)]
    s.live = true ∧ s.f (Fld.COG_CPR_CPR 5) ≠ 0 ∧ (s.reg (Reg.COG_LIMLO 5)).toInt ≤ (s.reg (Reg.COG_LIMHI 5)).toInt ∧
    quad.f (Fld.COG_CFG_MODE 5) = 1 ∧ quad.f (Fld.COG_RPT_P_EN 0) = 0 ∧ quad.f (Fld.COG_RPT_P_EN 1) = 0 ∧
    (quad.f (Fld.COG_STAT_WIRE 5)).testBit 1 = false ∧
    (fields quad [(Fld.COG_STAT_WIRE 5, 2)]).f (Fld.COG_STAT_WIRE 5) = 2 ^ 1 ∧ s.f (Fld.COG_CFG_MODE 5) = 4 ∧
    s.f (Fld.COG_STAT_WIRE 5) = 0 ∧ (moving.cogOf 5).ivals = 100 :: [200] ∧ moving.f (Fld.COG_STAT_STILL 5) = 0 ∧
    moving.f (Fld.COG_STAT_UNSETTLED 5) = 0 ∧ 4096 < fine.f (Fld.COG_CPR_CPR 5) ∧ (fine.cogOf 5).winArmed = none ∧
    (∀ k : Fin 2, s.f (Fld.COG_CMP_CTL_ARM 5 k) = 0) ∧ (s.cogOf 5).hall = 0 ∧
    s.f (Fld.COG_STAT_LIMIT_HELD 5) = 0 ∧ (low.reg (Reg.COG_LIMLO 5)).toInt < (low.reg (Reg.COG_POS 5)).toInt ∧
    (low.reg (Reg.COG_POS 5)).toInt < (low.reg (Reg.COG_LIMHI 5)).toInt := by decide +kernel

/-- A configuration that the checks of R324 pass. -/
def knaor (ws : List (Field × Nat)) : State :=
  awake ([(Fld.KNR_CFG1_NB, 2), (Fld.KNR_CFG1_BL, 13), (Fld.KNR_CFG1_LOFS, 1), (Fld.KNR_CFG1_LMAX, 14),
    (Fld.KNR_CFG0_TL, 100), (Fld.KNR_CFG2_CGAP, 2), (Fld.SYS_TBSEL_ACTIVE, 1), (Fld.KNR_CTL_CHEN1, 1)] ++ ws)

theorem witness_KnaorControl :
    let s := knaor []
    let listen := knaor [(Fld.KNR_STAT_STATE, 1), (Fld.KNR_CFG0_COLD, 1), (Fld.KNR_WEIR_WAKEOK, 1)]
    let weir := (knaor [(Fld.KNR_STAT_WALIGN, 1)]).updKnr (fun x => { x with gapDone := true, wdevs := [(0, 3), (1, -4)] })
    let spill := (knaor []).setReg (Reg.KNR_SPGRANT 7) 0x80000000
    s.live = true ∧ Passes s .msp0 Reg.KNR_CTL ∧ s.f Fld.KNR_STAT_STATE = 0 ∧ 2 * 13 + 2 ≤ s.f Fld.KNR_CFG0_TL ∧
    8 * (250 * (s.f Fld.KNR_WEIR_GM + 1)) + 125 * max 1 (s.f Fld.KNR_SYNCCFG_OFFLIM) ≤ 8000 * s.f Fld.KNR_CFG1_LOFS ∧
    8000 + 8 * ((118 + 10 * 14) * 40) + 125 * max 1 (s.f Fld.KNR_SYNCCFG_OFFLIM) +
      8 * (250 * (s.f Fld.KNR_WEIR_GM + 1)) ≤ 8000 * s.f Fld.KNR_CFG1_BL ∧
    max 1 (s.f Fld.KNR_SYNCCFG_OFFLIM) + 64 ≤ 64 * s.f Fld.KNR_CFG2_CGAP ∧ s.f Fld.KNR_WEIR_SPMAX = 0 ∧
    (∀ n : Fin 64, s.f (Fld.KNR_BUF_CFG_EN n.val) = 0) ∧ (0x19 : Word).getLsbD 3 = true ∧
    (after (.knaorEnable .msp0 0x9) s).f Fld.KNR_STAT_STATE = 1 ∧
    (after (.knaorEnable .msp0 0x9) (fields s [(Fld.KNR_CFG1_BL, 12)])).f Fld.KNR_STAT_CFGERR = 1 ∧
    listen.f Fld.KNR_STAT_STATE = 1 ∧ listen.f Fld.KNR_CFG0_COLD = 1 ∧ listen.f Fld.KNR_CTL_LISTENONLY = 0 ∧
    listen.f Fld.KNR_WEIR_WAKEOK = 1 ∧ listen.knr.heard = false ∧ listen.whd.phase = .awake ∧
    Passes listen .msp0 Reg.KNR_CTL ∧ weir.f Fld.KNR_STAT_WALIGN = 1 ∧ weir.knr.wdevs = [(0, 3), (1, -4)] ∧
    weir.knr.gapDone = true ∧ Passes spill .msp0 Reg.KNR_SPPUSH ∧ spill.knr.queue.length < 32 ∧
    spill.f Fld.KNR_CFG1_NB ≤ 255 ∧ (spill.reg (Reg.KNR_SPGRANT (255 / 32))).getLsbD (255 % 32) = true := by
  unfold Passes; decide +kernel

/-- A head of a frame with three bytes. -/
def head3 : KHead := { typ := 0, sync := true, null := false, join := false, node := 31, bucket := 255, turn := 63, len := 3, chl := 3 }

/-- The frame as its receiver reads it. -/
def frame3 : KRead := ⟨frameBytes head3 [1, 2, 3], false, 7, 78, 1502⟩

theorem witness_FrameRoundTrip : head3.typ ≤ 2 ∧ head3.node < 32 ∧ head3.bucket < 256 ∧ head3.turn < 64 ∧
    head3.chl < 4 ∧ head3.len = ([1, 2, 3] : List Byte).length ∧ head3.len ≤ 64 ∧ (head3.null = true → head3.len = 0) ∧
    frame3.bytes = frameBytes head3 [1, 2, 3] ∧ frame3.codingErr = false ∧ frameOf frame3 = some (head3, [1, 2, 3]) := by
  decide +kernel

/-- A NULL frame of bucket 1, as RXD carries it from seven samples before its start sequence. -/
def head1 : KHead := { typ := 0, sync := true, null := true, join := false, node := 31, bucket := 1, turn := 63, len := 0, chl := 3 }
def wire1 : FrameRx := { line := onLine 256 7 (wireBits (frameBytes head1 [])), start := 3300 }

/-- What R328 makes of it. -/
theorem test_receive : receive 256 wire1.line = ⟨[0x31, 31, 1, 63, 0, 3, 3, 0x69, 0xA1, 0xDD, 0x9A], false, 7, 79, 1195⟩ := by
  decide +kernel

theorem witness_MidpointTolerance : 2 ≤ ([3, 5] : List Int).length ∧ (∀ y ∈ ([3, 5] : List Int), 3 ≤ y ∧ y ≤ 5) ∧
    ([3, 5, 100000] : List Int).Perm (100000 :: [3, 5]) :=
  ⟨by decide, by decide, List.perm_append_comm (l₁ := [3, 5]) (l₂ := [100000])⟩

theorem witness_KnaorFrames :
    let s := (knaor [(Fld.KNR_STAT_STATE, 4), (Fld.KNR_BUF_CFG_EN 5, 1), (Fld.KNR_BUF_CFG_TX 5, 1),
        (Fld.KNR_BUF_CFG_NUM 5, 1)]).updKnr (fun x => { x with latched := some [⟨5, true, 14, List.replicate 16 7⟩] })
    let send (k : TxKind) (st : Nat) : State := (fields s [(Fld.KNR_STAT_STATE, st)]).updKnr (fun x => { x with
      sending := some ⟨1, k, [], 4720, [(0, 1000)]⟩, queue := [⟨1, 4, [], true⟩], clips := 1 })
    let aligned := (fields s [(Fld.KNR_STAT_WALIGN, 1)]).setReg (Reg.PROT_KTXB 0) 2
    s.live = true ∧ s.f Fld.KNR_STAT_STATE = 4 ∧ s.bufOf 1 = some 5 ∧ s.whd.phase = .awake ∧
    (1 : BitVec 8).toNat < s.f Fld.KNR_CFG1_NB ∧ s.f Fld.KNR_CTL_LISTENONLY = 0 ∧ s.chEn 0 = true ∧
    ([⟨5, true, 14, List.replicate 16 7⟩] : List TxLatch).find? (fun y => y.buf == 5) =
      some ⟨5, true, 14, List.replicate 16 7⟩ ∧
    (send .static 4).knr.sending = some ⟨(1 : BitVec 8).toNat, .static, [], 4720, [(0, 1000)]⟩ ∧
    ([(0, 1000)] : List (Nat × Nat)) ≠ [(0, 4720)] ∧ aligned.f Fld.KNR_STAT_WALIGN = 1 ∧ aligned.bucketOk 1 = true ∧
    aligned.f Fld.KNR_CFG1_NB * aligned.f Fld.KNR_CFG1_BL ≤ aligned.f Fld.KNR_CFG0_TL ∧
    (let at_ : Int := 125 * (aligned.macroAt (13 * 1 + 1) + 0 + aligned.knr.wOff)
     8000 * (13 * 1) + 2000 * (aligned.f Fld.KNR_WEIR_GM + 1) ≤ at_ ∧
       at_ + aligned.tFrame 14 ≤ 8000 * (13 * (1 + 1)) - 2000 * (aligned.f Fld.KNR_WEIR_GM + 1)) ∧ (send .static 4).knr.clips = 1 ∧
    (send .coldstart 2).f Fld.KNR_STAT_STATE = 2 ∧ (send .coldstart 2).chEn 0 = true ∧
    (send .spill 4).knr.queue = ⟨1, 4, [], true⟩ :: [] := by decide +kernel

/-- A frame that fits its place, in a state that receives it, and one that nothing makes a frame of. -/
theorem witness_KnaorReceived :
    let s := knaor [(Fld.KNR_STAT_STATE, 6), (Fld.KNR_TIME_TURN, 63), (Fld.KNR_BUF_CFG_EN 9, 1), (Fld.KNR_BUF_CFG_NUM 9, 1),
      (Fld.KNR_BUF_CFG_RX1 9, 1)]
    let x := receive s.tCell wire1.line
    s.live = true ∧ s.chEn 0 = true ∧ 3 ≤ s.f Fld.KNR_STAT_STATE ∧ frameOf x = some (head1, []) ∧
    (s.placeOf wire1.start x).2 = true ∧ head1.bucket = (s.placeOf wire1.start x).1 ∧
    head1.turn = s.f Fld.KNR_TIME_TURN ∧ s.isRx 9 = true ∧ s.f (Fld.KNR_BUF_CFG_NUM 9) = 1 ∧ s.rxOn 9 0 = true ∧
    s.knr.rx[9].got = none ∧ frameOf (receive s.tCell []) = none := by
  have h : (knaor [(Fld.KNR_STAT_STATE, 6), (Fld.KNR_TIME_TURN, 63), (Fld.KNR_BUF_CFG_EN 9, 1),
    (Fld.KNR_BUF_CFG_NUM 9, 1), (Fld.KNR_BUF_CFG_RX1 9, 1)]).tCell = 256 := by decide +kernel
  simp only [h, test_receive]
  decide +kernel

theorem witness_KnaorTurns :
    let at_ (st : Nat) : State := (knaor [(Fld.KNR_STAT_STATE, st), (Fld.KNR_BUF_CFG_EN 9, 1)]).updKnr (fun x => { x with
      hadMark := true, devs := [⟨1, some 4, none⟩], consist := 1, spillC := 255, queue := [⟨255, 4, [], true⟩] })
    let lone := (at_ 4).updKnr (fun x => { x with devs := [], miss := 1 })
    (at_ 4).live = true ∧ (at_ 4).f Fld.KNR_STAT_STATE = 4 ∧ (at_ 4).mode.deferred = false ∧ (at_ 4).isRx 9 = true ∧
    (at_ 4).knr.hadMark = true ∧ (at_ 4).knr.rx[9].got = none ∧ (at_ 3).mode.request = none ∧
    (at_ 3).knr.devs ≠ [] ∧ (at_ 3).knr.turnBad = false ∧ ¬ max 1 (8 : Nat) < (4 : Int).natAbs ∧
    (at_ 3).knr.consist = 1 ∧ (at_ 2).f Fld.KNR_STAT_STATE = 2 ∧ (at_ 6).f Fld.KNR_STAT_STATE = 6 ∧
    lone.knr.devs = [] ∧ 1 ≤ lone.knr.miss ∧ (at_ 1).f Fld.KNR_STAT_STATE < 2 ∧ (at_ 4).knr.spillC ≤ 255 ∧
    (at_ 4).knr.queue = ⟨255, 4, [], true⟩ :: [] ∧ (at_ 4).whd.phase = .awake := by decide +kernel

/-- A STATUS token of a lane that follows in TRIPLEX. -/
def follows (l : Lane) : StatusTok :=
  ⟨l, true, true, 3, 2, false, 0, 0, true, 0, none, 0, 0, 0, false, false, true, false, false⟩

/-- A sealed lane with both Leats up in a RUN mode. -/
def run3 (role lead : Nat) (ws : List (Field × Nat)) : State :=
  shut ([(Fld.LEAT_LINK_UP0, 1), (Fld.LEAT_LINK_UP1, 1), (Fld.LEAT_CFG_EN, 1), (Fld.LEAT_CFG_WIN, 100),
    (Fld.KNR_STAT_STATE, 4), (Fld.SYS_MODE_MODE, mTRIPLEX), (Fld.SYS_MODE_ROLE, role), (Fld.LEAT_ROLE_LEAD, lead)] ++ ws)

theorem witness_LeatTokens :
    let s := run3 3 1 []
    let rise := (run3 3 1 [(Fld.LEAT_LINK_UP1, 0)]).updEnd 1 (fun x => { x with good := 9 })
    let form := { s with mode := { s.mode with forming := some { tgt := 5, lead := .B, mode := 3, members := [.A, .B] } } }
    let two := { s with leat := { s.leat with verdicts := [⟨.C, 7, 2⟩] } }
    s.live = true ∧ s.f Fld.PROT_SEAL_SEALED = 1 ∧ s.whd.phase = .awake ∧ s.leatExists 0 = true ∧ s.leatExists 1 = true ∧
    s.peerAt 0 = .B ∧ s.peerAt 1 = .C ∧ s.f Fld.LEAT_LINK_UP0 = 1 ∧ s.f Fld.LEAT_LINK_SPARE0 = 0 ∧
    (run3 3 1 [(Fld.LEAT_LINK_SPARE0, 1)]).f Fld.LEAT_LINK_SPARE0 = 1 ∧ s.leat.ends[0].wiresOk = true ∧
    rise.f Fld.LEAT_LINK_UP1 = 0 ∧ rise.leat.ends[1].good = 9 ∧ s.leatUp 1 = true ∧
    form.mode.forming = some { tgt := 5, lead := .B, mode := 3, members := [.A, .B] } ∧
    (⟨.B, 7, 2⟩ : VerdictTok) ∉ two.leat.verdicts ∧ two.f Fld.SYS_MODE_ROLE = 3 ∧ two.md = mTRIPLEX ∧
    two.mode.window = none ∧ (∀ l ∈ lanes, l ≠ two.lane → l ≠ Lane.B → ⟨l, 7, 2⟩ ∈ two.leat.verdicts.take 15) ∧
    s.bothMismatch 7 = false := by
  decide +kernel

theorem witness_StateCopies :
    let ready := (run3 3 1 [(Fld.LEAT_TXADDR_ADDR, 0x10000100 / 4), (Fld.LEAT_TXCTL_READY, 1)]).putMem 0x10000110 4 8
    let open_ (ws : List (Field × Nat)) : State := { run3 2 2 ws with leat := { State.reset.leat with windowOpen := true } }
    let area := open_ [(Fld.LEAT_RXADDR_ADDR 0, 0x10000000 / 4)]
    let cmp := { area with leat := { area.leat with shCompare := some (2, 17) } }
    let a := 4 * ready.f Fld.LEAT_TXADDR_ADDR
    ready.live = true ∧ ready.f Fld.LEAT_CFG_EN = 1 ∧ ready.f Fld.SYS_MODE_ROLE = 3 ∧ ready.f Fld.LEAT_TXCTL_READY = 1 ∧
    a = 0x10000100 ∧ ready.mem.read (a + 0x10) 4 = 8 ∧ ready.mem.read (a + 0x14) 4 = 0 ∧
    103 * (250 + 68 + 8) ≤ 12500 * max 20 (min 150 (ready.f Fld.LEAT_CFG_WIN)) ∧ 4 ≤ ready.f Fld.KNR_STAT_STATE ∧
    blockCrcOk (ready.block a false) = true ∧ (ready.block a false).length ≤ 16452 ∧
    (run3 2 2 [(Fld.LEAT_RXSTAT_FRESH, 1)]).leat.goDone = false ∧ area.leatUp 0 = true ∧
    area.leat.windowOpen = true ∧ area.f Fld.SYS_MODE_ROLE = 2 ∧ area.f Fld.LEAT_RXSTAT_HELD = 0 ∧
    4 * area.f (Fld.LEAT_RXADDR_ADDR 0) = 0x10000000 ∧ blockCrcOk [1, 2] = false ∧ area.mode.forming = none ∧
    area.f Fld.LEAT_JOIN_STAGE = 0 ∧
    (fields area [(Fld.LEAT_ROLE_LEAD, 1)]).blockFits (ready.block a false) false false = true ∧
    Passes area .msp0 Reg.LEAT_SHCTL ∧ area.f Fld.LEAT_SHSTAT_BUSY = 0 ∧
    cmp.leat.shCompare = some (2, 17) ∧ cmp.leat.verdicts = [] := by unfold Passes; decide +kernel

/-- Lane A follows lane C, which leaves at the next turn mark; lane B drives on. -/
def handover : State :=
  let s := run3 2 3 [(Fld.LEAT_ROLE_FOUNDER, 1), (Fld.CIS_VERCMP_EQ, 7)]
  let t := s.updPeer .B (fun p => { p with driving := true, status := some (follows .B) })
  t.updPeer .C (fun p => { p with driving := true, status := some (follows .C), leaving := some ⟨.C, .fault, 0, 0, 0⟩, eligs := some 7 })

theorem witness_DeparturesAndHandover :
    let s := handover
    let alone := fields s [(Fld.LEAT_LINK_UP0, 0), (Fld.LEAT_LINK_UP1, 0)]
    let lead := (run3 3 1 []).updPeer .B (fun p => { p with driving := true, status := some (follows .B) })
    let due := { s with mode := { s.mode with window := some .resign } }
    s.live = true ∧ s.md = mTRIPLEX ∧ s.f Fld.KNR_STAT_STATE = 4 ∧ s.mode.window = none ∧ s.mode.deferred = false ∧
    s.mode.stopDone = false ∧ s.mode.request = none ∧ s.mode.forming = none ∧ s.f Fld.SYS_MODE_STOPPING = 0 ∧
    s.stopDem = false ∧ s.f Fld.SYS_MODE_ROLE = 2 ∧ s.f Fld.LEAT_JOIN_STAGE = 0 ∧ s.leat.leaving = none ∧
    s.leat.leaveDue = none ∧ s.lead = some .C ∧ (s.after .C).head? = some s.lane ∧ s.eligible = true ∧
    (s.peer .C).driving = true ∧ (s.peer .C).leaving = some ⟨.C, .fault, 0, 0, 0⟩ ∧
    (s.peer .C).eligs = some 7 ∧ (7 : BitVec 3).getLsbD (laneIdx s.lane).val = true ∧
    (0 : BitVec 6).toNat = s.nextMark % 64 ∧ (s.peer .B).driving = true ∧ (s.peer .B).leaving = none ∧
    (s.peer .B).status = some (follows .B) ∧ alone.connected .B = false ∧ alone.connected .C = false ∧
    s.connected .B = true ∧ (s.peer .C).frameSeen = false ∧ s.f Fld.LEAT_RXSTAT_FRESH = 0 ∧
    Passes lead .miller Reg.LEAT_RESIGN ∧ lead.super .miller = true ∧ lead.otherEligible = true ∧
    lead.f Fld.SYS_MODE_ROLE = 3 ∧ Passes due .miller Reg.LEAT_RRACK ∧ due.mode.window = some .resign ∧
    due.rst.asserted = none ∧ (0x91D30000 : Word).toNat / 65536 = 0x91D3 ∧
    (fields s [(Fld.LEAT_JOIN_STAGE, 4)]).f Fld.LEAT_JOIN_STAGE = 4 := by
  unfold Passes; decide +kernel

/-- A sealed lane with safe pairs 0 (stop) and 3 (park) in use, both normal but for what is given. -/
def safe (m : Nat) (levels : List Bool) (ws : List (Field × Nat)) : State :=
  let s := shut ([(Fld.SAFE_CFG_USE, 9), (Fld.SAFE_CFG_PARK, 8), (Fld.SYS_MODE_MODE, m), (Fld.PROT_OWNPER_SOUT, 0)] ++ ws)
  { s with safe := { s.safe with levels := Vector.ofFn (fun i => some (levels.getD i.val false)), measuring := true } }

theorem witness_SafeWires :
    let norm := [true, false, false, false, false, false, true, false, true]
    let s := safe mREADY norm []
    let dem := safe mTRIPLEX ([false, true] ++ norm.drop 2) [(Fld.SAFE_STAT_LATCH, 1)]
    let pend := { dem with safe := { dem.safe with stopPend := true } }
    s.live = true ∧ s.rst.porHold = false ∧ s.f Fld.PROT_SEAL_SEALED = 1 ∧ s.pairRead 0 = some .normal ∧
    s.pairRead 3 = some .normal ∧ s.pairRead 1 = some .equal ∧ dem.pairRead 0 = some .demand ∧
    s.safe.levels[0] = some true ∧ s.safe.levels[8] = some true ∧ s.safe.measuring = true ∧
    s.f Fld.SAFE_STAT_ACK_STUCK = 0 ∧ (safe mREADY norm [(Fld.SAFE_STAT_ACK_STUCK, 1)]).f Fld.SAFE_STAT_ACK_STUCK = 1 ∧
    s.stopDem = false ∧ s.safeOk = true ∧ s.parked = false ∧ pend.stopDem = true ∧ pend.safe.stopPend = true ∧
    pend.mode.request ≠ some 6 ∧ pend.inRun = true ∧ pend.f Fld.SYS_MODE_STOPPING = 0 ∧
    (safe mSERVICE norm [(Fld.SAFE_STAT_LATCH, 1)]).stopDem = true ∧
    (fields s [(Fld.SAFE_CFG_OUTUSE, 2)]).f ⟨Fld.SAFE_CFG_OUTUSE.addr, Fld.SAFE_CFG_OUTUSE.lo + 1, 1⟩ = 1 ∧
    Passes s .msp0 Reg.SAFE_OUT ∧ s.permits .miller .wr Reg.SAFE_OUT = true ∧ s.canIssue .miller = true := by
  unfold Passes; decide +kernel

theorem witness_RacePacketRoundTrip : packetValid ⟨racePacket 1 15 65535 0 ([9, 10, 11]), true, true⟩ = true ∧
    packetValid ⟨racePacket 5 0 0 0 [], true, true⟩ = true ∧ packetValid ⟨racePacket 2 0 0 0 [], true, true⟩ = true := by
  decide +kernel

/-- A lane whose Race link is up. -/
def link (ws : List (Field × Nat)) : State :=
  awake ([(Fld.SYS_TBSEL_XTAL_OK, 1), (Fld.RACE_CTL_EN, 1), (Fld.RACE_STAT_UP, 1), (Fld.RACE_STAT_RXFREE, 8),
    (Fld.PROT_RWIN_LIMIT_EN 3, 1), (Fld.PROT_RWIN_BASE_BASE 3, 0x1023F), (Fld.PROT_RWIN_LIMIT_LIMIT 3, 0x1023F)] ++ ws)

theorem witness_RaceInbound :
    let s := link []
    let bad := { s with race := { s.race with badRun := 3 } }
    let full := { s with race := { s.race with bufs := List.replicate 8 { words := [] } } }
    let down := { fields s [(Fld.RACE_STAT_UP, 0)] with race := { s.race with syncRun := 15 } }
    let rom := { link [(Fld.PROT_SEAL_BY_ROM, 1), (Fld.SYS_MODE_MODE, mCOMMISSION), (Fld.RACE_STAT_DBFULL, 1)] with
      race := { s.race with sending := some (.sync, []) } }
    let p : RacePkt := ⟨racePacket 1 0 0 0x1023FFFC [5], true, true⟩
    s.live = true ∧ s.whd.phase = .awake ∧ s.f Fld.RACE_CTL_EN = 1 ∧ s.dip = false ∧ s.f Fld.RACE_STAT_UP = 1 ∧
    s.race.bufs = [] ∧ s.race.owed = 0 ∧ packetValid p = true ∧ raceType p.words = 1 ∧
    s.f (Fld.PROT_RWIN_BASE_BASE 3) ≤ 0x1023FFFC / 4096 ∧ 0x1023FFFC / 4096 ≤ s.f (Fld.PROT_RWIN_LIMIT_LIMIT 3) ∧
    0x1023FFFC + 4 * raceLen p.words ≤ 0x10240000 ∧ packetValid ⟨[2, 0, 1], true, true⟩ = false ∧
    raceType [2, 0, 1] = 2 ∧ 3 ≤ bad.race.badRun ∧ 8 ≤ full.race.bufs.length + full.race.owed ∧
    s.f Fld.RACE_STAT_DBFULL = 0 ∧ rom.f Fld.RACE_STAT_DBFULL = 1 ∧ raceType (racePacket 3 0 0 0 []) = 3 ∧
    down.race.syncRun = 15 ∧ down.f Fld.RACE_STAT_CRAVAIL = 0 ∧ packetValid ⟨racePacket 5 0 0 0 [], true, true⟩ = true ∧
    rom.f Fld.PROT_SEAL_BY_ROM = 1 ∧ rom.md = mCOMMISSION ∧ rom.race.rom = none ∧ rom.race.romWait = false ∧
    rom.race.romMul = none ∧ rom.f Fld.RACE_STAT_DBOBUSY = 0 ∧ rom.race.sending ≠ none ∧
    ((rom.setReg (Reg.RACE_DBIN 0) 5).reg (Reg.RACE_DBIN 0)).toNat % 256 = 5 := by decide +kernel

/-- What a register write leaves, if the access completes. -/
def leftOf (s : State) : WOut → State
  | .done u => u
  | .priv => s

/-- A COMMAND of the commissioning port whose Cistern command runs, and one that ends at once. -/
theorem witness_RaceCommand :
    let rom := link [(Fld.PROT_SEAL_BY_ROM, 1), (Fld.SYS_MODE_MODE, mCOMMISSION)]
    let cmd (v : Word) : State := leftOf rom ((rom.plainWrite Reg.CIS_ARG 0).wCisCmd .msp0 v)
    (cmd (0xA37E0000 ||| 6)).cis.running ≠ none ∧ (cmd (0xA37E0000 ||| 3)).cis.running = none ∧
    (cmd (0xA37E0000 ||| 3)).f Fld.CIS_STAT_DONE = 1 := by decide +kernel

theorem witness_RaceOutbound :
    let s := link [(Fld.RACE_STAT_CRAVAIL, 1)]
    let out (r : Race) : State := { s with race := r }
    let busy : Race := { sending := some (.sync, [9]), queue := [⟨1, 2, [3]⟩], gap := 3 }
    let full := out { busy with queue := List.replicate 64 ⟨1, 2, [3]⟩ }
    let ack := fields (out { busy with bufs := [{ words := racePacket 2 0 0 0 [7] }] }) [(Fld.RACE_STAT_DBFULL, 1)]
    s.live = true ∧ s.whd.phase = .awake ∧ Passes s .msp0 Reg.RACE_CTL ∧ s.f Fld.RACE_CTL_EN = 1 ∧
    s.f Fld.RACE_STAT_UP = 1 ∧ s.f Fld.RACE_STAT_CRAVAIL ≠ 0 ∧ (link []).f Fld.RACE_STAT_CRAVAIL = 0 ∧
    (link [(Fld.RACE_CTL_EN, 0)]).f Fld.RACE_CTL_EN = 0 ∧ s.race.sending = none ∧
    (out { s.race with dbOut := some [1] }).race.dbOut = some [1] ∧ (out busy).race.sending ≠ none ∧
    (out busy).race.gap ≠ 0 ∧ (out busy).race.dbOut = none ∧ Passes (out busy) .msp0 Reg.RACE_TRPUSH ∧
    (out busy).race.queue.length < 64 ∧ full.race.queue.length = 64 ∧ (out busy).race.rom = none ∧
    Passes s .msp0 Reg.RACE_DBCTL ∧ (0x100000 : Word).toNat / 65536 % 32 = 16 ∧ ack.f Fld.RACE_STAT_DBFULL = 1 ∧
    ack.f Fld.PROT_SEAL_BY_ROM = 0 ∧ raceType (racePacket 2 0 0 0 [7]) = 2 := by unfold Passes; decide +kernel

theorem witness_CanControllers :
    let s := awake [(Fld.SYS_TBSEL_ACTIVE, 1)]
    let on := awake [(Fld.SYS_TBSEL_ACTIVE, 2), (Fld.CAN_CTL_EN 1, 1), (Fld.CAN_STAT_STATE 1, 1)]
    let off := fields on [(Fld.CAN_STAT_STATE 1, 3)]
    let f : CanFrame := ⟨0x123 <<< 18, 8, [1, 2, 3, 4, 5, 6, 7, 8]⟩
    let hit := on.setReg (Reg.CAN_FLT_ID 1 31) (0x80000000 ||| 0x123 <<< 18)
    let two := on.updCan 1 (fun x => { x with tx := [f, { f with data := [] }], cur := some f })
    s.live = true ∧ s.whd.phase = .awake ∧ Passes s .msp0 (Reg.CAN_CTL 1) ∧ s.f (Fld.CAN_CTL_EN 1) = 0 ∧
    (1 : Word).toNat / 32 % 4 = 0 ∧ s.f Fld.SYS_TBSEL_ACTIVE ≠ 0 ∧
    64 ≤ ((s.reg (Reg.CAN_NBT 1)).toNat % 32 + 1) * (1 + ((s.reg (Reg.CAN_NBT 1)).toNat / 32 % 256 + 1) +
      ((s.reg (Reg.CAN_NBT 1)).toNat / 8192 % 128 + 1)) ∧
    (after (.canEnable .msp0 1 1) s).f (Fld.CAN_STAT_STATE 1) = 1 ∧ on.f (Fld.CAN_CTL_EN 1) = 1 ∧ on.f Fld.SYS_TBSEL_ACTIVE ≠ 0 ∧
    off.f (Fld.CAN_STAT_STATE 1) = 3 ∧ (off.updCan 1 (fun x => { x with recover := true })).f (Fld.CAN_STAT_STATE 1) = 3 ∧
    f.data.length ≤ 64 ∧ f.w0.getLsbD 30 = false ∧ on.f (Fld.CAN_STAT_REC 1) < 128 ∧
    ((hit.reg (Reg.CAN_FLT_ID 1 31)).getLsbD 31 = true ∧
      (hit.reg (Reg.CAN_FLT_ID 1 31)).getLsbD 29 = f.w0.getLsbD 29 ∧
      f.w0 &&& (hit.reg (Reg.CAN_FLT_MASK 1 31) &&& 0x1FFFFFFF) =
        hit.reg (Reg.CAN_FLT_ID 1 31) &&& (hit.reg (Reg.CAN_FLT_MASK 1 31) &&& 0x1FFFFFFF)) ∧
    (∀ j : Fin 31, (hit.reg (Reg.CAN_FLT_ID 1 j.val)).getLsbD 31 = false) ∧
    64 ≤ (on.updCan 1 (fun x => { x with rx := List.replicate 64 ⟨f, 0, 0⟩ })).can[1].rx.length ∧
    Passes on .msp0 (Reg.CAN_RXPOP 1) ∧ Passes on .msp0 (Reg.CAN_TXPUSH 1) ∧ (two.canUnit 1).cur = some f ∧
    two.canMaySend 1 { f with data := [] } = true ∧ two.f (Fld.CAN_CTL_LISTEN 1) = 0 ∧
    two.f (Fld.CAN_CTL_LOOP 1) = 0 := by unfold Passes; decide +kernel

/-- A baseline of two points, the times of all sites alike. -/
def base2 : List BasePoint := [⟨0, 100, List.replicate 12 2000⟩, ⟨50, 100, List.replicate 12 1000⟩]

/-- A sealed lane that measures against it. -/
def plumb (ws : List (Field × Nat)) : State :=
  let s := shut ([(Fld.PLB_CFG_EN, 1), (Fld.SYS_TBSEL_ACTIVE, 1), (Fld.PWR_VSTAT_PENDING, 20),
    (Fld.PWR_VSTAT_TARGET, 20)] ++ ws)
  { s with plb := { s.plb with log := { s.plb.log with baseline := some base2 } } }

/-- On the line halfway, and beyond its points. -/
theorem test_baseAt : (baseAt base2 0 (siteTime 0) 25).num = 1500 * (baseAt base2 0 (siteTime 0) 25).den + 1500 ∧
    (baseAt base2 0 (siteTime 0) 60).num = 800 * (baseAt base2 0 (siteTime 0) 60).den + 800 := by decide +kernel

/-- The statement on measurements: the points of the baseline, and the first clause's order at both ends. -/
theorem witness_PlumbMeasurements :
    let s := plumb []
    base2.Pairwise (fun a b => a.code < b.code) ∧ base2 = [] ++ ⟨0, 100, List.replicate 12 2000⟩ ::
      ⟨50, 100, List.replicate 12 1000⟩ :: [] ∧
    s.live = true ∧ s.f Fld.PROT_SEAL_SEALED = 1 ∧ (s.eng .miller).run = .running ∧ s.f Fld.PLB_CFG_EN = 1 ∧
    s.f Fld.SYS_TBSEL_ACTIVE ≠ 0 ∧ s.f Fld.PWR_VSTAT_PENDING = s.f Fld.PWR_VSTAT_TARGET ∧ s.dip = false ∧
    s.plb.log.baseline = some base2 ∧ 2 ≤ base2.length ∧ 0 < (baseAt base2 0 (siteTime 11) 20).num ∧
    (baseAt base2 0 (fun x => x.tj) 20).num = 100 * (baseAt base2 0 (fun x => x.tj) 20).den + 100 := by
  decide +kernel

theorem witness_PlumbRounds :
    let s := plumb []
    let worn := (fields s [(Fld.PLB_SITE_SLOW 6, 492), (Fld.PLB_SITE_REQW 6, 31), (Fld.PLB_SITE_SLOW 11, 500)]).updPlb
      (fun x => { x with sites := x.sites.map (fun y => { y with rounds := 3 }) })
    s.live = true ∧ (s.eng .miller).run = .running ∧ s.f Fld.PLB_CFG_EN = 1 ∧ s.plb.log.baseline ≠ none ∧
    worn.f (Fld.PLB_SITE_STATE 6) = 0 ∧ 492 ≤ worn.slowOf 6 ∧
    3 ≤ worn.plb.sites[6].rounds ∧ worn.plb.pendSite = none ∧ worn.f Fld.PLB_SPARE_RESIDX ≠ 7 ∧
    worn.f Fld.PLB_SPARE_RETIDX = 7 ∧ worn.plb.priming = none := by decide +kernel

theorem witness_BaselineAndPriming :
    let s := shut [(Fld.SYS_MODE_MODE, mSERVICE)]
    let busy := { fields s [(Fld.PLB_STAT_BUSY, 1), (Fld.PWR_VSTAT_TARGET, s.govTarget)] with
      plb := { s.plb with baseGoals := [] } }
    let halt := fields s [(Fld.SLU_STAT_STATE 3, 3)]
    let prim := { halt with plb := { halt.plb with priming := some 3 } }
    Passes s .msp0 Reg.PLB_BASECTL ∧ s.super .msp0 = true ∧ (0x4B170000 : Word).toNat / 65536 = 0x4B17 ∧
    s.f Fld.PLB_STAT_BUSY = 0 ∧ s.md = mSERVICE ∧ s.stopDem = false ∧ (∀ b : Fin 5, s.f (Fld.BRG_CTL_RUN b) = 0) ∧
    s.plb.log.baseline = none ∧ busy.live = true ∧ busy.f Fld.PLB_STAT_BUSY = 1 ∧ busy.plb.baseGoals = [] ∧
    busy.f Fld.PWR_VSTAT_TARGET = busy.govTarget ∧ WellFormed.baselineOk (.points [⟨0, 0, []⟩]) = false ∧
    Passes halt .msp0 Reg.PLB_PRIME ∧ (0x2E950000 : Word).toNat / 65536 = 0x2E95 ∧
    (∀ m : Fin 5, halt.f (Fld.SLU_STAT_STATE m.val) = 3 → m = 3) ∧ halt.f (Fld.SLU_STAT_STATE (3 : Fin 5).val) = 3 ∧
    halt.f Fld.PLB_SPARE_RESIDX ≠ 7 ∧ halt.f Fld.PLB_SPARE_RESBAD = 0 ∧ halt.plb.priming = none ∧
    halt.f Fld.PLB_SPARE_RETIDX = 7 ∧ halt.plb.pendSite = none ∧ prim.plb.priming = some 3 ∧ prim.cisIdle = true ∧
    prim.dip = false ∧ ({ s with plb := { s.plb with selfTest := true } } : State).plb.selfTest = true := by
  unfold Passes; decide +kernel

theorem witness_RowsAndHours :
    let s := plumb []
    let rep := s.updPlb (fun x => { x with repairing := [((18, 63), 1)] })
    s.live = true ∧ s.f Fld.PROT_SEAL_SEALED = 1 ∧ (s.eng .miller).run = .running ∧ 63 < 16 * 4 ∧
    WellFormed.arrayRows 18 = 64 ∧ s.f (Fld.SLU_STAT_STATE 4) = 0 ∧
    (fields s [(Fld.SLU_STAT_STATE 4, 3)]).f (Fld.SLU_STAT_STATE (4 : Fin 5).val) = 3 ∧
    ((18, 63), 1) ∈ rep.plb.repairing ∧ rep.arrayIdle 18 = true ∧ rep.plb.log.rows[18] < 127 := by decide +kernel

/-- A state for each group of clauses of the statement on completion. -/
theorem witness_CommandsComplete :
    let ready := awake [(Fld.SYS_MODE_MODE, mREADY)]
    let parks : State := let s := shut [(Fld.SYS_MODE_MODE, mREADY), (Fld.SAFE_CFG_USE, 1), (Fld.SAFE_CFG_PARK, 1)]
      { s with safe := { s.safe with levels := (s.safe.levels.set 0 (some false)).set 1 (some true) } }
    let env : BootEnv := { voutMode := some 0x17, readVout := none, injectPass := true, bootStrap := true }
    let release : State := { State.reset with rst := { State.reset.rst with porHold := false } }
    let ph0 := { awake [] with rst := { (awake []).rst with phase0 := true } }
    let gov := awake [(Fld.PWR_GOV_EN, 1), (Fld.PWR_VSTAT_PENDING, 30)]
    ready.md = mREADY ∧ Passes ready .msp0 Reg.SYS_MODEREQ ∧ ready.super .msp0 = true ∧ ready.mode.request = none ∧
    ready.f Fld.KNR_STAT_STATE < 4 ∧ ready.whd.phase = .awake ∧ ready.f Fld.SYS_MODE_STOPPING = 0 ∧
    4 ≤ (fields ready [(Fld.KNR_STAT_STATE, 4)]).f Fld.KNR_STAT_STATE ∧ ready.allInert = true ∧
    (fields ready [(Fld.WHD_WAKECFG_K1, 1)]).wakeEnabled = true ∧ ready.dip = false ∧ ready.mode.lpWait = false ∧
    ready.f Fld.PWR_PMBCFG_PMB_BUSY = 0 ∧ inTable mREADY 15 = false ∧ parks.parked = true ∧ parks.cogZero = true ∧
    parks.f Fld.CIS_BOOTSTAT_TRIALRUN = 0 ∧ Passes parks .msp0 Reg.SYS_MODEREQ ∧
    (awake [(Fld.SYS_MODE_MODE, mSERVICE)]).md = mSERVICE ∧ env.voutMode = some 0x17 ∧ env.injectPass = true ∧
    env.bootStrap = true ∧ (0x17 : BitVec 8).toNat / 32 = 0 ∧ release.rst.asserted = some .por ∧
    release.rst.porHold = false ∧ release.cis.journal = none ∧ release.cis.dir0.valid = true ∧
    release.whd.phase = .awake ∧ ph0.live = true ∧ ph0.rst.phase0 = true ∧ gov.f Fld.PWR_GOV_EN = 1 ∧
    gov.govTarget ≠ gov.f Fld.PWR_VSTAT_PENDING ∧ gov.power.vreq = none ∧ gov.power.xfer = none ∧
    gov.power.alertDue = false ∧ gov.f Fld.PLB_STAT_BUSY = 0 := by
  unfold Passes; decide +kernel

/-- The same, for the wake sources and the Cistern. -/
theorem witness_CommandsComplete_supplies :
    let asleep : State := { awake [(Fld.WHD_WAKECFG_K1, 1), (Fld.WHD_WAKECFG_K2, 2), (Fld.WHD_WAKECFG_ENA, 1),
        (Fld.WHD_WAKECFG_SAFE, 1), (Fld.WHD_WAKECFG_TIMER, 1), (Fld.WHD_WTIMER_PERIOD, 5)] with
      whd := { State.reset.whd with phase := .asleep } }
    let comm := awake [(Fld.SYS_MODE_MODE, mCOMMISSION), (Fld.CIS_ARG_ARG, 3)]
    let slot (st : BitVec 3) : State := { comm with cis := { comm.cis with
      dir0 := comm.cis.dir0.setSlot 1 st false, bytes := comm.cis.bytes.write 0x300008 4 0x40000 } }
    asleep.inReset = false ∧ asleep.whd.phase = .asleep ∧ asleep.f Fld.WHD_WAKECFG_K1 = 1 ∧
    asleep.f Fld.WHD_WAKECFG_K2 = 2 ∧ asleep.f Fld.WHD_WAKECFG_ENA = 1 ∧ asleep.f Fld.WHD_WAKECFG_SAFE = 1 ∧
    asleep.f Fld.WHD_WAKECFG_TIMER = 1 ∧ asleep.f Fld.WHD_WTIMER_PERIOD ≠ 0 ∧ Passes comm .msp0 Reg.CIS_CMD ∧
    comm.super .msp0 = true ∧ comm.cis.running = none ∧ comm.dip = false ∧ comm.md = mCOMMISSION ∧
    comm.cis.dir.stateOf 1 = sEMPTY ∧ (slot sSTAGED).cis.dir.stateOf 1 = sSTAGED ∧
    (slot sSTAGED).cis.dir.floor.toNat ≤ (slot sSTAGED).cis.version 1 / 65536 ∧
    (slot sPREVIOUS).cis.dir.find sPREVIOUS = some 1 ∧ (slot sPREVIOUS).cis.dir.find sTRIAL = none ∧
    (slot sACTIVE).cis.dir.find sACTIVE = some 1 ∧ (slot sACTIVE).cis.dir.floor.toNat < 3 ∧
    3 ≤ (slot sACTIVE).cis.version 1 / 65536 ∧ comm.f Fld.CIS_ARG_ARG = 3 ∧ comm.cis.keyLock = false := by
  unfold Passes; decide +kernel

/-- The same, for the drive, the bridges and the Cog inputs. -/
theorem witness_CommandsComplete_drive :
    let serv := awake [(Fld.SYS_MODE_MODE, mSERVICE)]
    let run := shut []
    let still := driveOn (awake [(Fld.BRG_PCFG_LEGMASK 4, 3), (Fld.BRG_CFG_TYPE 4, 3), (Fld.SYS_TBSEL_ACTIVE, 2),
      (Fld.SYS_MODE_MODE, mSAFEHOLD)])
    let high := motor.updLeg 1 2 (fun x => { x with gate := .high })
    let hall := awake [(Fld.COG_CFG_MODE 5, 4)]
    Passes serv .msp0 Reg.DRV_OVCFG ∧ serv.f Fld.PROT_SEAL_SEALED = 0 ∧ Passes serv .msp0 Reg.DRV_SPWTEST ∧
    serv.md = mSERVICE ∧ Pair run .msp0 (Reg.SLU_CTL 4) ∧ run.sealed = true ∧ run.f (Fld.SLU_STAT_STATE 4) = 0 ∧
    run.f (Fld.SLU_CTL_RUN 4) = 0 ∧ Passes still .msp0 (Reg.BRG_PCMD 4) ∧ Passes still .msp0 (Reg.BRG_CTL 4) ∧
    still.f (Fld.BRG_CFG_TYPE 4) = 3 ∧ still.f (Fld.BRG_PCFG_LEGMASK 4) = 3 ∧ still.f (Fld.BRG_PCFG_SCLASS 4) ≠ 1 ∧
    still.f (Fld.BRG_PWMSTAT_CFGERR 4) = 0 ∧ still.f (Fld.BRG_CATCHST_BUSY 4) = 0 ∧ still.f (Fld.BRG_CTL_RUN 4) = 0 ∧
    (still.bridge 4).perArmed = none ∧ still.f (Fld.BRG_CFG_SYNC 4) = 0 ∧
    Passes still .msp0 (Reg.BRG_CATCHCTL 4) ∧ still.drv.ena = true ∧ motor.live = true ∧ motor.legUsed 1 2 = true ∧
    (motor.bridge 1).locating = false ∧ (motor.bridge 1).vdsDue = false ∧ (motor.bridge 1).latch.held = false ∧
    (motor.leg 1 2).gate ≠ .high ∧ (motor.leg 1 2).gate ≠ .low ∧ (high.leg 1 2).gate = .high ∧
    hall.f (Fld.COG_CFG_MODE 5) = 4 ∧ hall.f (Fld.COG_STAT_WIRE 5) = 0 ∧ (hall.cogOf 5).hall ≠ 6 := by
  unfold Pair Passes; decide +kernel

/-- The same, for Knaor and the Leats. -/
theorem witness_CommandsComplete_leats :
    let pat := (awake []).updKnr (fun x => { x with waking := [(0, 3)] })
    let lead := (run3 3 1 []).updPeer .B (fun p => { p with driving := true, status := some (follows .B) })
    pat.live = true ∧ pat.knr.waking = [(0, 3)] ∧ lead.live = true ∧ lead.f Fld.PROT_SEAL_SEALED = 1 ∧
    lead.whd.phase = .awake ∧ lead.leatExists 1 = true ∧ (follows .C).lane = lead.peerAt 1 ∧
    Passes lead .miller Reg.LEAT_RESIGN ∧ lead.super .miller = true ∧ lead.f Fld.SYS_MODE_ROLE = 3 ∧
    lead.otherEligible = true ∧ lead.leat.leaving = none ∧ lead.md = mTRIPLEX ∧ lead.mode.window = none := by
  unfold Passes; decide +kernel

/-- The same, for the Race port. -/
theorem witness_CommandsComplete_race :
    let s := fields (link []) [(Fld.PROT_RWIN_LIMIT_EN 0, 1), (Fld.PROT_RWIN_BASE_BASE 0, 0x10000),
      (Fld.PROT_RWIN_LIMIT_LIMIT 0, 0x10240)]
    let held := { s with race := { s.race with bufs := [{ words := [], fin := true }] } }
    let p : RacePkt := ⟨racePacket 1 0 0 0x10000000 [5], true, true⟩
    s.live = true ∧ s.f Fld.RACE_CTL_EN = 1 ∧ s.dip = false ∧ s.f Fld.RACE_STAT_UP = 1 ∧ packetValid p = true ∧
    s.race.bufs = [] ∧ s.race.owed = 0 ∧ raceType p.words = 1 ∧ raceFix p.words = false ∧
    (p.words.getD 1 0).toNat = 0x10000000 ∧ raceLen p.words = 1 ∧ s.f (Fld.PROT_RWIN_LIMIT_EN 0) = 1 ∧
    s.f (Fld.PROT_RWIN_BASE_BASE 0) ≤ 0x10000 ∧ 0x10240 ≤ s.f (Fld.PROT_RWIN_LIMIT_LIMIT 0) ∧
    raceType (racePacket 2 0 0 0 [7]) = 2 ∧ packetValid ⟨racePacket 2 0 0 0 [7], true, true⟩ = true ∧
    s.f Fld.RACE_STAT_DBFULL = 0 ∧ s.f Fld.PROT_SEAL_BY_ROM = 0 ∧ s.race.rom = none ∧
    packetValid ⟨racePacket 4 0 0 0 [], true, true⟩ = true ∧ raceType (racePacket 4 0 0 0 []) = 4 ∧
    packetValid ⟨racePacket 5 0 0 0 [], true, true⟩ = true ∧ held.race.bufs = [{ words := [], fin := true }] ∧
    held.f Fld.RACE_STAT_UP = 1 ∧ s.race.sending = none := by
  decide +kernel

/-- The same, for CAN and the Plumb. -/
theorem witness_CommandsComplete_can :
    let f : CanFrame := ⟨0x123 <<< 18, 8, [1, 2, 3, 4, 5, 6, 7, 8]⟩
    let can := (awake [(Fld.SYS_TBSEL_ACTIVE, 2), (Fld.CAN_CTL_EN 1, 1), (Fld.CAN_STAT_STATE 1, 1)]).updCan 1
      (fun x => { x with tx := [f], cur := some f })
    let prim := (shut [(Fld.SLU_STAT_STATE 3, 3)]).updPlb (fun x => { x with priming := some 3, selfTest := true })
    let rows := (plumb []).updPlb (fun x => { x with repairing := [((0, 5), 1)] })
    can.live = true ∧ can.f (Fld.CAN_CTL_EN 1) = 1 ∧
    can.f Fld.SYS_TBSEL_ACTIVE ≠ 0 ∧ can.f (Fld.CAN_STAT_STATE 1) ≠ 3 ∧ (can.canUnit 1).cur = some f ∧
    can.f (Fld.CAN_CTL_LISTEN 1) = 0 ∧ can.f (Fld.CAN_CTL_LOOP 1) = 0 ∧ f.w0.getLsbD 30 = false ∧
    prim.live = true ∧ prim.plb.priming = some 3 ∧ prim.cisFree = true ∧ prim.plb.selfTest = true ∧
    rows.live = true ∧ rows.f Fld.PROT_SEAL_SEALED = 1 ∧ (rows.eng .miller).run = .running ∧
    ((0, 5), 1) ∈ rows.plb.repairing ∧ rows.arrayIdle 0 = true ∧ 5 < WellFormed.arrayRows 0 ∧
    rows.plb.log.rows[0] < 127 := by
  decide +kernel

end Sys2Proof.Tests
end

section
/-!
PROOFS. The integer instructions on registers (R132, R133): what each integer function computes and which flags it
writes, then the one rule that turns this into the effect of an instruction.
-/

namespace Sys2Proof.Machine

open Sys2Proof.Safety

/-! ### The flags that were written -/

theorem bitsAre_nil (p : Word) : BitsAre p p [] := fun _ _ => rfl

/-- A flag that was not written yet may be written after the others. -/
theorem bitsAre_setFlag {p q : Word} {bits : List (Nat × Bool)} (i : Nat) (b : Bool) (h : BitsAre p q bits)
    (hi : bits.lookup i = none) : BitsAre p (setFlag q i b) (bits ++ [(i, b)]) := by
  intro k hk
  rw [getLsbD_setFlag _ _ _ _ hk, List.lookup_append, h k hk]
  by_cases hki : k = i
  · subst hki
    simp [hi]
  · have hne : (k == i) = false := beq_false_of_ne hki
    simp [hki, List.lookup, hne]

theorem bitsAre_flagsNZ (p r : Word) : BitsAre p (flagsNZ p r) (nz r) :=
  bitsAre_setFlag 1 _ (bitsAre_setFlag 0 _ (bitsAre_nil p) rfl) rfl

theorem bitsAre_flagsNZ_overflow (p r : Word) (v : Bool) :
    BitsAre p (setFlag (flagsNZ p r) 3 v) (nz r ++ [(3, v)]) :=
  bitsAre_setFlag 3 v (bitsAre_flagsNZ p r) rfl

theorem bitsAre_flagsNZCV (p r : Word) (c v : Bool) :
    BitsAre p (flagsNZCV p r c v) (nz r ++ [(2, c), (3, v)]) :=
  bitsAre_setFlag 3 v (bitsAre_setFlag 2 c (bitsAre_flagsNZ p r) rfl) rfl

/-! ### What an integer function gives -/

/-- Of operands `a`, `b` and PSW `p` the function makes the result `r`, and of PSW it writes the flags `bits` only. -/
def AluFn.Gives (h : AluFn) (a b p r : Word) (bits : List (Nat × Bool)) : Prop :=
  (h a b p).1 = r ∧ BitsAre p (h a b p).2 bits

section
variable (a b p : Word)

theorem nzFn_gives (h : Word → Word → Word) : AluFn.Gives (nzFn h) a b p (h a b) (nz (h a b)) :=
  ⟨rfl, bitsAre_flagsNZ p _⟩

theorem zFn_gives (h : Word → Word → Word) : AluFn.Gives (zFn h) a b p (h a b) [(1, decide (h a b = 0))] :=
  ⟨rfl, bitsAre_setFlag 1 _ (bitsAre_nil p) rfl⟩

theorem plainFn_gives (h : Word → Word → Word) : AluFn.Gives (plainFn h) a b p (h a b) [] :=
  ⟨rfl, bitsAre_nil p⟩

/-! ### Sums and differences -/

theorem addFlags_eq (cin : Bool) :
    let r := a + b + BitVec.ofNat 32 cin.toNat
    addFlags cin a b p = (r, flagsNZCV p r (decide (2 ^ 32 ≤ a.toNat + b.toNat + cin.toNat))
      (decide (r.toInt ≠ a.toInt + b.toInt + cin.toNat))) := by
  cases cin <;> simp [addFlags, Word.ofBool, BitVec.ofNat_add]

theorem addFlags_gives (cin : Bool) :
    AluFn.Gives (addFlags cin) a b p (a + b + BitVec.ofNat 32 cin.toNat) (addBits a b cin.toNat) := by
  rw [AluFn.Gives, addFlags_eq]
  exact ⟨rfl, bitsAre_flagsNZCV p _ _ _⟩

theorem addFlags_false_gives : AluFn.Gives (addFlags false) a b p (a + b) (addBits a b 0) := by
  simpa using addFlags_gives a b p false

theorem subFlags_gives (cin : Bool) :
    AluFn.Gives (subFlags cin) a b p (a - b - BitVec.ofNat 32 (1 - cin.toNat)) (subBits a b (1 - cin.toNat)) := by
  cases cin with
  | false => exact ⟨rfl, bitsAre_flagsNZCV p _ _ _⟩
  | true => exact ⟨rfl, bitsAre_flagsNZCV p _ _ _⟩

/-- ADDC adds the carry C. -/
theorem addcFn_gives : AluFn.Gives (fun x y q => addFlags (q.bit 2) x y q) a b p
    (a + b + BitVec.ofNat 32 (p.getLsbD 2).toNat) (addBits a b (p.getLsbD 2).toNat) :=
  addFlags_gives a b p (p.bit 2)

/-- SUBC takes a borrow where C is 0. -/
theorem subcFn_gives : AluFn.Gives (fun x y q => subFlags (q.bit 2) x y q) a b p
    (a - b - BitVec.ofNat 32 (1 - (p.getLsbD 2).toNat)) (subBits a b (1 - (p.getLsbD 2).toNat)) :=
  subFlags_gives a b p (p.bit 2)

theorem subFlags_true_gives : AluFn.Gives (subFlags true) a b p (a - b) (subBits a b 0) := by
  simpa using subFlags_gives a b p true

theorem toInt_clamp32 (z : Int) : (clamp32 z).toInt = max (-(2 ^ 31)) (min (2 ^ 31 - 1) z) :=
  BitVec.toInt_ofInt_eq_self (by omega) (by omega) (by omega)

theorem clamp32_of_lt {z : Int} (h : z < -(2 ^ 31)) : clamp32 z = 0x80000000 := by
  rw [clamp32, min_eq_right (by omega), max_eq_left h.le]
  rfl

theorem clamp32_of_gt {z : Int} (h : 2 ^ 31 - 1 < z) : clamp32 z = 0x7FFFFFFF := by
  rw [clamp32, min_eq_left h.le]
  rfl

theorem clamp32_of_mem {z : Int} (hlo : -(2 ^ 31) ≤ z) (hhi : z ≤ 2 ^ 31 - 1) : clamp32 z = BitVec.ofInt 32 z := by
  rw [clamp32, min_eq_right hhi, max_eq_right hlo]

/-- The number is clamped, and said to be where that is another number (R132). -/
theorem sat32_eq (z : Int) : sat32 z = (clamp32 z, decide ((clamp32 z).toInt ≠ z)) := by
  unfold sat32
  by_cases hlo : z < -(2 ^ 31)
  · have hne : (clamp32 z).toInt ≠ z := by rw [toInt_clamp32]; omega
    rw [if_pos hlo, decide_eq_true hne, clamp32_of_lt hlo]
  by_cases hhi : 2 ^ 31 - 1 < z
  · have hne : (clamp32 z).toInt ≠ z := by rw [toInt_clamp32]; omega
    rw [if_neg hlo, if_pos hhi, decide_eq_true hne, clamp32_of_gt hhi]
  · have heq : ¬ (clamp32 z).toInt ≠ z := by rw [toInt_clamp32]; omega
    rw [if_neg hlo, if_neg hhi, decide_eq_false heq, clamp32_of_mem (not_lt.mp hlo) (not_lt.mp hhi)]

theorem bitsAre_satFlags (z : Int) : BitsAre p (satFlags p (sat32 z)).2 (satBits z) := by
  rw [sat32_eq]
  by_cases h : (clamp32 z).toInt = z
  · simpa [satFlags, satBits, h] using bitsAre_flagsNZ p _
  · simpa [satFlags, satBits, h] using bitsAre_setFlag 4 true (bitsAre_flagsNZ p _) rfl

theorem addsFn_gives :
    AluFn.Gives addsFn a b p (clamp32 (a.toInt + b.toInt)) (satBits (a.toInt + b.toInt)) :=
  ⟨congrArg Prod.fst (sat32_eq _), bitsAre_satFlags p _⟩

theorem subsFn_gives :
    AluFn.Gives subsFn a b p (clamp32 (a.toInt - b.toInt)) (satBits (a.toInt - b.toInt)) :=
  ⟨congrArg Prod.fst (sat32_eq _), bitsAre_satFlags p _⟩

/-! ### Shifts -/

theorem field_zero_five : b.field 0 5 = b.toNat % 32 := by simp [Word.field]

theorem bitsAre_shiftFlags (r : Word) (n : Nat) (out : Bool) :
    BitsAre p (shiftFlags r p n out).2 (shiftBits r n out) := by
  by_cases h : n = 0
  · simpa [shiftFlags, shiftBits, h] using bitsAre_flagsNZ p r
  · simpa [shiftFlags, shiftBits, h] using bitsAre_setFlag 2 out (bitsAre_flagsNZ p r) rfl

theorem shlFn_gives : AluFn.Gives shlFn a b p (a <<< (b.toNat % 32))
    (shiftBits (a <<< (b.toNat % 32)) (b.toNat % 32) (a.getLsbD (32 - b.toNat % 32))) := by
  rw [← field_zero_five]
  exact ⟨rfl, bitsAre_shiftFlags p _ _ _⟩

theorem shrFn_gives : AluFn.Gives shrFn a b p (a >>> (b.toNat % 32))
    (shiftBits (a >>> (b.toNat % 32)) (b.toNat % 32) (a.getLsbD (b.toNat % 32 - 1))) := by
  rw [← field_zero_five]
  exact ⟨rfl, bitsAre_shiftFlags p _ _ _⟩

theorem sarFn_gives : AluFn.Gives sarFn a b p (a.sshiftRight (b.toNat % 32))
    (shiftBits (a.sshiftRight (b.toNat % 32)) (b.toNat % 32) (a.getLsbD (b.toNat % 32 - 1))) := by
  rw [← field_zero_five]
  exact ⟨rfl, bitsAre_shiftFlags p _ _ _⟩

theorem rorFn_gives : AluFn.Gives rorFn a b p (a.rotateRight (b.toNat % 32))
    (shiftBits (a.rotateRight (b.toNat % 32)) (b.toNat % 32) (a.getLsbD (b.toNat % 32 - 1))) := by
  rw [← field_zero_five]
  exact ⟨rfl, bitsAre_shiftFlags p _ _ _⟩

/-! ### Products and divisions -/

theorem ofInt_toInt_mul : BitVec.ofInt 32 (a.toInt * b.toInt) = a * b := by
  rw [BitVec.ofInt_mul, BitVec.ofInt_toInt, BitVec.ofInt_toInt]

theorem mulFn_gives : AluFn.Gives (nzFn (fun x y => x * y)) a b p (BitVec.ofInt 32 (a.toInt * b.toInt))
    (nz (BitVec.ofInt 32 (a.toInt * b.toInt))) := by
  rw [ofInt_toInt_mul]
  exact nzFn_gives a b p _

/-- Bit 31 is the sign (R133). -/
theorem bit_31_iff : a.bit 31 = true ↔ ¬ 0 ≤ a.toInt := by
  rw [Word.bit_eq, ← BitVec.msb_eq_getLsbD_last a, BitVec.msb_eq_toInt, decide_eq_true_iff, not_le]

theorem divExc_eq : divExc a b = decide (b = 0 ∨ a = 0x80000000 ∧ b = 0xFFFFFFFF) := by
  rw [Bool.eq_iff_iff]
  simp [divExc]

theorem divFn_gives :
    let q : Word := if b = 0 then (if 0 ≤ a.toInt then 0x7FFFFFFF else 0x80000000)
      else if a = 0x80000000 ∧ b = 0xFFFFFFFF then 0x7FFFFFFF else BitVec.ofInt 32 (a.toInt.tdiv b.toInt)
    AluFn.Gives divFn a b p q (nz q ++ [(3, decide (b = 0 ∨ a = 0x80000000 ∧ b = 0xFFFFFFFF))]) := by
  have hq : (if a.bit 31 then (0x80000000 : Word) else 0x7FFFFFFF) =
      if 0 ≤ a.toInt then 0x7FFFFFFF else 0x80000000 := by
    by_cases h : 0 ≤ a.toInt <;> simp [bit_31_iff, h]
  rw [← hq, ← divExc_eq]
  exact ⟨rfl, bitsAre_flagsNZ_overflow p _ _⟩

theorem remFn_gives :
    let r : Word := if b = 0 then a else if a = 0x80000000 ∧ b = 0xFFFFFFFF then 0
      else BitVec.ofInt 32 (a.toInt.tmod b.toInt)
    AluFn.Gives remFn a b p r (nz r ++ [(3, decide (b = 0 ∨ a = 0x80000000 ∧ b = 0xFFFFFFFF))]) := by
  rw [← divExc_eq]
  exact ⟨rfl, bitsAre_flagsNZ_overflow p _ _⟩

theorem divuFn_gives :
    let q : Word := if b = 0 then 0xFFFFFFFF else BitVec.ofNat 32 (a.toNat / b.toNat)
    AluFn.Gives divuFn a b p q (nz q ++ [(3, decide (b = 0))]) :=
  ⟨rfl, bitsAre_flagsNZ_overflow p _ _⟩

theorem remuFn_gives :
    let r : Word := if b = 0 then a else BitVec.ofNat 32 (a.toNat % b.toNat)
    AluFn.Gives remuFn a b p r (nz r ++ [(3, decide (b = 0))]) :=
  ⟨rfl, bitsAre_flagsNZ_overflow p _ _⟩

/-! ### The lesser and the greater -/

/-- Choosing between two words by `<` or by `≤` is the same if equal numbers choose between equal words. -/
theorem ite_lt_eq_ite_le {α : Type} [LinearOrder α] {x y : α} {c d : Word} (h : x = y → c = d) :
    (if x < y then c else d) = if x ≤ y then c else d := by
  rcases lt_trichotomy x y with hlt | heq | hgt
  · rw [if_pos hlt, if_pos hlt.le]
  · rw [h heq, ite_self, ite_self]
  · rw [if_neg hgt.not_gt, if_neg hgt.not_ge]

theorem ite_slt {c d : Word} (h : a = b → c = d) :
    (if a.slt b then c else d) = if a.toInt ≤ b.toInt then c else d := by
  simp only [BitVec.slt_iff_toInt_lt]
  exact ite_lt_eq_ite_le fun he => h (BitVec.eq_of_toInt_eq he)

theorem ite_ult {c d : Word} (h : a = b → c = d) :
    (if a.ult b then c else d) = if a.toNat ≤ b.toNat then c else d := by
  simp only [BitVec.ult_iff_lt, BitVec.lt_def]
  exact ite_lt_eq_ite_le fun he => h (BitVec.eq_of_toNat_eq he)

theorem minFn_gives : AluFn.Gives (plainFn fun x y => if x.slt y then x else y) a b p
    (if a.toInt ≤ b.toInt then a else b) [] :=
  ⟨ite_slt a b id, bitsAre_nil p⟩

theorem maxFn_gives : AluFn.Gives (plainFn fun x y => if x.slt y then y else x) a b p
    (if a.toInt ≤ b.toInt then b else a) [] :=
  ⟨ite_slt a b Eq.symm, bitsAre_nil p⟩

theorem minuFn_gives : AluFn.Gives (plainFn fun x y => if x.ult y then x else y) a b p
    (if a.toNat ≤ b.toNat then a else b) [] :=
  ⟨ite_ult a b id, bitsAre_nil p⟩

theorem maxuFn_gives : AluFn.Gives (plainFn fun x y => if x.ult y then y else x) a b p
    (if a.toNat ≤ b.toNat then b else a) [] :=
  ⟨ite_ult a b Eq.symm, bitsAre_nil p⟩

/-! ### Counts and byte order -/

/-- The set bits among the low `n`, from bit 0 up. -/
def setBits (n : Nat) : List Nat := (List.range n).filter (fun k => a.getLsbD k)

theorem setBits_succ (n : Nat) : setBits a (n + 1) = setBits a n ++ if a.getLsbD n then [n] else [] := by
  simp [setBits, List.range_succ, List.filter_cons]

theorem lt_of_getLast?_setBits {n k : Nat} (h : (setBits a n).getLast? = some k) : k < n :=
  List.mem_range.mp (List.mem_of_mem_filter (List.mem_of_getLast? h))

/-- The leading zeros below bit `n` end at the last set bit. -/
theorem clzFrom_eq (n : Nat) :
    clzFrom a n = match (setBits a n).getLast? with | some k => n - 1 - k | none => n := by
  induction n with
  | zero => rfl
  | succ n ih =>
    rw [clzFrom, setBits_succ, Word.bit_eq]
    by_cases h : a.getLsbD n
    · simp [h]
    · rw [if_neg h, if_neg h, List.append_nil, ih]
      cases hl : (setBits a n).getLast? with
      | none => exact Nat.add_comm 1 n
      | some k =>
        have := lt_of_getLast?_setBits a hl
        show 1 + (n - 1 - k) = n + 1 - 1 - k
        omega

/-- The trailing zeros from bit `i` up end at the first set bit. -/
theorem ctzFrom_eq (i n : Nat) :
    i + ctzFrom a i n = ((List.range' i n).filter (fun k => a.getLsbD k)).head?.getD (i + n) := by
  induction n generalizing i with
  | zero => rfl
  | succ n ih =>
    rw [ctzFrom, List.range'_succ, List.filter_cons, Word.bit_eq]
    by_cases h : a.getLsbD i
    · simp [h]
    · rw [if_neg h, if_neg h, ← Nat.add_assoc, ih (i + 1), Nat.add_right_comm, Nat.add_assoc i n 1]

theorem popFrom_eq (n : Nat) : popFrom a n = (setBits a n).length := by
  induction n with
  | zero => rfl
  | succ n ih =>
    rw [popFrom, setBits_succ, List.length_append, ih, Word.bit_eq]
    by_cases h : a.getLsbD n <;> simp [h, Nat.add_comm]

theorem toNat_append_byte {n : Nat} (x : BitVec n) (y : Byte) : (x ++ y).toNat = x.toNat * 2 ^ 8 + y.toNat := by
  rw [BitVec.toNat_append, ← Nat.shiftLeft_add_eq_or_of_lt y.isLt, Nat.shiftLeft_eq]

theorem toNat_extract_byte (lo : Nat) : (a.extractLsb' lo 8).toNat = a.field lo 8 := by
  rw [BitVec.extractLsb'_toNat, Nat.shiftRight_eq_div_pow, Word.field]

theorem revW_eq :
    revW a = a.extractLsb' 0 8 ++ a.extractLsb' 8 8 ++ a.extractLsb' 16 8 ++ a.extractLsb' 24 8 := by
  have h0 := Word.field_lt a 0 8
  have h8 := Word.field_lt a 8 8
  have h16 := Word.field_lt a 16 8
  have h24 := Word.field_lt a 24 8
  apply BitVec.eq_of_toNat_eq
  simp only [revW, BitVec.toNat_ofNat, toNat_append_byte, toNat_extract_byte]
  omega

theorem setWidth_16_32_eq_mod : (a.setWidth 16).setWidth 32 = BitVec.ofNat 32 (a.toNat % 65536) := by
  apply BitVec.eq_of_toNat_eq
  simp

theorem zexthFn_gives : AluFn.Gives (nzFn (fun x _ => (x.setWidth 16).setWidth 32)) a b p
    (BitVec.ofNat 32 (a.toNat % 65536)) (nz (BitVec.ofNat 32 (a.toNat % 65536))) := by
  rw [← setWidth_16_32_eq_mod]
  exact nzFn_gives a b p _

theorem clzFn_gives :
    let c := BitVec.ofNat 32 (match (setBits a 32).getLast? with | some k => 31 - k | none => 32)
    AluFn.Gives (zFn (fun x _ => BitVec.ofNat 32 (clzFrom x 32))) a b p c [(1, decide (c = 0))] := by
  rw [← clzFrom_eq]
  exact zFn_gives a b p _

theorem ctzFn_gives :
    let c := BitVec.ofNat 32 ((setBits a 32).head?.getD 32)
    AluFn.Gives (zFn (fun x _ => BitVec.ofNat 32 (ctzFrom x 0 32))) a b p c [(1, decide (c = 0))] := by
  have h : (setBits a 32).head?.getD 32 = ctzFrom a 0 32 := by
    rw [setBits, List.range_eq_range', ← Nat.zero_add (ctzFrom a 0 32), ctzFrom_eq]
  rw [h]
  exact zFn_gives a b p _

theorem popFn_gives :
    let c := BitVec.ofNat 32 (setBits a 32).length
    AluFn.Gives (zFn (fun x _ => BitVec.ofNat 32 (popFrom x 32))) a b p c [(1, decide (c = 0))] := by
  rw [← popFrom_eq]
  exact zFn_gives a b p _

theorem revFn_gives : AluFn.Gives (plainFn (fun x _ => revW x)) a b p
    (a.extractLsb' 0 8 ++ a.extractLsb' 8 8 ++ a.extractLsb' 16 8 ++ a.extractLsb' 24 8) [] :=
  ⟨revW_eq a, bitsAre_nil p⟩

end

/-! ### From a function to an instruction -/

section
variable {i : Instr} {s : State} {e : Engine} {o : FmtA} {n major : Nat} {f : EngState → EngState} {h : AluFn}
  {a b r : Word} {d : BitVec 5} {bits : List (Nat × Bool)}

/-- A legal instruction that issues and acts on its engine by an integer function computes what the function gives. -/
theorem computes_alu (hi : Issues s e n) (hx : exec i s = .next (s.issueReg e n major true f))
    (hf : f (s.eng e) = (s.eng e).alu h d a b) (hg : h.Gives a b (s.eng e).psw r bits) :
    Computes i s e n (some (d, r)) bits := by
  obtain ⟨hr, hbits⟩ := hg
  refine ⟨((s.eng e).alu h d a b).next n, ?_, rfl, fun k => ?_, hbits⟩
  · rw [hx, State.issueReg_ok _ _ _ _ _ hi, hf]
  · rw [EngState.next_getG, EngState.alu, EngState.getG_setG, EngState.getG_psw, hr]

/-- A legal instruction that issues and takes the flags alone of an integer function writes no g register. -/
theorem computes_flagsOnly (hi : Issues s e n) (hx : exec i s = .next (s.issueReg e n major true f))
    (hf : f (s.eng e) = (s.eng e).flagsOnly h a b) (hg : h.Gives a b (s.eng e).psw r bits) :
    Computes i s e n none bits := by
  refine ⟨((s.eng e).flagsOnly h a b).next n, ?_, rfl, fun _ => rfl, hg.2⟩
  rw [hx, State.issueReg_ok _ _ _ _ _ hi, hf]

/-- Format A with two operands (R132). -/
theorem computes_opA (hi : Issues s o.eng 1)
    (hg : h.Gives ((s.eng o.eng).getG o.ga) ((s.eng o.eng).getG o.gb) (s.eng o.eng).psw r bits)
    (hx : exec i s = .next (s.opA o h)) : Computes i s o.eng 1 (some (o.gd, r)) bits :=
  computes_alu hi hx rfl hg

/-- Format A with one operand, where gb is 0 (R132). -/
theorem computes_opA1 (hi : Issues s o.eng 1) (h0 : o.gb = 0)
    (hg : h.Gives ((s.eng o.eng).getG o.ga) 0 (s.eng o.eng).psw r bits)
    (hx : exec i s = .next (s.opA1 o h)) : Computes i s o.eng 1 (some (o.gd, r)) bits := by
  rw [State.opA1, h0] at hx
  exact computes_alu hi hx rfl hg

theorem computes_cmp (hi : Issues s o.eng 1) (h0 : o.gd = 0) : Computes (.cmp o) s o.eng 1 none
    (subBits ((s.eng o.eng).getG o.ga) ((s.eng o.eng).getG o.gb) 0) := by
  have hx : exec (.cmp o) s = .next (s.issueReg o.eng 1 0 (o.gd == 0) fun x =>
      x.flagsOnly (subFlags true) (x.getG o.ga) (x.getG o.gb)) := rfl
  rw [h0] at hx
  exact computes_flagsOnly hi hx rfl (subFlags_true_gives _ _ _)

end

/-- Settles O8: each instruction is the one rule of its format (`computes_opA`, `computes_opA1`) at what its integer
function gives. -/
theorem integerInstructions : Obligations.IntegerInstructions := by
  unfold Obligations.IntegerInstructions
  refine ⟨fun o s hi => ?_, fun o s hi => ?_, fun o s hi => ?_, fun o s hi => ?_⟩
  · exact ⟨computes_opA hi (addFlags_false_gives _ _ _) rfl,
      computes_opA hi (addcFn_gives _ _ _) rfl,
      computes_opA hi (subFlags_true_gives _ _ _) rfl,
      computes_opA hi (subcFn_gives _ _ _) rfl,
      computes_opA hi (addsFn_gives _ _ _) rfl,
      computes_opA hi (subsFn_gives _ _ _) rfl,
      computes_cmp hi⟩
  · exact ⟨computes_opA hi (nzFn_gives _ _ _ _) rfl,
      computes_opA hi (nzFn_gives _ _ _ _) rfl,
      computes_opA hi (nzFn_gives _ _ _ _) rfl,
      computes_opA hi (nzFn_gives _ _ _ _) rfl,
      computes_opA hi (shlFn_gives _ _ _) rfl,
      computes_opA hi (shrFn_gives _ _ _) rfl,
      computes_opA hi (sarFn_gives _ _ _) rfl,
      computes_opA hi (rorFn_gives _ _ _) rfl⟩
  · exact ⟨computes_opA hi (mulFn_gives _ _ _) rfl,
      computes_opA hi (nzFn_gives _ _ _ mulhsW) rfl,
      computes_opA hi (nzFn_gives _ _ _ mulhuW) rfl,
      computes_opA hi (divFn_gives _ _ _) rfl,
      computes_opA hi (divuFn_gives _ _ _) rfl,
      computes_opA hi (remFn_gives _ _ _) rfl,
      computes_opA hi (remuFn_gives _ _ _) rfl⟩
  · refine ⟨computes_opA hi (minFn_gives _ _ _) rfl, computes_opA hi (maxFn_gives _ _ _) rfl,
      computes_opA hi (minuFn_gives _ _ _) rfl, computes_opA hi (maxuFn_gives _ _ _) rfl, fun h0 => ?_⟩
    exact ⟨computes_opA1 hi h0 (clzFn_gives _ _ _) rfl,
      computes_opA1 hi h0 (ctzFn_gives _ _ _) rfl,
      computes_opA1 hi h0 (popFn_gives _ _ _) rfl,
      computes_opA1 hi h0 (nzFn_gives _ _ _ _) rfl,
      computes_opA1 hi h0 (nzFn_gives _ _ _ _) rfl,
      computes_opA1 hi h0 (zexthFn_gives _ _ _) rfl,
      computes_opA1 hi h0 (revFn_gives _ _ _) rfl⟩

end Sys2Proof.Machine
end

section
/-!
PROOFS. Completions by CAT_DONE (R232) and the firings of the Wellhead's chosen watch entries (R239, R240): what each
rule answers, case by case, and from that the effect of the command.
-/

namespace Sys2Proof.Machine

open Sys2Proof.Safety

/-- A command that sets one field. -/
theorem effect_setF {c : Instr} {s : State} {x : Field} {v : Nat} (hx : exec c s = .next (s.setF x v)) :
    Effect c s s [(x, v)] :=
  ⟨_, hx, rfl, regsAre_setF s x v⟩

/-! ### Completions -/

section
variable {s : State} {e : Engine} {v : Word}

theorem field_zero_eight : v.field 0 8 = v.toNat % 256 := by simp [Word.field]

theorem State.wCatDone_reserved (h : isSource (v.toNat % 256) = false) : s.wCatDone v = s := by
  simp [State.wCatDone, field_zero_eight, h]

theorem State.wCatDone_level_on (h : isSource (v.toNat % 256) = true) (hl : isLevel (v.toNat % 256) = true)
    (hon : s.f (Fld.CAT_CNT_NOW (v.toNat % 256)) = 1) : s.wCatDone v = s := by
  simp [State.wCatDone, State.fb, field_zero_eight, h, hl, hon]

theorem State.wCatDone_level_off (h : isSource (v.toNat % 256) = true) (hl : isLevel (v.toNat % 256) = true)
    (hoff : s.f (Fld.CAT_CNT_NOW (v.toNat % 256)) = 0) :
    s.wCatDone v = s.setF (Fld.CAT_CNT_COUNT (v.toNat % 256)) 0 := by
  simp [State.wCatDone, State.fb, field_zero_eight, h, hl, hoff]

theorem State.wCatDone_edge (h : isSource (v.toNat % 256) = true) (hl : isLevel (v.toNat % 256) = false) :
    s.wCatDone v = s.setF (Fld.CAT_CNT_COUNT (v.toNat % 256)) (s.f (Fld.CAT_CNT_COUNT (v.toNat % 256)) -
      if v.toNat / 256 % 16 = 0 then 15 else v.toNat / 256 % 16) := by
  have hm : v.field 8 4 = v.toNat / 256 % 16 := rfl
  simp [State.wCatDone, field_zero_eight, hm, h, hl]

/-- A completion that passes the gate does what R232 says. -/
theorem exec_catDone (hp : Passes s e Reg.CAT_DONE) : exec (.catDone e v) s = .next (s.wCatDone v) := by
  have hx : exec (.catDone e v) s = .next (s.access e Reg.CAT_DONE fun t => .done (t.wCatDone v)) := rfl
  rw [hx, State.access_pass s (s.wCatDone v) e _ _ hp rfl]

end

/-! ### Watch entries -/

section
variable {s : State} {n : Fin 16} {rising : Bool}

/-- The edge is one that EDGE of the entry selects (R239). -/
def State.edgeHit (s : State) (n : Nat) (rising : Bool) : Bool :=
  let edge := s.f (Fld.WHD_WATCH_EDGE n)
  edge == 3 || (edge == 1 && rising) || (edge == 2 && !rising)

/-- The entry watches a signal, and the edge is one that EDGE selects (R239, R240). -/
def State.WatchFires (s : State) (n : Nat) (rising : Bool) : Prop :=
  1 ≤ s.f (Fld.WHD_WATCH_SIG n) ∧ s.f (Fld.WHD_WATCH_SIG n) ≤ 0x11 ∧
    (s.f (Fld.WHD_WATCH_EDGE n) = 3 ∨ s.f (Fld.WHD_WATCH_EDGE n) = 1 ∧ rising = true ∨
      s.f (Fld.WHD_WATCH_EDGE n) = 2 ∧ rising = false)

/-- A firing in low power: LOGGED, and CNT up by 1 or LSAT (R240). -/
def State.logFiring (s : State) (n : Nat) : State :=
  let s1 := s.setF (Fld.WHD_WATCH_LOGGED n) 1
  if s.f (Fld.WHD_WATCH_CNT n) = 15 then s1.setF (Fld.WHD_WATCH_LSAT n) 1
  else s1.satAdd (Fld.WHD_WATCH_CNT n) 1

/-- An edge that EDGE selects is one that the entry watches for: EDGE is not off then. -/
theorem State.watchFires_iff {n : Nat} :
    s.WatchFires n rising ↔ s.watching n = true ∧ s.edgeHit n rising = true := by
  simp only [State.WatchFires, State.watching, watchSignal, State.fb, State.edgeHit, Bool.and_eq_true,
    Bool.or_eq_true, decide_eq_true_eq, bne_iff_ne, beq_iff_eq, Bool.not_eq_true']
  generalize s.f (Fld.WHD_WATCH_SIG n) = sig, s.f (Fld.WHD_WATCH_EDGE n) = edge
  constructor
  · rintro ⟨hlo, hhi, hedge⟩
    exact ⟨⟨⟨hlo, hhi⟩, by omega⟩, or_assoc.mpr hedge⟩
  · rintro ⟨⟨⟨hlo, hhi⟩, -⟩, hedge⟩
    exact ⟨hlo, hhi, or_assoc.mp hedge⟩

/-- What an edge of a chosen entry brings: nothing unless the entry fires, then an occurrence while the lane runs and
otherwise an entry of the log. -/
theorem exec_watchEntryFire (hn : 7 ≤ n.val) (hr : s.rst.porHold = false) :
    exec (.watchEntryFire n rising) s = .next (if !s.watching n || !s.edgeHit n rising then s
      else if s.live && s.whd.phase = .awake then s.raise (9 + n.val) else s.logFiring n) := by
  have hx : exec (.watchEntryFire n rising) s = execWatchEntryFire n rising s := rfl
  have hsrc : 16 + (n.val - 7) = 9 + n.val := by omega
  simp [hx, execWatchEntryFire, State.edgeHit, State.logFiring, hr, hsrc, not_lt.mpr hn]

theorem exec_watchEntryFire_of_not_fires (hn : 7 ≤ n.val) (hr : s.rst.porHold = false)
    (hf : ¬ s.WatchFires n rising) : exec (.watchEntryFire n rising) s = .next s := by
  have hoff : (!s.watching n || !s.edgeHit n rising) = true := by
    rw [← Bool.not_and, Bool.not_eq_true', ← Bool.not_eq_true, Bool.and_eq_true, ← State.watchFires_iff]
    exact hf
  rw [exec_watchEntryFire hn hr, if_pos hoff]

theorem exec_watchEntryFire_of_awake (hn : 7 ≤ n.val) (hr : s.rst.porHold = false) (hf : s.WatchFires n rising)
    (hl : s.live = true) (hp : s.whd.phase = .awake) :
    exec (.watchEntryFire n rising) s = .next (s.raise (9 + n.val)) := by
  obtain ⟨hw, he⟩ := State.watchFires_iff.mp hf
  simp [exec_watchEntryFire hn hr, hw, he, hl, hp]

theorem exec_watchEntryFire_of_lowPower (hn : 7 ≤ n.val) (hr : s.rst.porHold = false) (hf : s.WatchFires n rising)
    (hp : s.whd.phase ≠ .awake) : exec (.watchEntryFire n rising) s = .next (s.logFiring n) := by
  obtain ⟨hw, he⟩ := State.watchFires_iff.mp hf
  simp [exec_watchEntryFire hn hr, hw, he, hp]

theorem State.logFiring_frame (n : Nat) : s.logFiring n = { s with regs := (s.logFiring n).regs } := by
  by_cases hc : s.f (Fld.WHD_WATCH_CNT n) = 15
  · rw [State.logFiring, if_pos hc]; rfl
  · rw [State.logFiring, if_neg hc]; rfl

/-- CNT stands beside LOGGED in the register, so the log counts from the CNT that the firing found. -/
theorem regsAre_logFiring (n : Nat) : RegsAre s (s.logFiring n)
    ((Fld.WHD_WATCH_LOGGED n, 1) :: if s.f (Fld.WHD_WATCH_CNT n) = 15 then [(Fld.WHD_WATCH_LSAT n, 1)]
      else [(Fld.WHD_WATCH_CNT n, s.f (Fld.WHD_WATCH_CNT n) + 1)]) := by
  have hlog := regsAre_setF s (Fld.WHD_WATCH_LOGGED n) 1
  by_cases hc : s.f (Fld.WHD_WATCH_CNT n) = 15
  · rw [State.logFiring, if_pos hc, if_pos hc]
    exact RegsAre_append hlog (regsAre_setF _ _ _)
  · have hcnt : (s.setF (Fld.WHD_WATCH_LOGGED n) 1).f (Fld.WHD_WATCH_CNT n) = s.f (Fld.WHD_WATCH_CNT n) :=
      State.f_setF_beside _ _ _ _ (by decide : 12 + 4 ≤ 32) (.inl (by decide : 9 + 1 ≤ 12))
    have hlt : s.f (Fld.WHD_WATCH_CNT n) < 16 := State.f_lt s (Fld.WHD_WATCH_CNT n)
    have hmin : min (2 ^ 4 - 1) (s.f (Fld.WHD_WATCH_CNT n) + 1) = s.f (Fld.WHD_WATCH_CNT n) + 1 := by omega
    have hadd := regsAre_satAdd (s.setF (Fld.WHD_WATCH_LOGGED n) 1) (Fld.WHD_WATCH_CNT n) 1
    rw [hcnt, show (Fld.WHD_WATCH_CNT n).w = 4 from rfl, hmin] at hadd
    rw [State.logFiring, if_neg hc, if_neg hc]
    exact RegsAre_append hlog hadd

end

/-- Settles O25: the three cases of a completion are those of `State.wCatDone`; a firing is an occurrence (`raised`)
while the lane runs and an entry of the log (`State.logFiring`) in low power, and no other edge has an effect. -/
theorem completionAndWatch : Obligations.CompletionAndWatch := by
  unfold Obligations.CompletionAndWatch
  refine ⟨fun e v s hp => ⟨fun h => ?_, fun h hl => ⟨fun hon => ?_, fun hoff => ?_⟩, fun h hl => ?_⟩,
    fun n rising s hn hr => ⟨fun hf hlive hph => ?_, fun hf hph => ?_, exec_watchEntryFire_of_not_fires hn hr⟩⟩
  · rw [exec_catDone hp, State.wCatDone_reserved h]
  · rw [exec_catDone hp, State.wCatDone_level_on h hl hon]
  · exact effect_setF (by rw [exec_catDone hp, State.wCatDone_level_off h hl hoff])
  · exact effect_setF (by rw [exec_catDone hp, State.wCatDone_edge h hl])
  · exact ⟨_, exec_watchEntryFire_of_awake hn hr hf hlive hph, State.raise_frame s _, regsAre_raise s _ hlive⟩
  · exact ⟨_, exec_watchEntryFire_of_lowPower hn hr hf hph, State.logFiring_frame _, regsAre_logFiring _⟩

end Sys2Proof.Machine
end

section
/-!
PROOFS. The CAN controllers (R422 to R426): what the operations of a controller leave unchanged, what RXE shows, which
frame goes next, and from these the answers of each command. The readings of the spec behind them are log entries 32, 33
and 59.
-/

namespace Sys2Proof.Word

theorem bit_iff (w : Word) (i : Nat) : w.bit i = true ↔ w.toNat / 2 ^ i % 2 = 1 := by
  rw [Word.bit_eq, BitVec.getLsbD, Nat.testBit_eq_decide_div_mod_eq, decide_eq_true_iff]

theorem bit_eq_false_iff (w : Word) (i : Nat) : w.bit i = false ↔ w.toNat / 2 ^ i % 2 = 0 := by
  rw [← Bool.not_eq_true, Word.bit_iff]
  omega

theorem ofBool_bit (w : Word) (i : Nat) : Word.ofBool (w.bit i) = w.toNat / 2 ^ i % 2 := by
  cases h : w.bit i
  · rw [(Word.bit_eq_false_iff w i).mp h]; rfl
  · rw [(Word.bit_iff w i).mp h]; rfl

/-- A field that takes the value it has leaves the word. -/
theorem put_field_self (w : Word) (lo n : Nat) : w.put lo n (w.field lo n) = w := by
  apply BitVec.eq_of_getLsbD_eq
  intro k hk
  rw [Word.getLsbD_put _ _ _ _ _ hk]
  split
  · next h =>
    rw [Word.testBit_field, Nat.add_sub_cancel' h.1, decide_eq_true (by omega), Bool.true_and]
  · rfl

theorem bit_or (v w : Word) (i : Nat) : (v ||| w).bit i = (v.bit i || w.bit i) := BitVec.getLsbD_or

end Sys2Proof.Word

namespace Sys2Proof.Machine

open Sys2Proof.Safety

/-! ### Register words -/

theorem regsAre_self (s : State) (x : Field) : RegsAre s s [(x, s.f x)] := by
  intro a
  show s.reg a = if x.addr = a then (s.reg a).put x.lo x.w (s.f x) else s.reg a
  split
  · next h => rw [← h, State.f, Word.put_field_self]
  · rfl

/-- Fields of different registers may be listed in either order. -/
theorem RegsAre_swap {s t : State} {fs gs : List (Field × Nat)} {x y : Field × Nat} (h : x.1.addr ≠ y.1.addr)
    (k : RegsAre s t (fs ++ x :: y :: gs)) : RegsAre s t (fs ++ y :: x :: gs) := by
  intro a
  rw [k a, List.foldl_append, List.foldl_append, List.foldl_cons, List.foldl_cons, List.foldl_cons, List.foldl_cons]
  by_cases hx : x.1.addr = a
  · rw [if_pos hx, if_neg (fun hy => h (hx.trans hy.symm)), if_pos hx, if_neg fun hy => h (hx.trans hy.symm)]
  · rw [if_neg hx, if_neg hx]

theorem State.f_congr {s t : State} (x : Field) (h : t.reg x.addr = s.reg x.addr) : t.f x = s.f x := by
  rw [State.f, State.f, h]

/-- What a source shows after an occurrence depends on its own register alone. -/
theorem raised_congr {s t : State} {n : Nat} (h : t.reg (Reg.CAT_CNT n) = s.reg (Reg.CAT_CNT n)) :
    raised t n = raised s n := by
  have hf : t.f (Fld.CAT_CNT_COUNT n) = s.f (Fld.CAT_CNT_COUNT n) := State.f_congr _ h
  rw [raised, raised, hf]

theorem State.isPending_congr {s t : State} {n : Nat} (h : t.reg (Reg.CAT_CNT n) = s.reg (Reg.CAT_CNT n)) :
    t.isPending n = s.isPending n := by
  have hf : t.f (Fld.CAT_CNT_COUNT n) = s.f (Fld.CAT_CNT_COUNT n) := State.f_congr _ h
  rw [State.isPending, State.isPending, State.fb, State.fb, hf]

theorem State.reg_raise_of_ne (s : State) {n a : Nat} (h : a ≠ Reg.CAT_CNT n) : (s.raise n).reg a = s.reg a := by
  unfold State.raise
  split
  · rfl
  · dsimp only
    split <;> exact (State.reg_setF _ _ _ _).trans (if_neg h)

theorem State.canUnit_raise (s : State) (k : Nat) (n : Fin 2) : (s.raise k).canUnit n = s.canUnit n := by
  rw [State.raise_frame]; rfl

theorem State.canUnit_level (s : State) (k : Nat) (on : Bool) (n : Fin 2) :
    (s.level k on).canUnit n = s.canUnit n := by
  rw [State.level_frame]; rfl

theorem State.live_updCan (s : State) (n : Fin 2) (h : Can → Can) : (s.updCan n h).live = s.live := rfl

/-! ### Which frame goes next (R425) -/

/-- The frame goes first of the list: before it stand frames of lower priority only, and none after it comes before. -/
def IsFirst (h : CanFrame) (l : List CanFrame) : Prop :=
  ∃ pre post, l = pre ++ h :: post ∧ (∀ x ∈ pre, canPrio h < canPrio x) ∧ ∀ x ∈ post, canPrio h ≤ canPrio x

theorem IsFirst.le {h g : CanFrame} {l : List CanFrame} (hf : IsFirst h l) (hg : g ∈ l) : canPrio h ≤ canPrio g := by
  obtain ⟨pre, post, rfl, hpre, hpost⟩ := hf
  rcases List.mem_append.mp hg with hm | hm
  · exact (hpre g hm).le
  · rcases List.mem_cons.mp hm with rfl | hm
    · exact le_rfl
    · exact hpost g hm

/-- A frame pushed after the others goes first only where its priority is higher. -/
theorem IsFirst.push {h f : CanFrame} {l : List CanFrame} (hf : IsFirst h l) :
    IsFirst (if canPrio f < canPrio h then f else h) (l ++ [f]) := by
  split
  · next hlt =>
    exact ⟨l, [], rfl, fun x hx => hlt.trans_le (hf.le hx), fun x hx => absurd hx List.not_mem_nil⟩
  · next hge =>
    obtain ⟨pre, post, rfl, hpre, hpost⟩ := hf
    refine ⟨pre, post ++ [f], by simp, hpre, fun x hx => ?_⟩
    rcases List.mem_append.mp hx with hm | hm
    · exact hpost x hm
    · rw [List.mem_singleton.mp hm]; exact not_lt.mp hge

theorem canFirst_some (h f : CanFrame) :
    canFirst (some h) f = some (if canPrio f < canPrio h then f else h) := by
  by_cases hlt : canPrio f < canPrio h
  · rw [canFirst, if_pos hlt, if_pos hlt]
  · rw [canFirst, if_neg hlt, if_neg hlt]

/-- The choice among the frames of a list is the one that goes first of them. -/
theorem foldl_canFirst (l : List CanFrame) (hl : l ≠ []) : ∃ h, l.foldl canFirst none = some h ∧ IsFirst h l := by
  induction l using List.reverseRecOn with
  | nil => exact absurd rfl hl
  | append_singleton l f ih =>
    rw [List.foldl_append]
    by_cases he : l = []
    · subst he
      exact ⟨f, rfl, [], [], rfl, fun x hx => absurd hx List.not_mem_nil, fun x hx => absurd hx List.not_mem_nil⟩
    · obtain ⟨h, heq, hf⟩ := ih he
      refine ⟨_, ?_, hf.push (f := f)⟩
      rw [heq, List.foldl_cons, List.foldl_nil, canFirst_some]

/-- First of the frames that may be sent: a frame of the list, with frames that may be sent before it of lower
priority only. -/
theorem IsFirst.of_filter {p : CanFrame → Bool} {h : CanFrame} {l : List CanFrame} (hf : IsFirst h (l.filter p)) :
    ∃ pre post, l = pre ++ h :: post ∧ ∀ x ∈ pre, p x = true → canPrio h < canPrio x := by
  obtain ⟨pre, post, heq, hpre, -⟩ := hf
  obtain ⟨l₁, l₂, rfl, h₁, h₂⟩ := List.filter_eq_append_iff.mp heq
  obtain ⟨m₁, m₂, rfl, hm, -, -⟩ := List.filter_eq_cons_iff.mp h₂
  refine ⟨l₁ ++ m₁, m₂, by simp, fun x hx hp => ?_⟩
  rcases List.mem_append.mp hx with hx | hx
  · exact hpre x (h₁ ▸ List.mem_filter.mpr ⟨hx, hp⟩)
  · exact absurd hp (hm x hx)

/-- The frame that was picked is in the queue, of the highest priority among those that may be sent, and before the
others of that priority. -/
theorem State.cur_canPick {s : State} {n : Fin 2} {g : CanFrame} (hg : g ∈ (s.canUnit n).tx)
    (hs : s.canMaySend n g = true) : ∃ h, ((s.canPick n).canUnit n).cur = some h ∧ canPrio h ≤ canPrio g ∧
      ∃ pre post, (s.canUnit n).tx = pre ++ h :: post ∧
        ∀ x ∈ pre, s.canMaySend n x = true → canPrio h < canPrio x := by
  have hmem : g ∈ (s.canUnit n).tx.filter (s.canMaySend n) := List.mem_filter.mpr ⟨hg, hs⟩
  obtain ⟨h, heq, hf⟩ := foldl_canFirst _ (List.ne_nil_of_mem hmem)
  refine ⟨h, ?_, hf.le hmem, hf.of_filter⟩
  rw [State.canPick, State.canUnit_updCan, if_pos rfl]
  exact heq

/-! ### What RXE shows (R424) -/

/-- The words that RXE shows of a receive FIFO. -/
def rxeWords (rx : List CanEntry) : List Word :=
  let bytes : List Byte := match rx with
    | e :: _ => (canBytes e.frame) ++ List.replicate (64 - (canBytes e.frame).length) 0
    | [] => List.replicate 64 0
  let head : List Word := match rx with
    | e :: _ => [e.frame.w0, (e.frame.w1 &&& 0x3F) ||| BitVec.ofNat 32 (e.filter * 256), e.stamp]
    | [] => [0, 0, 0]
  head ++ (List.range 16).map (fun i => BitVec.ofNat 32 (leNat ((bytes.drop (4 * i)).take 4)))

/-- Words put one after the other in the registers of a row. -/
def State.setRow (s : State) (at_ : Nat → Nat) (ws : List (Word × Nat)) : State :=
  s.each ws (fun t e => t.setReg (at_ e.2) e.1)

/-- The fills of the two queues, shown in CNT. -/
def State.showFill (s : State) (n : Fin 2) : State :=
  (s.setF (Fld.CAN_CNT_RXFILL n) (s.canUnit n).rx.length).setF (Fld.CAN_CNT_TXFILL n) (s.canUnit n).tx.length

theorem State.showCan_eq (s : State) (n : Fin 2) :
    s.showCan n = (s.showFill n).setRow (Reg.CAN_RXE n) (rxeWords (s.canUnit n).rx).zipIdx := by
  unfold State.showCan rxeWords State.setRow State.showFill
  rcases h : (s.canUnit n).rx with _ | ⟨e, r⟩ <;> simp only [h]

theorem length_rxeWords (rx : List CanEntry) : (rxeWords rx).length = 19 := by
  cases rx <;> simp [rxeWords]

theorem leNat_replicate_zero (k : Nat) : leNat (List.replicate k 0) = 0 := by
  induction k with
  | zero => rfl
  | succ k ih => rw [List.replicate_succ, leNat, ih]; rfl

theorem rxeWords_nil : rxeWords [] = List.replicate 19 0 := by
  have hword (i : Nat) : BitVec.ofNat 32 (leNat (((List.replicate 64 0).drop (4 * i)).take 4)) = 0 := by
    rw [List.drop_replicate, List.take_replicate, leNat_replicate_zero]
    rfl
  have hrow : (List.range 16).map (fun i => BitVec.ofNat 32 (leNat (((List.replicate 64 0).drop (4 * i)).take 4))) =
      List.replicate 16 (0 : Word) := by
    rw [funext hword, List.map_const', List.length_range]
  exact congrArg (List.append [0, 0, 0]) hrow

section
variable (s : State) (at_ : Nat → Nat)

theorem State.setRow_cons (e : Word × Nat) (ws : List (Word × Nat)) :
    s.setRow at_ (e :: ws) = (s.setReg (at_ e.2) e.1).setRow at_ ws := rfl

theorem State.reg_setRow_of_ne {a : Nat} (ws : List (Word × Nat)) (h : ∀ e ∈ ws, a ≠ at_ e.2) :
    (s.setRow at_ ws).reg a = s.reg a := by
  induction ws generalizing s with
  | nil => rfl
  | cons e ws ih =>
    rw [State.setRow_cons, ih _ fun x hx => h x (List.mem_cons_of_mem _ hx), State.reg_setReg,
      if_neg (h e List.mem_cons_self)]

theorem State.reg_setRow_zipIdx (hinj : Function.Injective at_) (ws : List Word) (i k : Nat) (w : Word)
    (hw : ws[k]? = some w) : (s.setRow at_ (ws.zipIdx i)).reg (at_ (i + k)) = w := by
  induction ws generalizing s i k with
  | nil => simp at hw
  | cons x ws ih =>
    rw [List.zipIdx_cons, State.setRow_cons]
    cases k with
    | zero =>
      rw [State.reg_setRow_of_ne, State.reg_setReg]
      · exact (if_pos rfl).trans (Option.some.inj hw)
      · intro e he heq
        have hlt := (List.mem_zipIdx he).1
        have heq := hinj heq
        omega
    | succ k =>
      rw [Nat.add_comm k 1, ← Nat.add_assoc]
      exact ih _ _ _ hw

theorem State.setRow_frame (ws : List (Word × Nat)) :
    s.setRow at_ ws = { s with regs := (s.setRow at_ ws).regs } := by
  induction ws generalizing s with
  | nil => rfl
  | cons e ws ih => rw [State.setRow_cons, ih]; rfl

end

/-! ### Registers and hidden state of the controller's operations -/

section
variable (s : State) (n : Fin 2)

/-- The registers in which a controller shows its queues: CNT and RXE. -/
def ShownAt (n : Fin 2) (a : Nat) : Prop := a = Reg.CAN_CNT n ∨ ∃ k < 19, a = Reg.CAN_RXE n k

/-- The registers of the controllers lie above the Catchment's counts. -/
theorem ne_cat {a k : Nat} (h : 0x40600000 ≤ a) (hk : k < 1000) : a ≠ Reg.CAT_CNT k := by
  simp only [Reg.CAT_CNT]
  omega

theorem can_le_ctl : 0x40600000 ≤ Reg.CAN_CTL n := Nat.le_add_right _ _

theorem can_le_stat : 0x40600000 ≤ Reg.CAN_STAT n := by
  simp only [Reg.CAN_STAT]
  omega

theorem ShownAt.can_le {n : Fin 2} {a : Nat} (h : ShownAt n a) : 0x40600000 ≤ a := by
  simp only [ShownAt, Reg.CAN_CNT, Reg.CAN_RXE] at h
  omega

theorem ShownAt.ne_stat {n : Fin 2} {a : Nat} (h : ShownAt n a) : a ≠ Reg.CAN_STAT n := by
  simp only [ShownAt, Reg.CAN_CNT, Reg.CAN_RXE, Reg.CAN_STAT] at h ⊢
  omega

theorem not_shownAt_stat : ¬ ShownAt n (Reg.CAN_STAT n) := fun h => h.ne_stat rfl

theorem not_shownAt_ctl : ¬ ShownAt n (Reg.CAN_CTL n) := by
  simp only [ShownAt, Reg.CAN_CNT, Reg.CAN_RXE, Reg.CAN_CTL]
  omega

theorem not_shownAt_cat (k : Nat) (hk : k < 1000) : ¬ ShownAt n (Reg.CAT_CNT k) := fun h => ne_cat h.can_le hk rfl

theorem cat_inj {j k : Nat} (h : Reg.CAT_CNT j = Reg.CAT_CNT k) : j = k := by
  simp only [Reg.CAT_CNT] at h
  omega

theorem rxe_injective : Function.Injective (Reg.CAN_RXE n) := by
  intro i j h
  simp only [Reg.CAN_RXE] at h
  omega

theorem State.reg_showFill_of_ne {a : Nat} (h : a ≠ Reg.CAN_CNT n) : (s.showFill n).reg a = s.reg a :=
  ((State.reg_setF _ _ _ _).trans (if_neg h)).trans ((State.reg_setF _ _ _ _).trans (if_neg h))

theorem State.reg_showCan_of_ne {a : Nat} (h : ¬ ShownAt n a) : (s.showCan n).reg a = s.reg a := by
  rw [State.showCan_eq, State.reg_setRow_of_ne, State.reg_showFill_of_ne _ _ fun h0 => h (.inl h0)]
  intro e he ha
  have hlt := (List.mem_zipIdx he).2.1
  rw [length_rxeWords] at hlt
  exact h (.inr ⟨e.2, by omega, ha⟩)

theorem State.reg_showCan_rxe {k : Nat} {w : Word} (h : (rxeWords (s.canUnit n).rx)[k]? = some w) :
    (s.showCan n).reg (Reg.CAN_RXE n k) = w := by
  rw [State.showCan_eq]
  have := State.reg_setRow_zipIdx (s.showFill n) _ (rxe_injective n) _ 0 k w h
  rwa [Nat.zero_add] at this

theorem State.reg_showCan_cnt : (s.showCan n).reg (Reg.CAN_CNT n) = (s.showFill n).reg (Reg.CAN_CNT n) := by
  rw [State.showCan_eq, State.reg_setRow_of_ne]
  intro e _ h
  simp only [Reg.CAN_CNT, Reg.CAN_RXE] at h
  omega

theorem State.f_rxfill_showCan : (s.showCan n).f (Fld.CAN_CNT_RXFILL n) = (s.canUnit n).rx.length % 128 := by
  rw [State.f_congr _ (State.reg_showCan_cnt s n), State.showFill,
    State.f_setF_beside _ _ _ _ (by decide : 16 + 7 ≤ 32) (.inr (by decide : 16 + 7 ≤ 24)),
    State.f_setF_same _ _ _ (by decide : 16 + 7 ≤ 32)]
  rfl

theorem State.f_txfill_showCan : (s.showCan n).f (Fld.CAN_CNT_TXFILL n) = (s.canUnit n).tx.length % 32 := by
  rw [State.f_congr _ (State.reg_showCan_cnt s n), State.showFill, State.f_setF_same _ _ _ (by decide : 24 + 5 ≤ 32)]
  rfl

theorem State.showCan_frame : s.showCan n = { s with regs := (s.showCan n).regs } := by
  rw [State.showCan_eq, State.setRow_frame]
  rfl

theorem State.canUnit_showCan (m : Fin 2) : (s.showCan n).canUnit m = s.canUnit m := by
  rw [State.showCan_frame]; rfl

theorem State.sent_showCan : (s.showCan n).sent = s.sent := by
  rw [State.showCan_frame]

/-- REC after a reception: another number in REC, and at most a free word used. -/
theorem State.recDown_cases : ∃ x v : Nat, s.recDown n = { s.setF (Fld.CAN_STAT_REC n) v with free := x } := by
  unfold State.recDown
  dsimp only
  split
  · exact ⟨_, _, rfl⟩
  · exact ⟨s.free, _, rfl⟩

theorem State.recDown_of_lt (h : s.f (Fld.CAN_STAT_REC n) < 128) :
    s.recDown n = s.setF (Fld.CAN_STAT_REC n) (s.f (Fld.CAN_STAT_REC n) - 1) := by
  unfold State.recDown
  exact if_neg (by omega)

/-- The error state that counts give, but for bus-off (R426). -/
def State.errorState (s : State) (n : Fin 2) : Nat :=
  if 127 < s.f (Fld.CAN_STAT_TEC n) ∨ 127 < s.f (Fld.CAN_STAT_REC n) then 2 else 1

theorem State.canConfine_same (h : s.f (Fld.CAN_STAT_STATE n) = s.errorState n) : s.canConfine n = s := if_pos h

theorem State.canConfine_change (h : s.f (Fld.CAN_STAT_STATE n) ≠ s.errorState n) : s.canConfine n =
    (s.setF (Fld.CAN_STAT_STATE n) (s.errorState n)).raise (200 + 4 * n.val + 2) := if_neg h

theorem State.errorState_cases : s.errorState n = 1 ∨ s.errorState n = 2 := by
  unfold State.errorState
  split
  · exact .inr rfl
  · exact .inl rfl

theorem State.canConfine_frame : s.canConfine n = { s with regs := (s.canConfine n).regs } := by
  by_cases h : s.f (Fld.CAN_STAT_STATE n) = s.errorState n
  · rw [State.canConfine_same s n h]
  · rw [State.canConfine_change s n h, State.raise_frame]; rfl

theorem State.canUnit_canConfine (m : Fin 2) : (s.canConfine n).canUnit m = s.canUnit m := by
  rw [State.canConfine_frame]; rfl

theorem State.reg_canConfine_of_ne {a : Nat} (h : a ≠ Reg.CAN_STAT n) (h' : a ≠ Reg.CAT_CNT (200 + 4 * n.val + 2)) :
    (s.canConfine n).reg a = s.reg a := by
  by_cases hs : s.f (Fld.CAN_STAT_STATE n) = s.errorState n
  · rw [State.canConfine_same s n hs]
  · rw [State.canConfine_change s n hs, State.reg_raise_of_ne _ h']
    exact (State.reg_setF _ _ _ _).trans (if_neg h)

theorem State.f_state_canConfine : (s.canConfine n).f (Fld.CAN_STAT_STATE n) = s.errorState n := by
  by_cases hs : s.f (Fld.CAN_STAT_STATE n) = s.errorState n
  · rw [State.canConfine_same s n hs, hs]
  · have ha : Reg.CAN_STAT n ≠ Reg.CAT_CNT (200 + 4 * n.val + 2) := ne_cat (can_le_stat n) (by omega)
    have hlt : s.errorState n < 2 ^ 2 := by rcases s.errorState_cases n with h | h <;> omega
    rw [State.canConfine_change s n hs, State.f_congr _ (State.reg_raise_of_ne _ ha),
      State.f_setF_same _ _ _ (by decide : 0 + 2 ≤ 32)]
    exact Nat.mod_eq_of_lt hlt

end

/-! ### What the operations of a controller leave unchanged -/

/-- Beside register words and controllers nothing changed, and every queue and every other controller stands. -/
def QueuesKept (n : Fin 2) (s t : State) : Prop :=
  t = { s with regs := t.regs, can := t.can } ∧ (t.canUnit n).tx = (s.canUnit n).tx ∧
    (t.canUnit n).rx = (s.canUnit n).rx ∧ ∀ m : Fin 2, m ≠ n → t.canUnit m = s.canUnit m

/-- Beside controllers, free choices, what was sent and the registers from the Catchment's counts up nothing changed. -/
def RestKept (s t : State) : Prop :=
  t = { s with regs := t.regs, can := t.can, free := t.free, sent := t.sent } ∧
    ∀ a, a < Reg.CAT_CNT 0 → t.reg a = s.reg a

section
variable {s t u : State} {n : Fin 2}

theorem QueuesKept.trans (h : QueuesKept n s t) (k : QueuesKept n t u) : QueuesKept n s u := by
  obtain ⟨ht, htx, hrx, hm⟩ := h
  obtain ⟨hu, htx', hrx', hm'⟩ := k
  refine ⟨?_, htx'.trans htx, hrx'.trans hrx, fun m h => (hm' m h).trans (hm m h)⟩
  rw [hu, ht]

theorem QueuesKept.of_regs (h : t = { s with regs := t.regs }) : QueuesKept n s t := by
  rw [h]
  exact ⟨rfl, rfl, rfl, fun _ _ => rfl⟩

theorem queuesKept_setF (x : Field) (v : Nat) : QueuesKept n s (s.setF x v) := .of_regs rfl

theorem queuesKept_raise (k : Nat) : QueuesKept n s (s.raise k) := .of_regs (s.raise_frame k)

theorem queuesKept_level (k : Nat) (on : Bool) : QueuesKept n s (s.level k on) := .of_regs (s.level_frame k on)

/-- A change of the controller's choice and recovery alone. -/
theorem queuesKept_updCan {h : Can → Can} (htx : ∀ c, (h c).tx = c.tx) (hrx : ∀ c, (h c).rx = c.rx) :
    QueuesKept n s (s.updCan n h) := by
  refine ⟨rfl, ?_, ?_, fun m hm => ?_⟩
  · rw [State.canUnit_updCan, if_pos rfl, htx]
  · rw [State.canUnit_updCan, if_pos rfl, hrx]
  · rw [State.canUnit_updCan, if_neg hm]

theorem queuesKept_canPick : QueuesKept n s (s.canPick n) := queuesKept_updCan (fun _ => rfl) fun _ => rfl

theorem queuesKept_canConfine : QueuesKept n s (s.canConfine n) := .of_regs (s.canConfine_frame n)

theorem RestKept.trans (h : RestKept s t) (k : RestKept t u) : RestKept s u := by
  obtain ⟨ht, ha⟩ := h
  obtain ⟨hu, ha'⟩ := k
  refine ⟨?_, fun a h => (ha' a h).trans (ha a h)⟩
  rw [hu, ht]

theorem restKept_updCan (h : Can → Can) : RestKept s (s.updCan n h) := ⟨rfl, fun _ _ => rfl⟩

theorem restKept_canPick : RestKept s (s.canPick n) := restKept_updCan _

theorem restKept_send (x : Sent) : RestKept s (s.send x) := ⟨rfl, fun _ _ => rfl⟩

theorem restKept_free (k : Nat) : RestKept s { s with free := k } := ⟨rfl, fun _ _ => rfl⟩

/-- A register of the Catchment's counts or above them. -/
theorem restKept_setF (x : Field) (v : Nat) (hx : Reg.CAT_CNT 0 ≤ x.addr) : RestKept s (s.setF x v) :=
  ⟨rfl, fun _ ha => (State.reg_setF _ _ _ _).trans (if_neg (ha.trans_le hx).ne)⟩

theorem cat_le (k : Nat) : Reg.CAT_CNT 0 ≤ Reg.CAT_CNT k := by
  simp only [Reg.CAT_CNT]
  omega

theorem cat_le_can {a : Nat} (h : 0x40600000 ≤ a) : Reg.CAT_CNT 0 ≤ a := by
  simp only [Reg.CAT_CNT]
  omega

theorem restKept_raise (k : Nat) : RestKept s (s.raise k) := by
  refine ⟨?_, fun a ha => State.reg_raise_of_ne _ (ha.trans_le (cat_le k)).ne⟩
  rw [State.raise_frame]

theorem restKept_canConfine : RestKept s (s.canConfine n) := by
  refine ⟨?_, fun a ha => State.reg_canConfine_of_ne _ _ (ha.trans_le ?_).ne (ha.trans_le (cat_le _)).ne⟩
  · rw [State.canConfine_frame]
  · exact cat_le_can (can_le_stat n)

theorem restKept_showCan : RestKept s (s.showCan n) := by
  refine ⟨?_, fun a ha => State.reg_showCan_of_ne _ _ ?_⟩
  · rw [State.showCan_frame]
  · exact fun h => (ha.trans_le (cat_le_can h.can_le)).ne rfl

theorem restKept_recDown : RestKept s (s.recDown n) := by
  obtain ⟨x, v, h⟩ := s.recDown_cases n
  rw [h]
  exact (restKept_setF _ _ (cat_le_can (can_le_stat n))).trans (restKept_free x)

theorem RestKept.parts (h : RestKept s t) :
    t.mem = s.mem ∧ t.engs = s.engs ∧ t.md = s.md ∧ t.brg = s.brg := by
  obtain ⟨ht, ha⟩ := h
  have hmd : t.md = s.md := State.f_congr _ (ha _ (by decide))
  rw [ht] at hmd ⊢
  exact ⟨rfl, rfl, hmd, rfl⟩

theorem RestKept.live (h : RestKept s t) : t.live = s.live := by
  rw [h.1]; rfl

theorem RestKept.phase (h : RestKept s t) : t.whd.phase = s.whd.phase := by
  rw [h.1]

end

/-! ### What a controller shows and sends -/

section
variable {s t : State} {n : Fin 2}

/-- RXFILL and RXE show the receive FIFO (R424). -/
def ShowsOldest (n : Fin 2) (t : State) : Prop :=
  t.f (Fld.CAN_CNT_RXFILL n) = (t.canUnit n).rx.length % 128 ∧
  (∀ e r, (t.canUnit n).rx = e :: r → t.reg (Reg.CAN_RXE n 0) = e.frame.w0 ∧
    (t.reg (Reg.CAN_RXE n 1)).toNat % 64 = e.frame.w1.toNat % 64 ∧ t.reg (Reg.CAN_RXE n 2) = e.stamp ∧
    (e.filter < 32 → (t.reg (Reg.CAN_RXE n 1)).toNat / 256 = e.filter)) ∧
  ((t.canUnit n).rx = [] → ∀ k : Nat, k < 19 → t.reg (Reg.CAN_RXE n k) = 0)

/-- The control word of RXE: six bits of the frame's word 1 and the filter from bit 8 up. -/
theorem toNat_control (w : Word) (k : Nat) :
    ((w &&& 0x3F) ||| BitVec.ofNat 32 (k * 256)).toNat = w.toNat % 64 + 256 * (k % 2 ^ 24) := by
  have hlow : (w &&& 0x3F).toNat = w.toNat % 2 ^ 6 := by
    rw [BitVec.toNat_and]
    exact Nat.and_two_pow_sub_one_eq_mod _ 6
  have hlt : w.toNat % 2 ^ 6 < 2 ^ 8 := by omega
  have hhi : k * 256 % 2 ^ 32 = 2 ^ 8 * (k % 2 ^ 24) := by omega
  rw [BitVec.toNat_or, hlow, BitVec.toNat_ofNat, hhi, Nat.or_comm, ← Nat.two_pow_add_eq_or_of_lt hlt]
  omega

theorem showsOldest_showCan (s : State) (n : Fin 2) : ShowsOldest n (s.showCan n) := by
  have hu := s.canUnit_showCan n n
  refine ⟨?_, fun e r h => ?_, fun h k hk => ?_⟩
  · rw [State.f_rxfill_showCan, hu]
  · rw [hu] at h
    have hw (k : Nat) (w : Word) (hk : (rxeWords (e :: r))[k]? = some w) : (s.showCan n).reg (Reg.CAN_RXE n k) = w :=
      s.reg_showCan_rxe n (by rw [h]; exact hk)
    rw [hw 0 _ rfl, hw 1 _ rfl, hw 2 _ rfl, toNat_control]
    exact ⟨rfl, by omega, rfl, fun hf => by omega⟩
  · rw [hu] at h
    apply s.reg_showCan_rxe
    rw [h, rxeWords_nil, List.getElem?_replicate, if_pos hk]

theorem ShowsOldest.congr (h : ShowsOldest n s) (hu : t.canUnit n = s.canUnit n)
    (ha : ∀ a, ShownAt n a → t.reg a = s.reg a) : ShowsOldest n t := by
  have hr (k : Nat) (hk : k < 19) : t.reg (Reg.CAN_RXE n k) = s.reg (Reg.CAN_RXE n k) := ha _ (.inr ⟨k, hk, rfl⟩)
  obtain ⟨hfill, hcons, hnil⟩ := h
  rw [ShowsOldest, hu, State.f_congr (s := s) (Fld.CAN_CNT_RXFILL n) (ha _ (.inl rfl)), hr 0 (by omega),
    hr 1 (by omega), hr 2 (by omega)]
  exact ⟨hfill, hcons, fun he k hk => (hr k hk).trans (hnil he k hk)⟩

/-- Whether a frame may be sent depends on CTL, the timebase and the lane's state, and not on the counts while the
controller is not bus-off. -/
theorem RestKept.canMaySend (h : RestKept s t) (hctl : t.reg (Reg.CAN_CTL n) = s.reg (Reg.CAN_CTL n))
    (hs : s.f (Fld.CAN_STAT_STATE n) ≠ 3) (ht : t.f (Fld.CAN_STAT_STATE n) ≠ 3) : t.canMaySend n = s.canMaySend n := by
  have hx (x : Field) (hx : x.addr = Reg.CAN_CTL n) : t.f x = s.f x := State.f_congr x (by rw [hx, hctl])
  have htb : t.f Fld.SYS_TBSEL_ACTIVE = s.f Fld.SYS_TBSEL_ACTIVE := State.f_congr _ (h.2 _ (by decide))
  have hns : (s.f (Fld.CAN_STAT_STATE n) != 3) = true := bne_iff_ne.mpr hs
  have hnt : (t.f (Fld.CAN_STAT_STATE n) != 3) = true := bne_iff_ne.mpr ht
  funext f
  simp only [State.canMaySend, State.canOn, State.fb, h.live, h.phase, htb, hns, hnt, hx (Fld.CAN_CTL_EN n) rfl,
    hx (Fld.CAN_CTL_LISTEN n) rfl, hx (Fld.CAN_CTL_FDE n) rfl]

theorem State.canOn_iff (hl : s.live = true) (hp : s.whd.phase = .awake) (hst : s.f (Fld.CAN_STAT_STATE n) ≠ 3) :
    s.canOn n = true ↔ s.f (Fld.CAN_CTL_EN n) = 1 ∧ s.f Fld.SYS_TBSEL_ACTIVE ≠ 0 := by
  have hlt : s.f (Fld.CAN_CTL_EN n) < 2 := s.f_lt _
  simp [State.canOn, State.fb, hl, hp, hst]
  omega

end

/-! ### Receiving (R424) -/

section
variable {s t : State} {n : Fin 2} {f : CanFrame}

/-- The frame matches the enabled filter `k` (R424). -/
def State.Hits (s : State) (n : Fin 2) (f : CanFrame) (k : Nat) : Prop :=
  let id := s.reg (Reg.CAN_FLT_ID n k)
  let m := s.reg (Reg.CAN_FLT_MASK n k) &&& 0x1FFFFFFF
  id.getLsbD 31 = true ∧ id.getLsbD 29 = f.w0.getLsbD 29 ∧ f.w0 &&& m = id &&& m

theorem State.filterHit_iff (k : Nat) : s.filterHit n f k = true ↔ s.Hits n f k := by
  simp only [State.filterHit, State.Hits, canExt, Word.bit_eq, Bool.and_eq_true, beq_iff_eq, and_assoc]

theorem State.findHit_eq_some {k : Nat} (hk : k < 32) (h : s.Hits n f k) (hmin : ∀ j, j < k → ¬ s.Hits n f j) :
    (List.range 32).find? (s.filterHit n f) = some k := by
  refine List.find?_range_eq_some.mpr ⟨State.filterHit_iff k |>.mpr h, List.mem_range.mpr hk, fun j hj => ?_⟩
  rw [Bool.not_eq_true', ← Bool.not_eq_true, State.filterHit_iff]
  exact hmin j hj

theorem State.findHit_eq_none (h : ∀ k, k < 32 → ¬ s.Hits n f k) : (List.range 32).find? (s.filterHit n f) = none :=
  List.find?_eq_none.mpr fun k hk => mt (State.filterHit_iff k).mp (h k (List.mem_range.mp hk))

theorem State.findHit_isSome (h : ∃ k, k < 32 ∧ s.Hits n f k) :
    ((List.range 32).find? (s.filterHit n f)).isNone = false := by
  obtain ⟨k, hk, hit⟩ := h
  rw [← Option.not_isSome, Bool.not_eq_false', List.find?_isSome]
  exact ⟨k, List.mem_range.mpr hk, (State.filterHit_iff k).mpr hit⟩

/-- A frame stored with the index of a filter. -/
def State.canStore (s : State) (n : Fin 2) (f : CanFrame) (k : Nat) : State :=
  ((s.updCan n (fun c => { c with rx := c.rx ++ [⟨f, k, s.tnow⟩] })).showCan n).raise (200 + 4 * n.val)

theorem State.canTake_of_hit {k : Nat} (h : (List.range 32).find? (s.filterHit n f) = some k)
    (hroom : (s.canUnit n).rx.length < 64) : s.canTake n f = s.canStore n f k := by
  simp [State.canTake, State.canStore, h, not_le.mpr hroom]

theorem State.canTake_of_accall (h : (List.range 32).find? (s.filterHit n f) = none)
    (hall : s.f (Fld.CAN_CTL_ACCALL n) = 1) (hroom : (s.canUnit n).rx.length < 64) :
    s.canTake n f = s.takeWord.2.canStore n f (s.takeWord.1.toNat % 32) := by
  simp [State.canTake, State.canStore, State.fb, h, hall, not_le.mpr hroom]

theorem State.canTake_of_full (h : ((List.range 32).find? (s.filterHit n f)).isNone = false)
    (hfull : 64 ≤ (s.canUnit n).rx.length) : s.canTake n f = s.satAdd (Fld.CAN_CNT_RXLOST n) 1 := by
  simp [State.canTake, h, hfull]

theorem State.canTake_of_none (h : (List.range 32).find? (s.filterHit n f) = none)
    (hall : s.f (Fld.CAN_CTL_ACCALL n) = 0) : s.canTake n f = s := by
  simp [State.canTake, State.fb, h, hall]

/-- What a controller does after it has taken a frame: REC and the error state. -/
def State.received (s : State) (n : Fin 2) : State := (s.recDown n).canConfine n

theorem exec_canFrameReceived (hf : f.data.length ≤ 64) : exec (.canFrameReceived n f) s = .next
    (if !s.canOn n || (canFd f && !s.fb (Fld.CAN_CTL_FDE n)) then s else (s.canTake n f).received n) := by
  have hok : WellFormed.canOk f = true := decide_eq_true hf
  exact if_pos hok

theorem exec_canFrameReceived_ignored (hf : f.data.length ≤ 64)
    (h : s.canOn n = false ∨ f.w0.getLsbD 30 = true ∧ s.f (Fld.CAN_CTL_FDE n) = 0) :
    exec (.canFrameReceived n f) s = .next s := by
  rw [exec_canFrameReceived hf, if_pos]
  rcases h with h | ⟨hfd, hfde⟩
  · simp [h]
  · simp [canFd, Word.bit_eq, hfd, State.fb, hfde]

theorem exec_canFrameReceived_valid (hf : f.data.length ≤ 64) (hon : s.canOn n = true)
    (hfd : f.w0.getLsbD 30 = false ∨ s.f (Fld.CAN_CTL_FDE n) = 1) :
    exec (.canFrameReceived n f) s = .next ((s.canTake n f).received n) := by
  rw [exec_canFrameReceived hf, if_neg]
  rcases hfd with h | h
  · simp [hon, canFd, Word.bit_eq, h, -BitVec.getLsbD_eq_getElem]
  · simp [hon, State.fb, h]

theorem restKept_canStore (k : Nat) : RestKept s (s.canStore n f k) :=
  ((restKept_updCan _).trans restKept_showCan).trans (restKept_raise _)

theorem restKept_received : RestKept s (s.received n) := restKept_recDown.trans restKept_canConfine

theorem State.reg_received_of_ne {a : Nat} (h : a ≠ Reg.CAN_STAT n) (h' : a ≠ Reg.CAT_CNT (200 + 4 * n.val + 2)) :
    (s.received n).reg a = s.reg a := by
  obtain ⟨x, v, hr⟩ := s.recDown_cases n
  rw [State.received, State.reg_canConfine_of_ne _ _ h h', hr]
  exact (State.reg_setF _ _ _ _).trans (if_neg h)

theorem State.canUnit_received (m : Fin 2) : (s.received n).canUnit m = s.canUnit m := by
  obtain ⟨x, v, hr⟩ := s.recDown_cases n
  rw [State.received, State.canConfine_frame, hr]
  rfl

theorem State.canUnit_canStore (k : Nat) : (s.canStore n f k).canUnit n =
    { s.canUnit n with rx := (s.canUnit n).rx ++ [⟨f, k, s.tnow⟩] } := by
  rw [State.canStore, State.canUnit_raise, State.canUnit_showCan, State.canUnit_updCan, if_pos rfl]

theorem showsOldest_raise (k : Nat) (hk : k < 1000) (h : ShowsOldest n s) : ShowsOldest n (s.raise k) :=
  h.congr (s.canUnit_raise k n) fun _ ha => State.reg_raise_of_ne s (ne_cat ha.can_le hk)

theorem showsOldest_received (h : ShowsOldest n s) : ShowsOldest n (s.received n) :=
  h.congr (State.canUnit_received n) fun _ ha =>
    State.reg_received_of_ne ha.ne_stat (ne_cat ha.can_le (by omega))

theorem isPending_received (h : s.isPending (200 + 4 * n.val) = true) :
    (s.received n).isPending (200 + 4 * n.val) = true := by
  rw [State.isPending_congr, h]
  refine State.reg_received_of_ne (ne_cat (can_le_stat n) (by omega)).symm fun he => ?_
  have := cat_inj he
  omega

/-- The lane around a controller that has stored a frame: the receive FIFO ends with the frame, RXE shows the oldest,
and the source of receptions is pending (R424). -/
theorem received_canStore (hl : s.live = true) (k : Nat) :
    let t := (s.canStore n f k).received n
    (t.mem = s.mem ∧ t.engs = s.engs ∧ t.md = s.md ∧ t.brg = s.brg) ∧ ShowsOldest n t ∧
      t.isPending (200 + 4 * n.val) = true ∧
      t.canUnit n = { s.canUnit n with rx := (s.canUnit n).rx ++ [⟨f, k, s.tnow⟩] } := by
  refine ⟨((restKept_canStore k).trans restKept_received).parts, ?_, ?_, ?_⟩
  · exact showsOldest_received (showsOldest_raise _ (by omega) (showsOldest_showCan _ _))
  · refine isPending_received (State.isPending_raise _ _ ?_)
    rw [((restKept_updCan _).trans restKept_showCan).live, hl]
  · rw [State.canUnit_received, State.canUnit_canStore]

/-- An error-active controller whose counts are below 128 only counts REC down. -/
theorem State.received_active (htec : s.f (Fld.CAN_STAT_TEC n) < 128) (hrec : s.f (Fld.CAN_STAT_REC n) < 128)
    (hst : s.f (Fld.CAN_STAT_STATE n) = 1) :
    s.received n = s.setF (Fld.CAN_STAT_REC n) (s.f (Fld.CAN_STAT_REC n) - 1) := by
  rw [State.received, State.recDown_of_lt s n hrec]
  have ht := State.f_setF_beside s (Fld.CAN_STAT_REC n) (Fld.CAN_STAT_TEC n) (s.f (Fld.CAN_STAT_REC n) - 1)
    (by decide : 8 + 8 ≤ 32) (.inr (by decide : 8 + 8 ≤ 16))
  have hs := State.f_setF_beside s (Fld.CAN_STAT_REC n) (Fld.CAN_STAT_STATE n) (s.f (Fld.CAN_STAT_REC n) - 1)
    (by decide : 0 + 2 ≤ 32) (.inr (by decide : 0 + 2 ≤ 16))
  have hr : (s.setF (Fld.CAN_STAT_REC n) (s.f (Fld.CAN_STAT_REC n) - 1)).f (Fld.CAN_STAT_REC n) < 128 := by
    rw [State.f_setF_same _ _ _ (by decide : 16 + 8 ≤ 32)]
    exact (Nat.mod_le _ _).trans_lt (by omega)
  refine State.canConfine_same _ _ ?_
  rw [State.errorState, ht, hs, hst, if_neg (by omega)]

/-- A frame that finds the FIFO full is counted in RXLOST and not stored. -/
theorem effect_canFrameReceived_full (hx : exec (.canFrameReceived n f) s = .next ((s.canTake n f).received n))
    (htec : s.f (Fld.CAN_STAT_TEC n) < 128) (hrec : s.f (Fld.CAN_STAT_REC n) < 128)
    (hst : s.f (Fld.CAN_STAT_STATE n) = 1) (hit : ∃ k, k < 32 ∧ s.Hits n f k)
    (hfull : 64 ≤ (s.canUnit n).rx.length) : Effect (.canFrameReceived n f) s s
      [(Fld.CAN_CNT_RXLOST n, min 255 (s.f (Fld.CAN_CNT_RXLOST n) + 1)),
        (Fld.CAN_STAT_REC n, s.f (Fld.CAN_STAT_REC n) - 1)] := by
  rw [State.canTake_of_full (State.findHit_isSome hit) hfull] at hx
  have hne : Reg.CAN_STAT n ≠ Reg.CAN_CNT n := by
    simp only [Reg.CAN_STAT, Reg.CAN_CNT]
    omega
  have hf (x : Field) (h : x.addr = Reg.CAN_STAT n) : (s.satAdd (Fld.CAN_CNT_RXLOST n) 1).f x = s.f x :=
    State.f_setF_reg s _ _ _ (h ▸ hne)
  rw [State.received_active (by rwa [hf _ rfl]) (by rwa [hf _ rfl]) (by rwa [hf _ rfl]), hf _ rfl] at hx
  exact ⟨_, hx, rfl, RegsAre_append (regsAre_satAdd s _ 1) (regsAre_setF _ _ _)⟩

theorem effect_canFrameReceived_none (hx : exec (.canFrameReceived n f) s = .next ((s.canTake n f).received n))
    (htec : s.f (Fld.CAN_STAT_TEC n) < 128) (hrec : s.f (Fld.CAN_STAT_REC n) < 128)
    (hst : s.f (Fld.CAN_STAT_STATE n) = 1) (hmiss : ∀ k, k < 32 → ¬ s.Hits n f k)
    (hall : s.f (Fld.CAN_CTL_ACCALL n) = 0) : Effect (.canFrameReceived n f) s s
      [(Fld.CAN_STAT_REC n, s.f (Fld.CAN_STAT_REC n) - 1)] := by
  rw [State.canTake_of_none (State.findHit_eq_none hmiss) hall, State.received_active htec hrec hst] at hx
  exact effect_setF hx

/-- RXPOP takes the oldest entry away. -/
theorem State.wRxpop_one {v : Word} (hv : v.toNat % 2 = 1) :
    s.wRxpop n v = (s.updCan n (fun c => { c with rx := c.rx.drop 1 })).showCan n :=
  if_pos ((Word.bit_iff v 0).mpr (by omega))

theorem State.wRxpop_zero {v : Word} (hv : v.toNat % 2 = 0) : s.wRxpop n v = s := by
  have h0 : v.bit 0 = false := (Word.bit_eq_false_iff v 0).mpr (by omega)
  rw [State.wRxpop, h0]
  rfl

theorem exec_canRxpop {e : Engine} {v : Word} (hp : Passes s e (Reg.CAN_RXPOP n)) :
    exec (.canRxpop e n v) s = .next (s.wRxpop n v) := by
  have hx : exec (.canRxpop e n v) s = .next (s.access e (Reg.CAN_RXPOP n) fun t => .done (t.wRxpop n v)) := rfl
  rw [hx, State.access_pass s (s.wRxpop n v) e _ _ hp rfl]

end

/-! ### Bytes of words -/

theorem length_leBytes (v n : Nat) : (leBytes v n).length = n := by
  induction n generalizing v with
  | zero => rfl
  | succ n ih => rw [leBytes, List.length_cons, ih]

theorem getElem?_leBytes (v n j : Nat) (hj : j < n) : (leBytes v n)[j]? = some (BitVec.ofNat 8 (v / 256 ^ j)) := by
  induction n generalizing v j with
  | zero => omega
  | succ n ih =>
    rw [leBytes]
    cases j with
    | zero => rw [List.getElem?_cons_zero, Nat.pow_zero, Nat.div_one]
    | succ j => rw [List.getElem?_cons_succ, ih _ _ (by omega), Nat.div_div_eq_div_mul, Nat.pow_succ']

theorem ofNat_div_eq_extractLsb' (w : Word) (j : Nat) :
    BitVec.ofNat 8 (w.toNat / 256 ^ j) = w.extractLsb' (8 * j) 8 := by
  apply BitVec.eq_of_toNat_eq
  rw [BitVec.extractLsb'_toNat, BitVec.toNat_ofNat, Nat.shiftRight_eq_div_pow, Nat.pow_mul]

theorem length_wordBytes (ws : List Word) : (wordBytes ws).length = 4 * ws.length := by
  induction ws with
  | nil => rfl
  | cons w ws ih =>
    rw [wordBytes, List.flatMap_cons, List.length_append, length_leBytes, List.length_cons, Nat.mul_succ, Nat.add_comm]
    exact congrArg (· + 4) ih

/-- Byte `j` of word `k`. -/
theorem getElem?_wordBytes (ws : List Word) (k j : Nat) (w : Word) (hw : ws[k]? = some w) (hj : j < 4) :
    (wordBytes ws)[4 * k + j]? = some (w.extractLsb' (8 * j) 8) := by
  induction ws generalizing k with
  | nil => simp at hw
  | cons x ws ih =>
    rw [wordBytes, List.flatMap_cons]
    cases k with
    | zero =>
      rw [List.getElem?_append_left (by rw [length_leBytes]; omega), Nat.mul_zero, Nat.zero_add,
        getElem?_leBytes _ _ _ hj, ofNat_div_eq_extractLsb', ← Option.some.inj hw]
    | succ k =>
      rw [List.getElem?_append_right (by rw [length_leBytes]; omega), length_leBytes,
        show 4 * (k + 1) + j - 4 = 4 * k + j by omega]
      exact ih k hw

/-! ### Sending (R425) -/

section
variable {s : State} {n : Fin 2} {f : CanFrame} {e : Engine} {v : Word}

/-- The next frame is the earlier choice or picked anew; at most a free choice is used. -/
theorem State.canRepick_cases (s : State) (n : Fin 2) :
    ∃ x, s.canRepick n = { s with free := x } ∨ s.canRepick n = { s.canPick n with free := x } := by
  unfold State.canRepick
  split
  · exact ⟨s.free, .inr rfl⟩
  · split
    · exact ⟨s.free, .inl rfl⟩
    · refine ⟨s.free + 1, ?_⟩
      dsimp only
      split
      · exact .inl rfl
      · exact .inr rfl

theorem restKept_canRepick : RestKept s (s.canRepick n) := by
  obtain ⟨x, h | h⟩ := s.canRepick_cases n <;> rw [h]
  · exact restKept_free x
  · exact restKept_canPick.trans (restKept_free x)

theorem State.queues_canRepick : ((s.canRepick n).canUnit n).tx = (s.canUnit n).tx ∧
    ((s.canRepick n).canUnit n).rx = (s.canUnit n).rx := by
  obtain ⟨-, htx, hrx, -⟩ := queuesKept_canPick (s := s) (n := n)
  obtain ⟨x, h | h⟩ := s.canRepick_cases n <;> rw [h]
  · exact ⟨rfl, rfl⟩
  · exact ⟨htx, hrx⟩

theorem exec_canTxPush (hp : Passes s e (Reg.CAN_TXPUSH n)) : exec (.canTxPush e n v) s = .next (s.wTxpush n v) := by
  have hx : exec (.canTxPush e n v) s = .next (s.access e (Reg.CAN_TXPUSH n) fun t => .done (t.wTxpush n v)) := rfl
  rw [hx, State.access_pass s (s.wTxpush n v) e _ _ hp rfl]

theorem State.wTxpush_zero (hv : v.toNat % 2 = 0) : s.wTxpush n v = s := by
  have h0 : v.bit 0 = false := (Word.bit_eq_false_iff v 0).mpr (by omega)
  rw [State.wTxpush, h0]
  rfl

theorem State.wTxpush_full (hv : v.toNat % 2 = 1) (h : 16 ≤ (s.canUnit n).tx.length) :
    s.wTxpush n v = s.satAdd (Fld.CAN_CNT_TXREJ n) 1 := by
  have h1 : v.bit 0 = true := (Word.bit_iff v 0).mpr (by omega)
  simp [State.wTxpush, h1, h]

theorem State.wTxpush_room (hv : v.toNat % 2 = 1) (h : (s.canUnit n).tx.length < 16) : s.wTxpush n v =
    ((s.updCan n (fun c => { c with tx := c.tx ++ [s.canStaged n] })).canRepick n).showCan n := by
  have h1 : v.bit 0 = true := (Word.bit_iff v 0).mpr (by omega)
  simp [State.wTxpush, h1, not_le.mpr h]

theorem length_canStaged : (s.canStaged n).data.length = 64 := by
  rw [State.canStaged, length_wordBytes, List.length_map, List.length_range]

theorem getElem?_canStaged (k : Fin 16) (j : Fin 4) : (s.canStaged n).data[4 * k.val + j.val]? =
    some ((s.reg (Reg.CAN_TXS n (3 + k.val))).extractLsb' (8 * j.val) 8) := by
  refine getElem?_wordBytes _ _ _ _ ?_ j.isLt
  rw [List.getElem?_map, List.getElem?_range k.isLt]
  rfl

/-- A push that finds room: the queue ends with the staged frame, and TXFILL counts it. -/
theorem wTxpush_room_result (hv : v.toNat % 2 = 1) (h : (s.canUnit n).tx.length < 16) :
    let t := s.wTxpush n v
    RestKept s t ∧ (t.canUnit n).tx = (s.canUnit n).tx ++ [s.canStaged n] ∧ (t.canUnit n).rx = (s.canUnit n).rx ∧
      t.f (Fld.CAN_CNT_TXFILL n) = (s.canUnit n).tx.length + 1 := by
  intro t
  have ht : t = _ := State.wTxpush_room hv h
  obtain ⟨htx, hrx⟩ := State.queues_canRepick (n := n)
    (s := s.updCan n (fun c => { c with tx := c.tx ++ [s.canStaged n] }))
  rw [State.canUnit_updCan, if_pos rfl] at htx hrx
  refine ⟨?_, ?_, ?_, ?_⟩
  · rw [ht]
    exact ((restKept_updCan _).trans restKept_canRepick).trans restKept_showCan
  · rw [ht, State.canUnit_showCan, htx]
  · rw [ht, State.canUnit_showCan, hrx]
  · rw [ht, State.f_txfill_showCan, htx, List.length_append, List.length_singleton, Nat.mod_eq_of_lt (by omega)]

/-! ### The end of a transmission (R425) -/

theorem exec_canTxDone_none (h : (s.canUnit n).cur = none) : exec (.canTxDone n) s = .next s := by
  have hx : exec (.canTxDone n) s = execCanTxDone n s := rfl
  rw [hx, execCanTxDone, h]

/-- A frame goes over the bus and leaves the queue, and TEC counts down. -/
def State.canOut (s : State) (n : Fin 2) (f : CanFrame) : State :=
  ((s.updCan n (fun c => { c with tx := c.tx.erase f, cur := none })).setF (Fld.CAN_STAT_TEC n)
    (s.f (Fld.CAN_STAT_TEC n) - 1)).send (.can n (canWire f))

/-- The source of transmissions occurs for the frame, and the counts give the error state. -/
def State.canGone (s : State) (n : Fin 2) (f : CanFrame) : State :=
  ((s.canOut n f).raise (200 + 4 * n.val + 1)).canConfine n

theorem exec_canTxDone_some (h : (s.canUnit n).cur = some f) (hs : s.canMaySend n f = true)
    (hl : s.f (Fld.CAN_CTL_LOOP n) = 0) :
    exec (.canTxDone n) s = .next (((s.canGone n f).canPick n).showCan n) := by
  have hx : exec (.canTxDone n) s = execCanTxDone n s := rfl
  rw [hx, execCanTxDone, h]
  simp [hs, State.fb, hl, State.canGone, State.canOut]

theorem restKept_canOut : RestKept s (s.canOut n f) :=
  ((restKept_updCan _).trans (restKept_setF _ _ (cat_le_can (can_le_stat n)))).trans (restKept_send _)

theorem restKept_canGone : RestKept s (s.canGone n f) :=
  (restKept_canOut.trans (restKept_raise _)).trans restKept_canConfine

theorem State.canUnit_canGone : (s.canGone n f).canUnit n =
    { s.canUnit n with tx := (s.canUnit n).tx.erase f, cur := none } := by
  have hout : (s.canOut n f).canUnit n = { s.canUnit n with tx := (s.canUnit n).tx.erase f, cur := none } :=
    (State.canUnit_updCan s n n fun c => { c with tx := c.tx.erase f, cur := none }).trans (if_pos rfl)
  rw [State.canGone, State.canUnit_canConfine, State.canUnit_raise, hout]

theorem State.sent_canGone : (s.canGone n f).sent = s.sent ++ [.can n (canWire f)] := by
  have hout : (s.canOut n f).sent = s.sent ++ [.can n (canWire f)] := rfl
  rw [State.canGone, State.canConfine_frame, State.raise_frame, hout]

/-- A register that is not the controller's STAT and no count of its sources. -/
theorem State.reg_canGone_of_ne {a : Nat} (h : a ≠ Reg.CAN_STAT n) (h1 : a ≠ Reg.CAT_CNT (200 + 4 * n.val + 1))
    (h2 : a ≠ Reg.CAT_CNT (200 + 4 * n.val + 2)) : (s.canGone n f).reg a = s.reg a := by
  have hout : (s.canOut n f).reg a = s.reg a := (State.reg_setF _ (Fld.CAN_STAT_TEC n) _ a).trans (if_neg h)
  rw [State.canGone, State.reg_canConfine_of_ne _ _ h h2, State.reg_raise_of_ne _ h1, hout]

theorem State.reg_canGone_ctl : (s.canGone n f).reg (Reg.CAN_CTL n) = s.reg (Reg.CAN_CTL n) := by
  refine State.reg_canGone_of_ne ?_ (ne_cat (can_le_ctl n) (by omega)) (ne_cat (can_le_ctl n) (by omega))
  simp only [Reg.CAN_CTL, Reg.CAN_STAT]
  omega

theorem State.f_state_canGone : (s.canGone n f).f (Fld.CAN_STAT_STATE n) ≠ 3 := by
  rw [State.canGone, State.f_state_canConfine]
  rcases State.errorState_cases ((s.canOut n f).raise (200 + 4 * n.val + 1)) n with h | h <;> omega

theorem State.f_tec_canConfine : (s.canConfine n).f (Fld.CAN_STAT_TEC n) = s.f (Fld.CAN_STAT_TEC n) := by
  by_cases hs : s.f (Fld.CAN_STAT_STATE n) = s.errorState n
  · rw [State.canConfine_same s n hs]
  · have ha : Reg.CAN_STAT n ≠ Reg.CAT_CNT (200 + 4 * n.val + 2) := ne_cat (can_le_stat n) (by omega)
    rw [State.canConfine_change s n hs, State.f_congr _ (State.reg_raise_of_ne _ ha)]
    exact State.f_setF_beside _ _ _ _ (by decide : 8 + 8 ≤ 32) (.inl (by decide : 0 + 2 ≤ 8))

theorem State.f_tec_canGone : (s.canGone n f).f (Fld.CAN_STAT_TEC n) = s.f (Fld.CAN_STAT_TEC n) - 1 := by
  have ha : Reg.CAN_STAT n ≠ Reg.CAT_CNT (200 + 4 * n.val + 1) := ne_cat (can_le_stat n) (by omega)
  have hlt : s.f (Fld.CAN_STAT_TEC n) < 256 := State.f_lt s (Fld.CAN_STAT_TEC n)
  have hout : (s.canOut n f).f (Fld.CAN_STAT_TEC n) = (s.f (Fld.CAN_STAT_TEC n) - 1) % 256 :=
    State.f_setF_same _ (Fld.CAN_STAT_TEC n) _ (by decide : 8 + 8 ≤ 32)
  rw [State.canGone, State.f_tec_canConfine, State.f_congr _ (State.reg_raise_of_ne _ ha), hout]
  exact Nat.mod_eq_of_lt (by omega)

theorem State.isPending_canGone (hl : s.live = true) : (s.canGone n f).isPending (200 + 4 * n.val + 1) = true := by
  have hne : Reg.CAT_CNT (200 + 4 * n.val + 1) ≠ Reg.CAT_CNT (200 + 4 * n.val + 2) := fun he => by
    have := cat_inj he
    omega
  have hstat : Reg.CAT_CNT (200 + 4 * n.val + 1) ≠ Reg.CAN_STAT n := (ne_cat (can_le_stat n) (by omega)).symm
  rw [State.canGone, State.isPending_congr (State.reg_canConfine_of_ne _ _ hstat hne)]
  exact State.isPending_raise _ _ (restKept_canOut.live.trans hl)

theorem State.canMaySend_canGone (h : s.canMaySend n f = true) : (s.canGone n f).canMaySend n = s.canMaySend n := by
  refine restKept_canGone.canMaySend State.reg_canGone_ctl ?_ State.f_state_canGone
  simp only [State.canMaySend, State.canOn, Bool.and_eq_true, bne_iff_ne] at h
  tauto

/-- The controller and the lane around it after a completed transmission (R425). -/
theorem canTxDone_result (hl : s.live = true) (hm : s.canMaySend n f = true) :
    let t := ((s.canGone n f).canPick n).showCan n
    RestKept s t ∧ t.sent = s.sent ++ [.can n (canWire f)] ∧ (t.canUnit n).tx = (s.canUnit n).tx.erase f ∧
      (t.canUnit n).rx = (s.canUnit n).rx ∧ t.isPending (200 + 4 * n.val + 1) = true ∧
      t.f (Fld.CAN_STAT_TEC n) = s.f (Fld.CAN_STAT_TEC n) - 1 ∧
      ∀ g, g ∈ (t.canUnit n).tx → s.canMaySend n g = true → ∃ h, (t.canUnit n).cur = some h ∧
        canPrio h ≤ canPrio g ∧ ∃ pre post, (t.canUnit n).tx = pre ++ h :: post ∧
          ∀ x ∈ pre, s.canMaySend n x = true → canPrio h < canPrio x := by
  intro t
  obtain ⟨hframe, htx, hrx, -⟩ := queuesKept_canPick (s := s.canGone n f) (n := n)
  have hu : t.canUnit n = ((s.canGone n f).canPick n).canUnit n := State.canUnit_showCan _ _ _
  have hreg {a : Nat} (h : ¬ ShownAt n a) : t.reg a = (s.canGone n f).reg a := State.reg_showCan_of_ne _ _ h
  rw [← hu] at htx hrx
  refine ⟨(restKept_canGone.trans restKept_canPick).trans restKept_showCan, ?_, ?_, ?_, ?_, ?_, ?_⟩
  · rw [← State.sent_canGone]
    exact State.sent_showCan _ _
  · rw [htx, State.canUnit_canGone]
  · rw [hrx, State.canUnit_canGone]
  · rw [State.isPending_congr (hreg (not_shownAt_cat n _ (by omega))), State.isPending_canGone hl]
  · rw [State.f_congr _ (hreg (not_shownAt_stat n)), State.f_tec_canGone]
  · rw [← State.canMaySend_canGone hm, htx, hu]
    exact fun g hg hs => State.cur_canPick hg hs

theorem canWire_data : (canWire f).data = if f.w1.getLsbD 5 = true ∧ f.w0.getLsbD 30 = false then []
    else f.data.take (dlcLen (f.w0.getLsbD 30) (f.w1.toNat % 16)) := by
  have hdlc : f.w1.field 0 4 = f.w1.toNat % 16 := by simp [Word.field]
  show canBytes f = _
  rw [canBytes, canRtr, canFd, Word.bit_eq, Word.bit_eq, hdlc]
  simp only [Bool.and_eq_true, Bool.not_eq_true']

end

/-! ### On, off and recovery (R423, R426) -/

section
variable {s : State} {n : Fin 2} {e : Engine} {v : Word}

/-- Two changes of register words alone are one. -/
theorem regsOnly_trans {s t u : State} (h : t = { s with regs := t.regs }) (k : u = { t with regs := u.regs }) :
    u = { s with regs := u.regs } := by
  rw [k, h]

theorem State.setB_frame (s : State) (x : Field) (b : Bool) : s.setB x b = { s with regs := (s.setB x b).regs } := rfl

/-- The mode bits of CTL written. -/
def State.canModes (s : State) (n : Fin 2) (v : Word) : State :=
  (((s.setB (Fld.CAN_CTL_FDE n) (v.bit 1)).setB (Fld.CAN_CTL_LISTEN n) (v.bit 2)).setB
    (Fld.CAN_CTL_LOOP n) (v.bit 3)).setB (Fld.CAN_CTL_ACCALL n) (v.bit 4)

theorem State.wCanCtl_off (hen : s.f (Fld.CAN_CTL_EN n) = 0) (h5 : v.bit 5 = false) (h6 : v.bit 6 = false) :
    s.wCanCtl n v = if v.bit 0 then (s.canModes n v).canStart n else s.canModes n v := by
  simp [State.wCanCtl, State.fb, hen, h5, h6, State.canModes]

theorem State.wCanCtl_stop (hen : s.f (Fld.CAN_CTL_EN n) = 1) (h0 : v.bit 0 = false) (h5 : v.bit 5 = false)
    (h6 : v.bit 6 = false) : s.wCanCtl n v = s.canStop n := by
  simp [State.wCanCtl, State.fb, hen, h0, h5, h6]

theorem State.wCanCtl_keep (hen : s.f (Fld.CAN_CTL_EN n) = 1) (h0 : v.bit 0 = true)
    (h5 : v.bit 5 = false ∨ s.f (Fld.CAN_STAT_STATE n) ≠ 3) (h6 : v.bit 6 = false) : s.wCanCtl n v = s := by
  rcases h5 with h5 | h5 <;> simp [State.wCanCtl, State.fb, hen, h0, h5, h6]

theorem State.wCanCtl_recover (hen : s.f (Fld.CAN_CTL_EN n) = 1) (h0 : v.bit 0 = true) (h5 : v.bit 5 = true)
    (hst : s.f (Fld.CAN_STAT_STATE n) = 3) (h6 : v.bit 6 = false) :
    s.wCanCtl n v = s.updCan n (fun c => { c with recover := true }) := by
  simp [State.wCanCtl, State.fb, hen, h0, h5, hst, h6]

theorem State.wCanCtl_abort (hen : s.f (Fld.CAN_CTL_EN n) = 1) (h0 : v.bit 0 = true) (h5 : v.bit 5 = false)
    (h6 : v.bit 6 = true) : s.wCanCtl n v = s.canAbort n := by
  simp [State.wCanCtl, State.fb, hen, h0, h5, h6]

theorem exec_canEnable (hp : Passes s e (Reg.CAN_CTL n)) : exec (.canEnable e n v) s = .next (s.wCanCtl n v) := by
  have hx : exec (.canEnable e n v) s = .next (s.access e (Reg.CAN_CTL n) fun t => .done (t.wCanCtl n v)) := rfl
  rw [hx, State.access_pass s (s.wCanCtl n v) e _ _ hp rfl]

theorem exec_canRecover (hp : Passes s e (Reg.CAN_CTL n)) :
    exec (.canRecover e n v) s = .next (s.wCanCtl n (v ||| 0x20)) := by
  have hx : exec (.canRecover e n v) s =
    .next (s.access e (Reg.CAN_CTL n) fun t => .done (t.wCanCtl n (v ||| 0x20))) := rfl
  rw [hx, State.access_pass s (s.wCanCtl n (v ||| 0x20)) e _ _ hp rfl]

theorem exec_canTxabort (hp : Passes s e (Reg.CAN_CTL n)) :
    exec (.canTxabort e n v) s = .next (s.wCanCtl n (v ||| 0x40)) := by
  have hx : exec (.canTxabort e n v) s =
    .next (s.access e (Reg.CAN_CTL n) fun t => .done (t.wCanCtl n (v ||| 0x40))) := rfl
  rw [hx, State.access_pass s (s.wCanCtl n (v ||| 0x40)) e _ _ hp rfl]

/-! ### Switching on -/

/-- The mode bits that a write of `v` to CTL sets. -/
def canModeBits (n : Fin 2) (v : Word) : List (Field × Nat) :=
  [(Fld.CAN_CTL_FDE n, v.toNat / 2 % 2), (Fld.CAN_CTL_LISTEN n, v.toNat / 4 % 2),
    (Fld.CAN_CTL_LOOP n, v.toNat / 8 % 2), (Fld.CAN_CTL_ACCALL n, v.toNat / 16 % 2)]

theorem regsAre_setBit (s : State) (x : Field) (i : Nat) :
    RegsAre s (s.setB x (v.bit i)) [(x, v.toNat / 2 ^ i % 2)] := by
  rw [State.setB, Word.ofBool_bit]
  exact regsAre_setF _ _ _

theorem regsAre_canModes : RegsAre s (s.canModes n v) (canModeBits n v) :=
  RegsAre_append (RegsAre_append (RegsAre_append (regsAre_setBit _ _ 1) (regsAre_setBit _ _ 2))
    (regsAre_setBit _ _ 3)) (regsAre_setBit _ _ 4)

theorem State.canModes_frame (s : State) (n : Fin 2) (v : Word) :
    s.canModes n v = { s with regs := (s.canModes n v).regs } :=
  regsOnly_trans (regsOnly_trans (regsOnly_trans (State.setB_frame s _ _) (State.setB_frame _ _ _))
    (State.setB_frame _ _ _)) (State.setB_frame _ _ _)

theorem State.reg_canModes_of_ne {a : Nat} (h : a ≠ Reg.CAN_CTL n) : (s.canModes n v).reg a = s.reg a := by
  have hset (t : State) (x : Field) (b : Bool) (hx : x.addr = Reg.CAN_CTL n) : (t.setB x b).reg a = t.reg a :=
    (State.reg_setF _ _ _ _).trans (if_neg (hx ▸ h))
  rw [State.canModes, hset _ _ _ rfl, hset _ _ _ rfl, hset _ _ _ rfl, hset _ _ _ rfl]

/-- The bit timing is valid (R423); the fields hold their values minus 1. -/
def TimingOk (nb db : Word) : Prop :=
  let quanta (w : Word) (l1 p2 l2 : Nat) : Nat :=
    (w.toNat % 32 + 1) * (1 + (w.toNat / 32 % 2 ^ l1 + 1) + (w.toNat / 2 ^ p2 % 2 ^ l2 + 1))
  64 ≤ quanta nb 8 13 7 ∧ 8 ≤ quanta db 5 13 4 ∧ 1 ≤ nb.toNat / 32 % 256 ∧
    1 ≤ nb.toNat / 2 ^ 13 % 128 ∧ nb.toNat / 2 ^ 20 % 128 ≤ nb.toNat / 2 ^ 13 % 128 ∧
    db.toNat / 2 ^ 20 % 128 ≤ db.toNat / 2 ^ 13 % 16

theorem State.canTimingOk_iff (s : State) (n : Fin 2) :
    s.canTimingOk n = true ↔ TimingOk (s.reg (Reg.CAN_NBT n)) (s.reg (Reg.CAN_DBT n)) := by
  simp [State.canTimingOk, TimingOk, Word.field, and_assoc]

theorem State.canStart_bad (h : ¬ TimingOk (s.reg (Reg.CAN_NBT n)) (s.reg (Reg.CAN_DBT n))) :
    s.canStart n = s.setF (Fld.CAN_STAT_CFGERR n) 1 := by
  rw [← State.canTimingOk_iff, Bool.not_eq_true] at h
  simp [State.canStart, h]

theorem State.canStart_rc (h : TimingOk (s.reg (Reg.CAN_NBT n)) (s.reg (Reg.CAN_DBT n)))
    (htb : s.f Fld.SYS_TBSEL_ACTIVE = 0) :
    s.canStart n = (s.setF (Fld.CAN_STAT_CFGERR n) 0).setF (Fld.CAN_CTL_EN n) 1 := by
  rw [← State.canTimingOk_iff] at h
  simp [State.canStart, h, htb]

theorem State.canStart_go (h : TimingOk (s.reg (Reg.CAN_NBT n)) (s.reg (Reg.CAN_DBT n)))
    (htb : s.f Fld.SYS_TBSEL_ACTIVE ≠ 0) :
    s.canStart n = ((s.setF (Fld.CAN_STAT_CFGERR n) 0).setF (Fld.CAN_CTL_EN n) 1).canGo n := by
  rw [← State.canTimingOk_iff] at h
  simp [State.canStart, h, htb]

/-- CFGERR and EN, which the statement lists in the other order. -/
theorem regsAre_enable (s : State) (n : Fin 2) : RegsAre s
    ((s.setF (Fld.CAN_STAT_CFGERR n) 0).setF (Fld.CAN_CTL_EN n) 1)
    [(Fld.CAN_CTL_EN n, 1), (Fld.CAN_STAT_CFGERR n, 0)] := by
  have hne : Reg.CAN_STAT n ≠ Reg.CAN_CTL n := by
    simp only [Reg.CAN_STAT, Reg.CAN_CTL]
    omega
  have hset := RegsAre_append (regsAre_setF s (Fld.CAN_STAT_CFGERR n) 0) (regsAre_setF _ (Fld.CAN_CTL_EN n) 1)
  exact RegsAre_swap (fs := []) hne hset

theorem regsAre_canGo (s : State) (n : Fin 2) : RegsAre s (s.canGo n)
    [(Fld.CAN_STAT_STATE n, 1), (Fld.CAN_STAT_TEC n, 0), (Fld.CAN_STAT_REC n, 0)] :=
  RegsAre_congr (RegsAre_append (RegsAre_append (regsAre_setF s (Fld.CAN_STAT_STATE n) 1) (regsAre_setF _ _ _))
    (regsAre_setF _ _ _)) rfl

theorem queuesKept_canGo : QueuesKept n s (s.canGo n) :=
  (((queuesKept_setF _ _).trans (queuesKept_setF _ _)).trans (queuesKept_setF _ _)).trans queuesKept_canPick

/-! ### Switching off and aborting -/

/-- EN and STATE 0, no frame on its way and no recovery. -/
def State.canIdle (s : State) (n : Fin 2) : State :=
  ((s.setF (Fld.CAN_CTL_EN n) 0).setF (Fld.CAN_STAT_STATE n) 0).updCan n
    (fun c => { c with cur := none, recover := false })

theorem State.canStop_eq (s : State) (n : Fin 2) :
    s.canStop n = (s.canIdle n).level (200 + 4 * n.val + 3) false := rfl

theorem State.live_canIdle : (s.canIdle n).live = s.live := by
  rw [State.canIdle, State.live_updCan, State.live_setF, State.live_setF]

theorem queuesKept_canStop : QueuesKept n s (s.canStop n) := by
  have hidle : QueuesKept n s (s.canIdle n) := ((queuesKept_setF _ _).trans (queuesKept_setF _ _)).trans
    (queuesKept_updCan (h := fun c => { c with cur := none, recover := false }) (fun _ => rfl) fun _ => rfl)
  exact hidle.trans (queuesKept_level _ _)

theorem State.cur_canStop : ((s.canStop n).canUnit n).cur = none := by
  rw [State.canStop_eq, State.canUnit_level, State.canIdle, State.canUnit_updCan, if_pos rfl]

theorem regsAre_canStop (hl : s.live = true) : RegsAre s (s.canStop n)
    [(Fld.CAN_CTL_EN n, 0), (Fld.CAN_STAT_STATE n, 0), (Fld.CAT_CNT_NOW (200 + 4 * n.val + 3), 0)] := by
  have hset := RegsAre_append (regsAre_setF s (Fld.CAN_CTL_EN n) 0) (regsAre_setF _ (Fld.CAN_STAT_STATE n) 0)
  have hidle : RegsAre s (s.canIdle n) [(Fld.CAN_CTL_EN n, 0), (Fld.CAN_STAT_STATE n, 0)] := RegsAre_congr hset rfl
  have hlevel : RegsAre (s.canIdle n) (s.canStop n) [(Fld.CAT_CNT_NOW (200 + 4 * n.val + 3), 0)] :=
    regsAre_level _ _ false (State.live_canIdle.trans hl)
  exact RegsAre_append hidle hlevel

/-- TXABORT leaves at most the frame that is next, which may be in transmission. -/
theorem State.canAbort_cases (s : State) (n : Fin 2) : ∃ (x : Nat) (q : List CanFrame) (c : Option CanFrame),
    s.canAbort n = ({ s with free := x }.updCan n (fun y => { y with tx := q, cur := c })).showCan n ∧
      (q = [] ∨ ∃ f, (s.canUnit n).cur = some f ∧ q = [f] ∧ c = some f) := by
  unfold State.canAbort
  cases h : (s.canUnit n).cur with
  | none =>
    have hnone : { s.can[n.val] with tx := [] } = { s.can[n.val] with tx := [], cur := none } := by
      rw [← show s.can[n.val].cur = none from h]
    exact ⟨s.free, [], none, congrArg (fun c => State.showCan { s with can := s.can.set n.val c } n) hnone, .inl rfl⟩
  | some f =>
    refine ⟨s.free + 1, if s.takeBit.1 then [f] else [], if s.takeBit.1 then some f else none, rfl, ?_⟩
    cases s.takeBit.1
    · exact .inl rfl
    · exact .inr ⟨f, rfl, rfl, rfl⟩

theorem canAbort_result (hen : s.f (Fld.CAN_CTL_EN n) = 1) :
    let t := s.canAbort n
    t.mem = s.mem ∧ t.engs = s.engs ∧ (t.canUnit n).rx = (s.canUnit n).rx ∧ t.f (Fld.CAN_CTL_EN n) = 1 ∧
      t.f (Fld.CAN_CNT_TXFILL n) = (t.canUnit n).tx.length ∧
      ((t.canUnit n).tx = [] ∨ ∃ f, (s.canUnit n).cur = some f ∧ (t.canUnit n).tx = [f] ∧
        (t.canUnit n).cur = some f) := by
  intro t
  obtain ⟨x, q, c, heq, hq⟩ := s.canAbort_cases n
  have ht : t = _ := heq
  have hlen : q.length < 32 := by
    rcases hq with rfl | ⟨f, -, rfl, -⟩ <;> simp
  have hu : t.canUnit n = { s.canUnit n with tx := q, cur := c } := by
    rw [ht, State.canUnit_showCan, State.canUnit_updCan, if_pos rfl]
    rfl
  obtain ⟨hmem, hengs, -, -⟩ := RestKept.parts (s := s) (t := t) <| by
    rw [ht]
    exact ((restKept_free x).trans (restKept_updCan _)).trans restKept_showCan
  refine ⟨hmem, hengs, ?_, ?_, ?_, ?_⟩
  · rw [hu]
  · rw [ht, State.f_congr _ (State.reg_showCan_of_ne _ _ (not_shownAt_ctl n))]
    exact hen
  · have hshow : (t.canUnit n).tx.length % 32 = q.length := by rw [hu, Nat.mod_eq_of_lt hlen]
    rw [ht, State.f_txfill_showCan, ← State.canUnit_showCan, ← ht, hshow, hu]
  · rw [hu]
    exact hq

/-! ### Errors and recovery -/

theorem regsAre_canConfine (hl : s.live = true) : RegsAre s (s.canConfine n)
    ((Fld.CAN_STAT_STATE n, s.errorState n) ::
      if s.errorState n = s.f (Fld.CAN_STAT_STATE n) then [] else raised s (200 + 4 * n.val + 2)) := by
  by_cases h : s.f (Fld.CAN_STAT_STATE n) = s.errorState n
  · rw [State.canConfine_same s n h, if_pos h.symm, ← h]
    exact regsAre_self s _
  · have hc : Reg.CAT_CNT (200 + 4 * n.val + 2) ≠ Reg.CAN_STAT n := (ne_cat (can_le_stat n) (by omega)).symm
    rw [State.canConfine_change s n h, if_neg (Ne.symm h), ← raised_congr (t := s.setF _ _)
      ((State.reg_setF s (Fld.CAN_STAT_STATE n) (s.errorState n) _).trans (if_neg hc))]
    exact RegsAre_append (regsAre_setF s _ _) (regsAre_raise _ _ ((State.live_setF _ _ _).trans hl))

theorem exec_canBusError_off (h : s.canOn n = false) (tec rec : Nat) :
    exec (.canBusError n tec rec) s = .next s := by
  have hx : exec (.canBusError n tec rec) s = execCanBusError n tec rec s := rfl
  rw [hx, execCanBusError, h]
  rfl

/-- The counts after an error. -/
def State.canCounts (s : State) (n : Fin 2) (tec rec : Nat) : State :=
  (s.setF (Fld.CAN_STAT_TEC n) (min 255 tec)).setF (Fld.CAN_STAT_REC n) (min 255 rec)

/-- The controller goes bus-off (R426). -/
def State.canBusOff (s : State) (n : Fin 2) : State :=
  ((s.setF (Fld.CAN_STAT_STATE n) 3).raise (200 + 4 * n.val + 2)).level (200 + 4 * n.val + 3) true

/-- A bus error of a controller on the bus: the counts, then bus-off or the state that the counts give. -/
theorem exec_canBusError_on (h : s.canOn n = true) (tec rec : Nat) : exec (.canBusError n tec rec) s = .next
    (if 255 < tec then ((s.canCounts n tec rec).canBusOff n).canPick n
      else ((s.canCounts n tec rec).canConfine n).canPick n) := by
  have hx : exec (.canBusError n tec rec) s = execCanBusError n tec rec s := rfl
  rw [hx, execCanBusError, h]
  rfl

theorem State.live_canCounts (tec rec : Nat) : (s.canCounts n tec rec).live = s.live := by
  rw [State.canCounts, State.live_setF, State.live_setF]

theorem regsAre_canCounts (tec rec : Nat) : RegsAre s (s.canCounts n tec rec)
    [(Fld.CAN_STAT_TEC n, min 255 tec), (Fld.CAN_STAT_REC n, min 255 rec)] :=
  RegsAre_append (regsAre_setF s (Fld.CAN_STAT_TEC n) _) (regsAre_setF _ (Fld.CAN_STAT_REC n) _)

theorem State.reg_canCounts_of_ne {a tec rec : Nat} (h : a ≠ Reg.CAN_STAT n) :
    (s.canCounts n tec rec).reg a = s.reg a :=
  ((State.reg_setF _ (Fld.CAN_STAT_REC n) _ a).trans (if_neg h)).trans
    ((State.reg_setF _ (Fld.CAN_STAT_TEC n) _ a).trans (if_neg h))

theorem State.f_state_canCounts (tec rec : Nat) :
    (s.canCounts n tec rec).f (Fld.CAN_STAT_STATE n) = s.f (Fld.CAN_STAT_STATE n) :=
  (State.f_setF_beside _ (Fld.CAN_STAT_REC n) (Fld.CAN_STAT_STATE n) _ (by decide : 0 + 2 ≤ 32)
    (.inr (by decide : 0 + 2 ≤ 16))).trans (State.f_setF_beside _ (Fld.CAN_STAT_TEC n) (Fld.CAN_STAT_STATE n) _
    (by decide : 0 + 2 ≤ 32) (.inr (by decide : 0 + 2 ≤ 8)))

theorem State.errorState_canCounts (tec rec : Nat) :
    (s.canCounts n tec rec).errorState n = if 127 < tec ∨ 127 < rec then 2 else 1 := by
  have hrec : (s.canCounts n tec rec).f (Fld.CAN_STAT_REC n) = min 255 rec % 256 :=
    State.f_setF_same _ (Fld.CAN_STAT_REC n) _ (by decide : 16 + 8 ≤ 32)
  have htec : (s.canCounts n tec rec).f (Fld.CAN_STAT_TEC n) = min 255 tec % 256 :=
    (State.f_setF_beside _ (Fld.CAN_STAT_REC n) (Fld.CAN_STAT_TEC n) _ (by decide : 8 + 8 ≤ 32)
      (.inr (by decide : 8 + 8 ≤ 16))).trans
    (State.f_setF_same _ (Fld.CAN_STAT_TEC n) _ (by decide : 8 + 8 ≤ 32))
  rw [State.errorState, hrec, htec]
  exact if_congr (by omega) rfl rfl

theorem raised_canCounts (tec rec k : Nat) (hk : k < 1000) : raised (s.canCounts n tec rec) k = raised s k :=
  raised_congr (State.reg_canCounts_of_ne (ne_cat (can_le_stat n) hk).symm)

theorem regsAre_canBusOff (hl : s.live = true) : RegsAre s (s.canBusOff n)
    ([(Fld.CAN_STAT_STATE n, 3)] ++ raised s (200 + 4 * n.val + 2) ++ levelled (200 + 4 * n.val + 3) true) := by
  have hc : Reg.CAT_CNT (200 + 4 * n.val + 2) ≠ Reg.CAN_STAT n := (ne_cat (can_le_stat n) (by omega)).symm
  have hr : raised (s.setF (Fld.CAN_STAT_STATE n) 3) (200 + 4 * n.val + 2) = raised s (200 + 4 * n.val + 2) :=
    raised_congr ((State.reg_setF s (Fld.CAN_STAT_STATE n) 3 _).trans (if_neg hc))
  have hlive : (s.setF (Fld.CAN_STAT_STATE n) 3).live = true := (State.live_setF _ _ _).trans hl
  have hraise := regsAre_raise (s.setF (Fld.CAN_STAT_STATE n) 3) (200 + 4 * n.val + 2) hlive
  rw [hr] at hraise
  exact RegsAre_append (RegsAre_append (regsAre_setF s _ 3) hraise)
    (regsAre_level _ _ true ((State.live_raise _ _).trans hlive))

theorem queuesKept_canCounts (tec rec : Nat) : QueuesKept n s (s.canCounts n tec rec) :=
  (queuesKept_setF _ _).trans (queuesKept_setF _ _)

theorem queuesKept_canBusOff : QueuesKept n s (s.canBusOff n) :=
  ((queuesKept_setF _ _).trans (queuesKept_raise _)).trans (queuesKept_level _ _)

/-- A bus error of a controller on the bus (R426): counts, error state, its source where the state changes, and the
level of bus-off. -/
theorem canBusError_result (hl : s.live = true) (hon : s.canOn n = true) (hst : s.f (Fld.CAN_STAT_STATE n) ≠ 3)
    (tec rec : Nat) :
    let now := if 255 < tec then 3 else if 127 < tec ∨ 127 < rec then 2 else 1
    ∃ t, exec (.canBusError n tec rec) s = .next t ∧ QueuesKept n s t ∧
      RegsAre s t ([(Fld.CAN_STAT_TEC n, min 255 tec), (Fld.CAN_STAT_REC n, min 255 rec),
        (Fld.CAN_STAT_STATE n, now)] ++ (if now = s.f (Fld.CAN_STAT_STATE n) then [] else
          raised s (200 + 4 * n.val + 2)) ++ (if now = 3 then levelled (200 + 4 * n.val + 3) true else [])) := by
  intro now
  have hcounts := regsAre_canCounts (s := s) (n := n) tec rec
  have hlive : (s.canCounts n tec rec).live = true := (State.live_canCounts tec rec).trans hl
  have hk := queuesKept_canCounts (s := s) (n := n) tec rec
  by_cases htec : 255 < tec
  · have hnow : now = 3 := if_pos htec
    rw [exec_canBusError_on hon, if_pos htec, hnow, if_neg (Ne.symm hst), if_pos rfl]
    refine ⟨_, rfl, (hk.trans queuesKept_canBusOff).trans queuesKept_canPick, ?_⟩
    have hoff := regsAre_canBusOff (s := s.canCounts n tec rec) (n := n) hlive
    rw [raised_canCounts _ _ _ (by omega)] at hoff
    have h := RegsAre_append hcounts hoff
    exact RegsAre_congr h rfl
  · have hnow : now = (s.canCounts n tec rec).errorState n :=
      (if_neg htec).trans (State.errorState_canCounts tec rec).symm
    have hne : now ≠ 3 := by
      rcases (s.canCounts n tec rec).errorState_cases n with h | h <;> omega
    rw [exec_canBusError_on hon, if_neg htec, if_neg hne, List.append_nil]
    refine ⟨_, rfl, (hk.trans queuesKept_canConfine).trans queuesKept_canPick, ?_⟩
    have hconf := regsAre_canConfine (s := s.canCounts n tec rec) (n := n) hlive
    rw [raised_canCounts _ _ _ (by omega), State.f_state_canCounts, ← hnow] at hconf
    have h := RegsAre_append hcounts hconf
    exact RegsAre_congr h rfl

theorem exec_canRecoveryComplete_none
    (h : s.f (Fld.CAN_STAT_STATE n) ≠ 3 ∨ (s.canUnit n).recover = false) :
    exec (.canRecoveryComplete n) s = .next s := by
  have hx : exec (.canRecoveryComplete n) s = execCanRecoveryComplete n s := rfl
  rcases h with h | h <;> simp [hx, execCanRecoveryComplete, h]

/-- Counts 0, error-active, and no recovery running. -/
def State.canActive (s : State) (n : Fin 2) : State :=
  (((s.setF (Fld.CAN_STAT_TEC n) 0).setF (Fld.CAN_STAT_REC n) 0).setF (Fld.CAN_STAT_STATE n) 1).updCan n
    (fun c => { c with recover := false })

/-- The controller is error-active again, and its sources tell so (R426). -/
def State.canRecovered (s : State) (n : Fin 2) : State :=
  ((s.canActive n).raise (200 + 4 * n.val + 2)).level (200 + 4 * n.val + 3) false

theorem exec_canRecoveryComplete (hl : s.live = true) (hst : s.f (Fld.CAN_STAT_STATE n) = 3)
    (hr : (s.canUnit n).recover = true) :
    exec (.canRecoveryComplete n) s = .next ((s.canRecovered n).canPick n) := by
  have hx : exec (.canRecoveryComplete n) s = execCanRecoveryComplete n s := rfl
  simp [hx, execCanRecoveryComplete, hl, hst, hr, State.canRecovered, State.canActive]

theorem State.recover_canRecovered : (((s.canRecovered n).canPick n).canUnit n).recover = false := by
  rw [State.canPick, State.canUnit_updCan, if_pos rfl, State.canRecovered, State.canUnit_level, State.canUnit_raise,
    State.canActive, State.canUnit_updCan, if_pos rfl]

theorem State.live_canActive : (s.canActive n).live = s.live := by
  rw [State.canActive, State.live_updCan, State.live_setF, State.live_setF, State.live_setF]

theorem queuesKept_canActive : QueuesKept n s (s.canActive n) :=
  (((queuesKept_setF _ _).trans (queuesKept_setF _ _)).trans (queuesKept_setF _ _)).trans
    (queuesKept_updCan (h := fun c => { c with recover := false }) (fun _ => rfl) fun _ => rfl)

theorem queuesKept_canRecovered : QueuesKept n s (s.canRecovered n) :=
  (queuesKept_canActive.trans (queuesKept_raise _)).trans (queuesKept_level _ _)

theorem regsAre_canActive : RegsAre s (s.canActive n)
    [(Fld.CAN_STAT_TEC n, 0), (Fld.CAN_STAT_REC n, 0), (Fld.CAN_STAT_STATE n, 1)] := by
  have h := RegsAre_append (RegsAre_append (regsAre_setF s (Fld.CAN_STAT_TEC n) 0)
    (regsAre_setF _ (Fld.CAN_STAT_REC n) 0)) (regsAre_setF _ (Fld.CAN_STAT_STATE n) 1)
  exact RegsAre_congr h rfl

theorem regsAre_canRecovered (hl : s.live = true) : RegsAre s (s.canRecovered n)
    ([(Fld.CAN_STAT_TEC n, 0), (Fld.CAN_STAT_REC n, 0), (Fld.CAN_STAT_STATE n, 1)] ++
      raised s (200 + 4 * n.val + 2) ++ levelled (200 + 4 * n.val + 3) false) := by
  have hne : Reg.CAN_STAT n ≠ Reg.CAT_CNT (200 + 4 * n.val + 2) := ne_cat (can_le_stat n) (by omega)
  have hc : (s.canActive n).reg (Reg.CAT_CNT (200 + 4 * n.val + 2)) = s.reg (Reg.CAT_CNT (200 + 4 * n.val + 2)) := by
    rw [regsAre_canActive]
    simp [Fld.CAN_STAT_TEC, Fld.CAN_STAT_REC, Fld.CAN_STAT_STATE, hne]
  have hlive : (s.canActive n).live = true := State.live_canActive.trans hl
  have hraise := regsAre_raise (s.canActive n) (200 + 4 * n.val + 2) hlive
  rw [raised_congr hc] at hraise
  exact RegsAre_append (RegsAre_append regsAre_canActive hraise)
    (regsAre_level _ _ false ((State.live_raise _ _).trans hlive))

end

/-! ### The commands (R422 to R426) -/

section
variable {s : State} {n : Fin 2}

/-- A write of CTL that sets or clears EN and neither aborts nor recovers (R423). -/
theorem canEnable_answers {e : Engine} {v : Word} (hl : s.live = true) (hp : Passes s e (Reg.CAN_CTL n))
    (hv : v.toNat / 32 % 4 = 0) :
    let ctl := s.f (Fld.CAN_CTL_EN n)
    let ok := TimingOk (s.reg (Reg.CAN_NBT n)) (s.reg (Reg.CAN_DBT n))
    (ctl = 0 → v.toNat % 2 = 0 → Effect (.canEnable e n v) s s (canModeBits n v)) ∧
    (ctl = 0 → v.toNat % 2 = 1 → ¬ ok →
      Effect (.canEnable e n v) s s (canModeBits n v ++ [(Fld.CAN_STAT_CFGERR n, 1)])) ∧
    (ctl = 0 → v.toNat % 2 = 1 → ok → s.f Fld.SYS_TBSEL_ACTIVE = 0 → Effect (.canEnable e n v) s s
      (canModeBits n v ++ [(Fld.CAN_CTL_EN n, 1), (Fld.CAN_STAT_CFGERR n, 0)])) ∧
    (ctl = 0 → v.toNat % 2 = 1 → ok → s.f Fld.SYS_TBSEL_ACTIVE ≠ 0 →
      ∃ t, exec (.canEnable e n v) s = .next t ∧ QueuesKept n s t ∧ RegsAre s t (canModeBits n v ++
        [(Fld.CAN_CTL_EN n, 1), (Fld.CAN_STAT_CFGERR n, 0), (Fld.CAN_STAT_STATE n, 1), (Fld.CAN_STAT_TEC n, 0),
          (Fld.CAN_STAT_REC n, 0)])) ∧
    (ctl = 1 → v.toNat % 2 = 1 → exec (.canEnable e n v) s = .next s) ∧
    (ctl = 1 → v.toNat % 2 = 0 → ∃ t, exec (.canEnable e n v) s = .next t ∧ QueuesKept n s t ∧
      (t.canUnit n).cur = none ∧ RegsAre s t [(Fld.CAN_CTL_EN n, 0), (Fld.CAN_STAT_STATE n, 0),
        (Fld.CAT_CNT_NOW (200 + 4 * n.val + 3), 0)]) := by
  have h5 : v.bit 5 = false := (Word.bit_eq_false_iff v 5).mpr (by omega)
  have h6 : v.bit 6 = false := (Word.bit_eq_false_iff v 6).mpr (by omega)
  have hon (h : v.toNat % 2 = 1) : v.bit 0 = true := (Word.bit_iff v 0).mpr (by omega)
  have hoff (h : v.toNat % 2 = 0) : v.bit 0 = false := (Word.bit_eq_false_iff v 0).mpr (by omega)
  have hother {a : Nat} (h : a ≠ Reg.CAN_CTL n) : (s.canModes n v).reg a = s.reg a := State.reg_canModes_of_ne h
  have hnb := hother (a := Reg.CAN_NBT n) (by simp only [Reg.CAN_NBT, Reg.CAN_CTL]; omega)
  have hdb := hother (a := Reg.CAN_DBT n) (by simp only [Reg.CAN_DBT, Reg.CAN_CTL]; omega)
  have htb : (s.canModes n v).f Fld.SYS_TBSEL_ACTIVE = s.f Fld.SYS_TBSEL_ACTIVE :=
    State.f_congr _ (hother (by simp only [Fld.SYS_TBSEL_ACTIVE, Reg.SYS_TBSEL, Reg.CAN_CTL]; omega))
  have hmodes := regsAre_canModes (s := s) (n := n) (v := v)
  have hset (h0 : s.f (Fld.CAN_CTL_EN n) = 0) (hv1 : v.toNat % 2 = 1) :
      exec (.canEnable e n v) s = .next ((s.canModes n v).canStart n) := by
    rw [exec_canEnable hp, State.wCanCtl_off h0 h5 h6, if_pos (hon hv1)]
  refine ⟨fun h0 hv0 => ?_, fun h0 hv1 hok => ?_, fun h0 hv1 hok hrc => ?_, fun h0 hv1 hok hrc => ?_,
    fun h1 hv1 => ?_, fun h1 hv0 => ?_⟩
  · refine ⟨s.canModes n v, ?_, s.canModes_frame n v, hmodes⟩
    rw [exec_canEnable hp, State.wCanCtl_off h0 h5 h6, hoff hv0]
    rfl
  · refine ⟨_, hset h0 hv1, ?_, ?_⟩ <;> rw [State.canStart_bad (by rwa [hnb, hdb])]
    · exact regsOnly_trans (s.canModes_frame n v) rfl
    · exact RegsAre_append hmodes (regsAre_setF _ _ _)
  · refine ⟨_, hset h0 hv1, ?_, ?_⟩ <;> rw [State.canStart_rc (by rwa [hnb, hdb]) (by rwa [htb])]
    · exact regsOnly_trans (regsOnly_trans (s.canModes_frame n v) rfl) rfl
    · exact RegsAre_append hmodes (regsAre_enable _ n)
  · refine ⟨_, hset h0 hv1, ?_, ?_⟩ <;> rw [State.canStart_go (by rwa [hnb, hdb]) (by rwa [htb])]
    · exact (((QueuesKept.of_regs (s.canModes_frame n v)).trans (queuesKept_setF _ _)).trans
        (queuesKept_setF _ _)).trans queuesKept_canGo
    · exact RegsAre_append hmodes (RegsAre_append (regsAre_enable _ n) (regsAre_canGo _ n))
  · rw [exec_canEnable hp, State.wCanCtl_keep h1 (hon hv1) (.inl h5) h6]
  · refine ⟨_, exec_canEnable hp, ?_⟩
    rw [State.wCanCtl_stop h1 (hoff hv0) h5 h6]
    exact ⟨queuesKept_canStop, State.cur_canStop, regsAre_canStop hl⟩

/-- Writes of CTL that leave EN set: RECOVER acts on a bus-off controller, TXABORT on the queue (R425, R426). -/
theorem canRecover_canTxabort_answers {e : Engine} {v : Word} (hp : Passes s e (Reg.CAN_CTL n))
    (hen : s.f (Fld.CAN_CTL_EN n) = 1) (hv : v.toNat % 2 = 1) :
    let st := s.f (Fld.CAN_STAT_STATE n)
    (v.toNat / 64 % 2 = 0 → st = 3 → ∃ t, exec (.canRecover e n v) s = .next t ∧ QueuesKept n s t ∧ t.regs = s.regs ∧
      (t.canUnit n).recover = true ∧ (t.canUnit n).cur = (s.canUnit n).cur) ∧
    (v.toNat / 64 % 2 = 0 → st ≠ 3 → exec (.canRecover e n v) s = .next s) ∧
    (v.toNat / 32 % 2 = 0 → ∃ t, exec (.canTxabort e n v) s = .next t ∧ t.mem = s.mem ∧ t.engs = s.engs ∧
      (t.canUnit n).rx = (s.canUnit n).rx ∧ t.f (Fld.CAN_CTL_EN n) = 1 ∧
      t.f (Fld.CAN_CNT_TXFILL n) = (t.canUnit n).tx.length ∧
      ((t.canUnit n).tx = [] ∨ ∃ f, (s.canUnit n).cur = some f ∧ (t.canUnit n).tx = [f] ∧
        (t.canUnit n).cur = some f)) := by
  have h0 : v.bit 0 = true := (Word.bit_iff v 0).mpr (by omega)
  have hset {w : Word} (i : Nat) (h : w.bit i = true) : (v ||| w).bit i = true := by rw [Word.bit_or, h, Bool.or_true]
  have hkeep {w : Word} (i : Nat) (h : w.bit i = false) : (v ||| w).bit i = v.bit i := by
    rw [Word.bit_or, h, Bool.or_false]
  have h6 (h : v.toNat / 64 % 2 = 0) : (v ||| 0x20).bit 6 = false :=
    (hkeep 6 (by decide)).trans ((Word.bit_eq_false_iff v 6).mpr h)
  have h5 (h : v.toNat / 32 % 2 = 0) : (v ||| 0x40).bit 5 = false :=
    (hkeep 5 (by decide)).trans ((Word.bit_eq_false_iff v 5).mpr h)
  refine ⟨fun hv6 hst => ?_, fun hv6 hst => ?_, fun hv5 => ?_⟩
  · refine ⟨_, exec_canRecover hp, ?_⟩
    rw [State.wCanCtl_recover hen ((hkeep 0 (by decide)).trans h0) (hset 5 (by decide)) hst (h6 hv6)]
    refine ⟨queuesKept_updCan (fun _ => rfl) fun _ => rfl, rfl, ?_, ?_⟩ <;> rw [State.canUnit_updCan, if_pos rfl]
  · rw [exec_canRecover hp, State.wCanCtl_keep hen ((hkeep 0 (by decide)).trans h0) (.inr hst) (h6 hv6)]
  · refine ⟨_, exec_canTxabort hp, ?_⟩
    rw [State.wCanCtl_abort hen ((hkeep 0 (by decide)).trans h0) (h5 hv5) (hset 6 (by decide))]
    exact canAbort_result hen

/-- The end of a recovery (R426). -/
theorem canRecoveryComplete_answers (hl : s.live = true) (hst : s.f (Fld.CAN_STAT_STATE n) = 3)
    (hr : (s.canUnit n).recover = true) : ∃ t, exec (.canRecoveryComplete n) s = .next t ∧ QueuesKept n s t ∧
      (t.canUnit n).recover = false ∧ RegsAre s t ([(Fld.CAN_STAT_TEC n, 0), (Fld.CAN_STAT_REC n, 0),
        (Fld.CAN_STAT_STATE n, 1)] ++ raised s (200 + 4 * n.val + 2) ++ levelled (200 + 4 * n.val + 3) false) :=
  ⟨_, exec_canRecoveryComplete hl hst hr, queuesKept_canRecovered.trans queuesKept_canPick,
    State.recover_canRecovered, RegsAre_congr (regsAre_canRecovered hl) rfl⟩

/-- A controller that is off or bus-off, or has no timebase beyond RC, sees no error (R423, R426). -/
theorem exec_canBusError_of_off (h : s.f (Fld.CAN_CTL_EN n) = 0 ∨ s.f (Fld.CAN_STAT_STATE n) = 3 ∨
    s.f Fld.SYS_TBSEL_ACTIVE = 0) (tec rec : Nat) : exec (.canBusError n tec rec) s = .next s := by
  refine exec_canBusError_off ?_ tec rec
  rcases h with h | h | h <;> simp [State.canOn, State.fb, h]

/-- A frame on the bus (R424): not valid, stored, lost, or matching nothing. -/
theorem canFrameReceived_answers {f : CanFrame} (hl : s.live = true) (hp : s.whd.phase = .awake)
    (hst : s.f (Fld.CAN_STAT_STATE n) ≠ 3) (hf : f.data.length ≤ 64) :
    let on := s.f (Fld.CAN_CTL_EN n) = 1 ∧ s.f Fld.SYS_TBSEL_ACTIVE ≠ 0
    let c := s.canUnit n
    let kept (t : State) : Prop := t.mem = s.mem ∧ t.engs = s.engs ∧ t.md = s.md ∧ t.brg = s.brg
    let counted := [(Fld.CAN_STAT_REC n, s.f (Fld.CAN_STAT_REC n) - 1)]
    (¬ on ∨ f.w0.getLsbD 30 = true ∧ s.f (Fld.CAN_CTL_FDE n) = 0 → exec (.canFrameReceived n f) s = .next s) ∧
    (on → f.w0.getLsbD 30 = false ∨ s.f (Fld.CAN_CTL_FDE n) = 1 → s.f (Fld.CAN_STAT_REC n) < 128 →
      (∀ k : Nat, k < 32 → s.Hits n f k → (∀ j, j < k → ¬ s.Hits n f j) → c.rx.length < 64 →
        ∃ t, exec (.canFrameReceived n f) s = .next t ∧ kept t ∧ ShowsOldest n t ∧
          t.isPending (200 + 4 * n.val) = true ∧ (t.canUnit n).rx = c.rx ++ [⟨f, k, s.tnow⟩] ∧
          (t.canUnit n).tx = c.tx) ∧
      (s.f (Fld.CAN_STAT_TEC n) < 128 → s.f (Fld.CAN_STAT_STATE n) = 1 → (∃ k : Nat, k < 32 ∧ s.Hits n f k) →
        64 ≤ c.rx.length → Effect (.canFrameReceived n f) s s
          ((Fld.CAN_CNT_RXLOST n, min 255 (s.f (Fld.CAN_CNT_RXLOST n) + 1)) :: counted)) ∧
      (s.f (Fld.CAN_STAT_TEC n) < 128 → s.f (Fld.CAN_STAT_STATE n) = 1 → (∀ k : Nat, k < 32 → ¬ s.Hits n f k) →
        s.f (Fld.CAN_CTL_ACCALL n) = 0 → Effect (.canFrameReceived n f) s s counted) ∧
      ((∀ k : Nat, k < 32 → ¬ s.Hits n f k) → s.f (Fld.CAN_CTL_ACCALL n) = 1 → c.rx.length < 64 →
        ∃ t k, exec (.canFrameReceived n f) s = .next t ∧ kept t ∧ ShowsOldest n t ∧
          t.isPending (200 + 4 * n.val) = true ∧ (t.canUnit n).rx = c.rx ++ [⟨f, k, s.tnow⟩])) := by
  have hon := State.canOn_iff (n := n) hl hp hst
  refine ⟨fun h => exec_canFrameReceived_ignored hf (h.imp_left fun h => ?_), fun h hfd hrec => ?_⟩
  · rwa [← Bool.not_eq_true, hon]
  have hx := exec_canFrameReceived_valid hf (hon.mpr h) hfd
  refine ⟨fun k hk hit hmin hroom => ?_, fun htec hact hit hfull => ?_, fun htec hact hmiss hall => ?_,
    fun hmiss hall hroom => ?_⟩
  · rw [State.canTake_of_hit (State.findHit_eq_some hk hit hmin) hroom] at hx
    obtain ⟨hkept, hshow, hpend, hu⟩ := received_canStore (n := n) (f := f) hl k
    exact ⟨_, hx, hkept, hshow, hpend, by rw [hu], by rw [hu]⟩
  · exact effect_canFrameReceived_full hx htec hrec hact hit hfull
  · exact effect_canFrameReceived_none hx htec hrec hact hmiss hall
  · rw [State.canTake_of_accall (State.findHit_eq_none hmiss) hall hroom] at hx
    obtain ⟨hkept, hshow, hpend, hu⟩ :=
      received_canStore (s := s.takeWord.2) (n := n) (f := f) hl (s.takeWord.1.toNat % 32)
    exact ⟨_, _, hx, hkept, hshow, hpend, by rw [hu]; rfl⟩

/-- A pop (R424). -/
theorem canRxpop_answers {e : Engine} {v : Word} (hp : Passes s e (Reg.CAN_RXPOP n)) :
    (v.toNat % 2 = 1 → ∃ t, exec (.canRxpop e n v) s = .next t ∧
      (t.mem = s.mem ∧ t.engs = s.engs ∧ t.md = s.md ∧ t.brg = s.brg) ∧ ShowsOldest n t ∧
      (t.canUnit n).rx = (s.canUnit n).rx.tail ∧ (t.canUnit n).tx = (s.canUnit n).tx) ∧
    (v.toNat % 2 = 0 → exec (.canRxpop e n v) s = .next s) := by
  refine ⟨fun hv => ⟨_, exec_canRxpop hp, ?_⟩, fun hv => ?_⟩
  · rw [State.wRxpop_one hv, State.canUnit_showCan, State.canUnit_updCan, if_pos rfl, List.drop_one]
    exact ⟨((restKept_updCan _).trans restKept_showCan).parts, showsOldest_showCan _ _, rfl, rfl⟩
  · rw [exec_canRxpop hp, State.wRxpop_zero hv]

/-- A push (R425). -/
theorem canTxPush_answers {e : Engine} {v : Word} (hp : Passes s e (Reg.CAN_TXPUSH n)) :
    let c := s.canUnit n
    (v.toNat % 2 = 0 → exec (.canTxPush e n v) s = .next s) ∧
    (v.toNat % 2 = 1 → 16 ≤ c.tx.length → Effect (.canTxPush e n v) s s
      [(Fld.CAN_CNT_TXREJ n, min 255 (s.f (Fld.CAN_CNT_TXREJ n) + 1))]) ∧
    (v.toNat % 2 = 1 → c.tx.length < 16 → ∃ t f, exec (.canTxPush e n v) s = .next t ∧
      (t.mem = s.mem ∧ t.engs = s.engs ∧ t.md = s.md ∧ t.brg = s.brg) ∧
      f.w0 = s.reg (Reg.CAN_TXS n 0) ∧ f.w1 = s.reg (Reg.CAN_TXS n 1) ∧ f.data.length = 64 ∧
      (∀ (k : Fin 16) (j : Fin 4), f.data[4 * k.val + j.val]? =
        some ((s.reg (Reg.CAN_TXS n (3 + k.val))).extractLsb' (8 * j.val) 8)) ∧
      (t.canUnit n).tx = c.tx ++ [f] ∧ t.f (Fld.CAN_CNT_TXFILL n) = c.tx.length + 1 ∧
      (t.canUnit n).rx = c.rx) := by
  refine ⟨fun hv => ?_, fun hv hfull => ?_, fun hv hroom => ?_⟩
  · rw [exec_canTxPush hp, State.wTxpush_zero hv]
  · refine ⟨_, exec_canTxPush hp, ?_, ?_⟩ <;> rw [State.wTxpush_full hv hfull]
    · rfl
    · exact regsAre_satAdd _ _ _
  · obtain ⟨hkept, htx, hrx, hfill⟩ := wTxpush_room_result (s := s) (n := n) hv hroom
    exact ⟨_, s.canStaged n, exec_canTxPush hp, hkept.parts, rfl, rfl, length_canStaged, getElem?_canStaged, htx,
      hfill, hrx⟩

/-- A completed transmission (R425). -/
theorem canTxDone_answers {f : CanFrame} (hl : s.live = true) (hon : s.canOn n = true)
    (hcur : (s.canUnit n).cur = some f) (hlisten : s.f (Fld.CAN_CTL_LISTEN n) = 0) (hloop : s.f (Fld.CAN_CTL_LOOP n) = 0)
    (hfd : f.w0.getLsbD 30 = false ∨ s.f (Fld.CAN_CTL_FDE n) = 1) :
    let c := s.canUnit n
    ∃ t, exec (.canTxDone n) s = .next t ∧ (t.mem = s.mem ∧ t.engs = s.engs ∧ t.md = s.md ∧ t.brg = s.brg) ∧
      t.sent = s.sent ++ [.can n (canWire f)] ∧
      (canWire f).data = (if f.w1.getLsbD 5 = true ∧ f.w0.getLsbD 30 = false then []
        else f.data.take (dlcLen (f.w0.getLsbD 30) (f.w1.toNat % 16))) ∧
      (t.canUnit n).tx = c.tx.erase f ∧ (t.canUnit n).rx = c.rx ∧ t.isPending (200 + 4 * n.val + 1) = true ∧
      t.f (Fld.CAN_STAT_TEC n) = s.f (Fld.CAN_STAT_TEC n) - 1 ∧
      (∀ g, g ∈ (t.canUnit n).tx → s.canMaySend n g = true → ∃ h, (t.canUnit n).cur = some h ∧
        canPrio h ≤ canPrio g ∧ ∃ pre post, (t.canUnit n).tx = pre ++ h :: post ∧
          ∀ x ∈ pre, s.canMaySend n x = true → canPrio h < canPrio x) := by
  have hm : s.canMaySend n f = true := by
    rcases hfd with h | h
    · simp [State.canMaySend, State.fb, hon, hlisten, canFd, Word.bit_eq, h, -BitVec.getLsbD_eq_getElem]
    · simp [State.canMaySend, State.fb, hon, hlisten, h]
  obtain ⟨hkept, hsent, htx, hrx, hpend, htec, hnext⟩ := canTxDone_result hl hm
  exact ⟨_, exec_canTxDone_some hcur hm hloop, hkept.parts, hsent, canWire_data, htx, hrx, hpend, htec, hnext⟩

end

/-- Settles O55: the first half is one lemma for each command that turns a controller on or off or changes its error
state; in the second half a received frame is stored by `State.canStore`, and the frame that goes next is the one that
`State.cur_canPick` describes. -/
theorem canControllers : Obligations.CanControllers := by
  unfold Obligations.CanControllers
  refine ⟨fun n s hl hp => ⟨?_, ?_, fun tec rec => ⟨?_, fun hen hst htb => ?_⟩, ?_, ?_⟩,
    fun n s hl hp hst => ⟨?_, ?_, ?_, ?_, fun f hcur hon hlisten hloop hfd => ?_⟩⟩
  · exact fun e v hpass hv => canEnable_answers hl hpass hv
  · exact fun e v hpass hen hv => canRecover_canTxabort_answers hpass hen hv
  · exact fun h => exec_canBusError_of_off h tec rec
  · exact canBusError_result hl ((State.canOn_iff hl hp hst).mpr ⟨hen, htb⟩) hst tec rec
  · exact canRecoveryComplete_answers hl
  · exact exec_canRecoveryComplete_none
  · exact fun f hf => canFrameReceived_answers hl hp hst hf
  · exact fun e v hpass => canRxpop_answers hpass
  · exact fun e v hpass => canTxPush_answers hpass
  · exact exec_canTxDone_none
  · exact canTxDone_answers hl ((State.canOn_iff hl hp hst).mpr hon) hcur hlisten hloop hfd

end Sys2Proof.Machine
end
